-- ==== Sys2Proof/Word.lean ====
section
/-!
DEFINITION. The words of the WA640 and their plainest arithmetic: bytes of the host link, arrival stamps, the
index types of the numbered things of the manual (00_scope.md, "Numbering"), and tables of a fixed number of
entries.
-/

namespace Sys2Proof

/-- One byte of the host link (R168, R182). -/
abbrev Byte := BitVec 8

/-- A two-byte number of the host link (R182). -/
abbrev Half := BitVec 16

/-- An arrival stamp: a 32-bit value, 0 never held by a record (R62, R66). -/
abbrev Stamp := BitVec 32

/-- A point number, 0 to 63 (R1). -/
abbrev PointId := Fin 64

/-- A contact line number, 0 to 31 (R17). -/
abbrev LineId := Fin 32

/-- A lamp line number, 0 to 31 (R121). -/
abbrev LampId := Fin 32

/-- A threshold set number, 0 to 3 (R18). -/
abbrev SetId := Fin 4

/-- A group number, 0 to 7 (R83). -/
abbrev GroupId := Fin 8

/-- A cue number, 0 to 31 (R127). -/
abbrev CueId := Fin 32

/-- A tone number, 0 to 23 (R129). -/
abbrev ToneId := Fin 24

/-- A tempo number, 0 to 11 (R128). -/
abbrev TempoId := Fin 12

/-- A priority class. Class `n` of the manual (1 to 4) is the value `n - 1`, so a more urgent class is a smaller
value here as there (R2, R14). -/
abbrev PriorityClass := Fin 4

/-- A table of a fixed number of entries. -/
abbrev Table (α : Type) (n : Nat) := Vector α n

/-- The table with one entry replaced. -/
def Table.put {α : Type} {n : Nat} (t : Table α n) (i : Fin n) (x : α) : Table α n :=
  t.set i.val x i.isLt

/-- Every entry of a table sent through `f`, written over the list of entries so that it evaluates by structural
recursion. -/
def Table.map {α β : Type} {n : Nat} (f : α → β) (t : Table α n) : Table β n :=
  ⟨(t.toList.map f).toArray, by simp⟩

/-- Every entry of a table sent through `f`, which also gets the entry's number. -/
def Table.mapIdx {α β : Type} {n : Nat} (f : Fin n → α → β) (t : Table α n) : Table β n :=
  ⟨((List.finRange n).map fun i => f i t[i]).toArray, by simp⟩

/-- The next 32-bit stamp value: from 2³²−1 the counter goes on to 1, so that 0 is never offered (R66). -/
def Stamp.next (x : Stamp) : Stamp := if x + 1 = 0 then 1 else x + 1

end Sys2Proof
end

