-- ==== Sys2Proof/Syntax.lean ====
section
/-!
DEFINITION. The commands of the WA640, one constructor for each row of spec/opcode_table.json, with the operands the
row carries. A host command carries its payload fields as the bytes the host link passes on (R182: the owning command
judges each value); an event of the field, the panel, a timer or the SPI port names what it happens to.
-/

namespace Sys2Proof

/-- The four panel keys (R110). -/
inductive Key where
  | kack | ksil | krst | ktst
  deriving DecidableEq, Repr

/-- The two tone channels (R148). -/
inductive Chan where
  | a | b
  deriving DecidableEq, Repr

/-- The level of an input line: a key line, active low (R110: a pressed key pulls its line low), or RSTN. -/
inductive LineLevel where
  | high | low
  deriving DecidableEq, Repr

/-- The eleven bytes of a point configuration record as WRITE POINT carries them (R185). -/
structure PointBytes where
  kind : Byte
  priority : Byte
  source : Byte
  onDelay : Byte
  offDelay : Byte
  faultResponse : Byte
  group : Byte
  lamp : Byte
  alertCue : Byte
  ringbackCue : Byte
  channel : Byte
  deriving DecidableEq, Repr

/-- The two bytes of a cue step as WRITE STEPS carries them (R187). -/
structure StepBytes where
  tone : Byte
  length : Byte
  deriving DecidableEq, Repr

/-- The three bytes of a loop entry as WRITE CUE HEADER carries them (section 10.8, after R187). -/
structure LoopBytes where
  first : Byte
  last : Byte
  count : Byte
  deriving DecidableEq, Repr

/-- The eleven bytes of a WRITE CUE HEADER payload (R181). -/
structure HeaderBytes where
  policy : Byte
  tempo : Byte
  altFrom : Byte
  altTempo : Byte
  loopCount : Byte
  loop0 : LoopBytes
  loop1 : LoopBytes
  deriving DecidableEq, Repr

/-- The commands of spec/opcode_table.json, in its order. -/
inductive Instr where
  /-- POWER_ON_RESET (R4). -/
  | powerOnReset
  /-- LINE_SAMPLE (R17): line `line` is sampled and the conversion gives `level`. -/
  | lineSample (line : LineId) (level : Byte)
  /-- ON_DELAY_EXPIRY (R32). -/
  | onDelayExpiry (p : PointId)
  /-- OFF_DELAY_EXPIRY (R32). -/
  | offDelayExpiry (p : PointId)
  /-- SHELVE_EXPIRY (R99): the shelve entry of point `p` reaches zero. -/
  | shelveExpiry (p : PointId)
  /-- REANNOUNCE_EXPIRY (R107): the timer of the record named by its point and stamp (R74) reaches zero. -/
  | reannounceExpiry (p : PointId) (stamp : Stamp)
  /-- KEY_LINE_CHANGE (R110): the line of key `k` goes to `level`. -/
  | keyLineChange (k : Key) (level : LineLevel)
  /-- DEBOUNCE_EXPIRY (R110). -/
  | debounceExpiry (k : Key)
  /-- PANEL_TEST_EXPIRY (R115). -/
  | panelTestExpiry
  /-- HOST_TEST_EXPIRY (R116). -/
  | hostTestExpiry
  /-- STEP_END (R155). -/
  | stepEnd (c : Chan)
  /-- EDIT_IDLE_TIMEOUT (R139). -/
  | editIdleTimeout
  /-- COMMIT_CHECK_END (R141). -/
  | commitCheckEnd
  /-- SELN_FALL (R178). -/
  | selnFall
  /-- REQUEST_FRAME_END (R171). -/
  | requestFrameEnd
  /-- COMMAND_COMPLETION (R170). `marked` says whether the completion is that of a command that carries the discard
  mark (R174, R178), which is carried out apart from the link's busy state, or of the command in flight. -/
  | commandCompletion (marked : Bool)
  /-- COLLECT (R175). -/
  | collect
  /-- SELN_RISE (R176). -/
  | selnRise
  /-- LINK_RESET (R178). -/
  | linkReset
  /-- WRITE_POINT (R6). -/
  | writePoint (point : Byte) (record : PointBytes)
  /-- READ_POINT (R7). -/
  | readPoint (point : Byte)
  /-- SET_SERVICE_IN (R9): SET SERVICE with the service state IN. -/
  | setServiceIn (point : Byte)
  /-- SET_SERVICE_OUT (R10): SET SERVICE with the service state OUT. -/
  | setServiceOut (point : Byte)
  /-- WRITE_CLASS (R15). -/
  | writeClass (cls interval : Byte)
  /-- READ_CLASS (R16). -/
  | readClass (cls : Byte)
  /-- WRITE_LINE (R23). -/
  | writeLine (line mode polarity set : Byte)
  /-- READ_LINE (R24). -/
  | readLine (line : Byte)
  /-- WRITE_THRESHOLDS (R25). -/
  | writeThresholds (set s a o : Byte)
  /-- READ_THRESHOLDS (R26). -/
  | readThresholds (set : Byte)
  /-- ASSERT (R30). -/
  | assertPoint (point : Byte)
  /-- RELEASE (R30). -/
  | releasePoint (point : Byte)
  /-- ACK (R49). -/
  | ack (point expected : Byte) (stamp : Stamp)
  /-- ACK_GROUP (R50). -/
  | ackGroup (group : Byte)
  /-- ACK_ALL (R51). -/
  | ackAll
  /-- RESET (R52). -/
  | reset (point : Byte)
  /-- RESET_ALL (R53). -/
  | resetAll
  /-- READ_RECORD (R76). -/
  | readRecord (point : Byte)
  /-- LIST_ROSTER (R77). -/
  | listRoster (start : Byte)
  /-- FIRST_UNACKED (R78). -/
  | firstUnacked
  /-- READ_SUMMARY (R79). -/
  | readSummary
  /-- READ_DEFERRED (R80). -/
  | readDeferred
  /-- WRITE_GROUP (R89). -/
  | writeGroup (group enabled : Byte)
  /-- READ_GROUP (R91). -/
  | readGroup (group : Byte)
  /-- CLEAR_FIRST_OUT (R90). -/
  | clearFirstOut (group : Byte)
  /-- SHELVE (R96). -/
  | shelve (point : Byte) (minutes : Half)
  /-- UNSHELVE (R98). -/
  | unshelve (point : Byte)
  /-- LIST_SHELVED (R101). -/
  | listShelved
  /-- SILENCE (R103). -/
  | silence
  /-- WRITE_PANEL (R112). -/
  | writePanel (kack ksil krst ktst : Byte)
  /-- LAMP_TEST (R116). -/
  | lampTest (seconds : Byte)
  /-- READ_LAMPS (R125). -/
  | readLamps
  /-- BEGIN_EDIT (R136). -/
  | beginEdit (cue : Byte)
  /-- WRITE_CUE_HEADER (R137). -/
  | writeCueHeader (header : HeaderBytes)
  /-- WRITE_STEPS (R138). -/
  | writeSteps (offset : Byte) (steps : List StepBytes)
  /-- COMMIT (R140). -/
  | commit
  /-- ABORT_EDIT (R142). -/
  | abortEdit
  /-- READ_CUE (R144). -/
  | readCue (cue : Byte)
  /-- ERASE_CUE (R145). -/
  | eraseCue (cue : Byte)
  /-- WRITE_TONES (R130). -/
  | writeTones (first : Byte) (frequencies : List Half)
  /-- READ_TONES (R131). -/
  | readTones
  /-- WRITE_CHANNEL (R162). -/
  | writeChannel (channel enabled policy : Byte)
  /-- READ_CHANNEL (R164). -/
  | readChannel (channel : Byte)
  /-- RESTART (R180). -/
  | restart
  /-- READ_EVENTS (R191). -/
  | readEvents
  /-- CLEAR_EVENTS (R191). -/
  | clearEvents (flags : Half)
  /-- WRITE_EVENT_MASK (R190). -/
  | writeEventMask (mask : Half)
  /-- BYTE_COMPLETION (R178): the eighth rising edge of SCK completes byte `b`. -/
  | byteCompletion (b : Byte)
  /-- AGE_INCREMENT (R64): a whole second since the admission of point `p`'s record passes. -/
  | ageIncrement (p : PointId)
  deriving DecidableEq, Repr

end Sys2Proof
end

