-- ==== Sys2Proof/Decode.lean ====
section
/-!
DEFINITION. Commands spelled by words of the opcode table. The table gives bits to none of its rows (every row's
"fields" is empty), so no word spells a command. The host link's own reading of request frames is in
Machine/Request.lean.
-/

namespace Sys2Proof

/-- The command that an opcode-table word spells: none, since the table gives no row bits. -/
def decodeTableWord (_nbits _w : Nat) : Option Instr := none

end Sys2Proof
end

