-- ==== Sys2Proof/Config.lean ====
section
/-!
DEFINITION. What is fixed in the part: the numbers of the manual's "Principal numbers", the reference clock, and the
free values that stand where the manual leaves a value or an order open (opaque: nothing can be proved of them).
-/

namespace Sys2Proof.Config

/-- REFCLK periods in one millisecond: the reference clock runs at 4 MHz and every timer counts its periods
(00_scope.md, pin summary and "Units of time"). -/
abbrev refclkPerMs : Nat := 4000

/-- REFCLK periods in one second. -/
abbrev refclkPerSecond : Nat := 4000000

/-- The unit of the persistence delays, 10 ms (R2). -/
abbrev delayUnit : Nat := 10 * refclkPerMs

/-- The unit of the reannunciation intervals, 15 s (R14). -/
abbrev intervalUnit : Nat := 15 * refclkPerSecond

/-- One minute of a shelve, 60 seconds (R95). -/
abbrev shelveUnit : Nat := 60 * refclkPerSecond

/-- The debounce time, 40 ms (R110). -/
abbrev debounceTime : Nat := 40 * refclkPerMs

/-- The length of a panel test, 15 s (R115). -/
abbrev panelTestTime : Nat := 15 * refclkPerSecond

/-- The idle timeout of an edit session, 8 s (R136, R139). -/
abbrev editIdleTime : Nat := 8 * refclkPerSecond

/-- The link reset time, 25 ms (R178). -/
abbrev linkResetTime : Nat := 25 * refclkPerMs

/-- The flash frame, 1000 ms (R121). -/
abbrev flashFrame : Nat := 1000 * refclkPerMs

/-- How many records of general points the roster holds at most (R61). -/
abbrev generalPlaces : Nat := 38

/-- How many entries the shelve list holds at most (R94). -/
abbrev shelvePlaces : Nat := 8

/-- FREE VALUE. Where several claims arise at one moment and the manual gives no order among them (the points of one
line, R27; the points whose qualification RESTART restarts, R33; timers that reach zero in the same REFCLK period), they
are taken in the order of these keys. The first argument counts the occasions, the second numbers the claims of one
occasion. -/
opaque claimKey : Nat → Nat → Nat

/-- The one-byte response items of which R182 does not say whether they count as numbers (sent as 0x00) or as absent
one-byte items (sent as 0xFF) when they do not apply. -/
inductive InapplicableItem where
  /-- READ CUE of an EMPTY cue: its policy (R144). -/
  | cuePolicy
  /-- READ CUE of an EMPTY cue: its tempo (R144). -/
  | cueTempo
  /-- READ CUE of a cue without an alternate tempo: from_step (R144). -/
  | altFrom
  /-- READ CUE of a cue without an alternate tempo: its tempo (R144). -/
  | altTempo
  /-- READ CUE: the tone of a step beyond the step count (R144). -/
  | stepTone
  /-- READ CHANNEL of an IDLE channel: the step copy's tone (R164). -/
  | copyTone
  deriving DecidableEq, Repr

/-- FREE VALUE. Whether an item that R182 leaves open is sent as a number (0x00) or as an absent item (0xFF). -/
opaque sentAsNumber : InapplicableItem → Bool

/-- The byte of a one-byte item that does not apply, where R182 leaves open which of its two values it takes. -/
def inapplicable (item : InapplicableItem) : Byte :=
  if sentAsNumber item then 0x00 else 0xFF

/-- FREE VALUE. What SDO shows, a byte or high impedance, in the rest of a transaction that the release of RSTN finds in
progress: R167 says only that such a transaction is ignored until SELN rises (notes/assumptions/32.md). -/
opaque ignoredSdo : Option Byte

end Sys2Proof.Config
end

