-- ==== Sys2Proof/Machine/State.lean ====
section
/-!
DEFINITION. The state of the WA640: every record, list, timer, counter and pin input that the manual gives a block
(00_scope.md, "Functional blocks"), the queue of waiting commands, and the state right after power-on reset.
Timers hold the REFCLK periods left ("every timer of the part counts periods of REFCLK", 00_scope.md).
Lamps, CALM, ATTN, the tone outputs and SDO are not stored: the manual derives them (R121–R126, R161, R167, R189), and
Machine/Outputs.lean does the same.
-/

namespace Sys2Proof.Machine

/-! ## Point Table (chapter 1) -/

/-- The sequence kind of a point (R2). -/
inductive Kind where
  | auto | manual | pulse
  deriving DecidableEq, Repr

/-- Where a point's raw condition comes from (R2). -/
inductive Source where
  | line (n : LineId)
  | host
  | internal
  deriving DecidableEq, Repr

/-- How an OPEN or SHORT line sets the raw condition (R2, R27). -/
inductive FaultResponse where
  | alarm | hold
  deriving DecidableEq, Repr

/-- A point configuration record: the eleven fields of R2. -/
structure PointConfig where
  kind : Kind
  priority : PriorityClass
  source : Source
  onDelay : Byte
  offDelay : Byte
  faultResponse : FaultResponse
  group : Option GroupId
  lamp : Option LampId
  alertCue : Option CueId
  ringbackCue : Option CueId
  channel : Chan
  deriving DecidableEq, Repr

/-- The service state of a point, IN or OUT (R1). -/
inductive Service where
  | inService | outService
  deriving DecidableEq, Repr

/-- The alarm state of a point (R36). -/
inductive AlarmState where
  | outOfService | normal | deferred | alert | acked | returned | awaitReset | shelved
  deriving DecidableEq, Repr

/-! ## Line Monitor (chapter 2) -/

/-- The mode of a contact line (R22). -/
inductive LineMode where
  | unsupervised | supervised
  deriving DecidableEq, Repr

/-- The polarity of a contact line (R22). -/
inductive Polarity where
  | normal | inverted
  deriving DecidableEq, Repr

/-- The classification of a contact line: INACTIVE, ACTIVE, OPEN or SHORT (R20, R22). -/
inductive Classification where
  | inactive | active | wireOpen | wireShort
  deriving DecidableEq, Repr

/-- A threshold set: S (short), A (active) and O (open) (R18). -/
structure ThresholdSet where
  s : Byte
  a : Byte
  o : Byte
  deriving DecidableEq, Repr

/-- A line record (R22). -/
structure LineRecord where
  mode : LineMode
  polarity : Polarity
  set : SetId
  classification : Classification
  lastLevel : Option Byte
  deriving DecidableEq, Repr

/-! ## Condition Filter (chapter 2) -/

/-- The qualification state of a point (R30, R31): the host raw condition, the raw condition (`true` is present), the
qualified condition (`true` is PRESENT), the two persistence timers (`none` is idle) and the frozen indication. -/
structure Filter where
  hostRaw : Bool
  raw : Bool
  qualified : Bool
  onTimer : Option Nat
  offTimer : Option Nat
  frozen : Bool
  deriving DecidableEq, Repr

/-! ## Alarm Roster (chapter 4) -/

/-- The state of a standing record (R62). -/
inductive RecordState where
  | alert | acked | returned | awaitReset
  deriving DecidableEq, Repr

/-- Who acknowledged a record (R48, R62). -/
inductive AckSource where
  | host | panel
  deriving DecidableEq, Repr

/-- A roster record: the ten fields of R62, and the REFCLK periods until its age next goes up (R64: at each whole
second from the moment of admission). -/
structure RosterRecord where
  point : PointId
  stamp : Stamp
  state : RecordState
  firstOut : Bool
  recurrence : Nat
  silenced : Bool
  sounded : Bool
  ackSource : Option AckSource
  reannounce : Option Nat
  age : Nat
  ageClock : Nat
  deriving DecidableEq, Repr

/-! ## Group Unit (chapter 5), Shelve Unit (chapter 6) -/

/-- A group record (R83). -/
structure GroupRecord where
  firstOutEnabled : Bool
  slot : Option PointId
  armed : Bool
  deriving DecidableEq, Repr

/-- A shelve list entry (R94). -/
structure ShelveEntry where
  point : PointId
  timeLeft : Nat
  deriving DecidableEq, Repr

/-! ## Panel Interface (chapter 7) -/

/-- One value for each panel key. -/
structure PerKey (α : Type) where
  kack : α
  ksil : α
  krst : α
  ktst : α
  deriving DecidableEq, Repr

/-- The state of a key (R110): the level of its line (a pin input), its debounced state (`true` is PRESSED) and its
debounce timer (`none` is idle). -/
structure KeyState where
  line : LineLevel
  pressed : Bool
  timer : Option Nat
  deriving DecidableEq, Repr

/-- One value for each tone channel. -/
structure PerChan (α : Type) where
  a : α
  b : α
  deriving DecidableEq, Repr

/-! ## Cue Library (chapter 8) -/

/-- A cue policy: REPEAT, SINGLE or FIRM (R127). -/
inductive CuePolicy where
  | repeating | single | firm
  deriving DecidableEq, Repr

/-- What a step sounds (R127). -/
inductive StepTone where
  | tone (t : ToneId)
  | rest
  deriving DecidableEq, Repr

/-- A step of a cue: its tone or REST and its length in sixteenths (R127). -/
structure CueStep where
  tone : StepTone
  length : Nat
  deriving DecidableEq, Repr

/-- A loop entry of a cue (R127). -/
structure LoopEntry where
  first : Nat
  last : Nat
  count : Nat
  deriving DecidableEq, Repr

/-- The alternate tempo of a cue: the tempo of the steps whose index is `fromStep` or above (R127). -/
structure AltTempo where
  fromStep : Nat
  tempo : TempoId
  deriving DecidableEq, Repr

/-- The contents of a READY cue (R127). -/
structure CueContents where
  policy : CuePolicy
  tempo : TempoId
  alt : Option AltTempo
  steps : List CueStep
  loops : List LoopEntry
  deriving DecidableEq, Repr

/-- The phase of the edit session (R135). -/
inductive EditPhase where
  | openPhase | validating
  deriving DecidableEq, Repr

/-- The header buffer of the edit session, as written (R135): an absent alt is `none`. -/
structure HeaderBuffer where
  policy : CuePolicy
  tempo : Byte
  alt : Option (Byte × Byte)
  loops : List LoopBytes
  deriving DecidableEq, Repr

/-- The edit session (R135). The idle timer is `none` while it is stopped. -/
structure EditSession where
  target : CueId
  phase : EditPhase
  steps : Table StepBytes 16
  stepCount : Nat
  header : HeaderBuffer
  idleTimer : Option Nat
  deriving DecidableEq, Repr

/-! ## Tone Channels (chapter 9) -/

/-- A switch policy (R148). -/
inductive SwitchPolicy where
  | step | immediate
  deriving DecidableEq, Repr

/-- Whose demand a channel serves: a record, named by its point and its stamp, or the lamp test (R149). -/
inductive Owner where
  | record (point : PointId) (stamp : Stamp)
  | test
  deriving DecidableEq, Repr

/-- A sound demand: its owner and the cue it asks for (R150, R151). -/
structure Demand where
  owner : Owner
  cue : CueId
  deriving DecidableEq, Repr

/-- The step copy of a player context (R149). A REST has no frequency. -/
structure StepCopy where
  tone : StepTone
  length : Nat
  frequency : Option Half
  ms : Nat
  deriving DecidableEq, Repr

/-- The player context of a PLAYING channel: the items of R149, and the policy of the present pass. -/
structure Player where
  owner : Owner
  demandedCue : CueId
  playedCue : CueId
  stepIndex : Nat
  /-- MODEL'S OWN: the policy of the cue that the present pass plays. R157 asks whether the pass is one of a SINGLE or FIRM
  cue, and a COMMIT can give the cue another policy before the pass has ended (R160; notes/assumptions/34.md). -/
  passPolicy : CuePolicy
  copy : StepCopy
  timeLeft : Nat
  counters : List Nat
  firmHold : Bool
  renewed : Bool
  replacementPending : Bool
  deriving DecidableEq, Repr

/-- A tone channel: its settings (R148) and its player context, `none` being IDLE (R149). -/
structure ToneChannel where
  enabled : Bool
  policy : SwitchPolicy
  player : Option Player
  deriving DecidableEq, Repr

/-! ## Host Link Controller (chapter 10) -/

/-- The status of a response (R173). -/
inductive Status where
  | ok | none | busy | badCheck | badLength | unknown | range | state | stale | full | source | rejected
  deriving DecidableEq, Repr, Inhabited

end Sys2Proof.Machine

namespace Sys2Proof.Config

/-- FREE VALUE. The status of the response of a COMMIT that completes although a RESTART has abandoned its check: R143 says
only that the check is abandoned, and R170 that every request completes (notes/assumptions/33.md). -/
opaque abandonedCommit : Machine.Status

end Sys2Proof.Config

namespace Sys2Proof.Machine

/-- What the owning block answers to a command: the status and the payload of its response (R171). -/
structure Answer where
  status : Status
  payload : List Byte
  deriving DecidableEq, Repr

/-- How far a command in flight has come (R170, R171): handed to its owner and not yet taken; a COMMIT taken whose check
has not ended (R140); or carried out (or refused) with its answer, so that only its completion is left. -/
inductive Work where
  | awaiting (c : Instr)
  | checking
  | done (a : Answer)
  deriving DecidableEq, Repr

/-- The in-flight record of a BUSY link (R170). A record that takes the discard mark leaves the busy state (R170), and
its work moves to the link's list of marked commands. -/
structure InFlight where
  tag : Byte
  dropped : Bool
  overrun : Bool
  work : Work
  deriving DecidableEq, Repr

/-- The response in the response buffer (R174). -/
structure Response where
  status : Status
  dropped : Bool
  overrun : Bool
  tag : Byte
  payload : List Byte
  deriving DecidableEq, Repr

/-- The frame a collect shifts out (R175): its bytes, how many of them have been clocked out, and whether it is the held
response (a BUSY or NONE frame consumes nothing, R176). -/
structure CollectFrame where
  bytes : List Byte
  shifted : Nat
  isResponse : Bool
  deriving DecidableEq, Repr

/-- Where the SPI transaction stands (R167, R168, R175, R178). `idle` is SELN high; every other value is SELN low. -/
inductive Transaction where
  /-- SELN is high. -/
  | idle
  /-- SELN has fallen and no byte has completed. -/
  | opened
  /-- The bytes of a request frame are being received. -/
  | request
  /-- The frame end of the transaction has been taken: further bytes are ignored. -/
  | afterFrame
  /-- The first byte was 0x00. The frame to shift out is `none` until it is chosen. -/
  | collect (frame : Option CollectFrame)
  /-- The rest of the transaction is ignored after a link reset (R178). -/
  | ignored
  /-- A transaction found in progress at the release of RSTN: ignored until SELN rises (R167). -/
  | missed
  deriving DecidableEq, Repr

/-- The Host Link Controller: the transaction, the receive frame, the link reset timer (`none` is stopped), the in-flight
record (`none` is IDLE), the commands that carry the discard mark and are still being carried out, oldest first, and the
response buffer (R168, R170, R174, R178). -/
structure Link where
  trans : Transaction
  rx : List Byte
  timer : Option Nat
  inFlight : Option InFlight
  marked : List Work
  response : Option Response
  deriving DecidableEq, Repr

/-! ## The state -/

/-- The state of the part, block by block, and the queue of waiting commands. -/
structure State where
  /-- Point Table: the 64 point configuration records (R1, R2). -/
  config : Table PointConfig 64
  /-- Point Table: the service state of each point (R1). -/
  service : Table Service 64
  /-- Point Table: the reannunciation interval of each class, in units of 15 s (R14). -/
  classInterval : Table Byte 4
  /-- Line Monitor: the 32 line records (R22). -/
  lines : Table LineRecord 32
  /-- Line Monitor: the four threshold sets (R18). -/
  thresholds : Table ThresholdSet 4
  /-- Line Monitor: the faulted-line set, its members in line order (R29). -/
  faulted : List LineId
  /-- Condition Filter: the qualification state of each point (R31). -/
  filter : Table Filter 64
  /-- Sequence Controller: the alarm state of each point (R36). -/
  alarm : Table AlarmState 64
  /-- Alarm Roster: the standing-alarm records in roster order (R61, R63). -/
  roster : List RosterRecord
  /-- Alarm Roster: the count of records that belong to general points (R61). -/
  generalCount : Nat
  /-- Alarm Roster: the deferred list, its head first (R69). -/
  deferred : List PointId
  /-- Alarm Roster: the stamp counter (R66). -/
  stampCounter : Stamp
  /-- Group Unit: the eight group records (R83). -/
  groups : Table GroupRecord 8
  /-- Shelve Unit: the shelve list in order of expiry (R94, R95). -/
  shelves : List ShelveEntry
  /-- Panel Interface: the four keys (R110). -/
  keys : PerKey KeyState
  /-- Panel Interface: the panel record, the four key enables (R112). -/
  keyEnables : PerKey Bool
  /-- Panel Interface: the panel test, running with its time left or idle (R115). -/
  panelTest : Option Nat
  /-- Panel Interface: the host test, running with its time left or idle (R116). -/
  hostTest : Option Nat
  /-- Panel Interface: the `sounded` field of the test demand of each channel (R118). -/
  testSounded : PerChan Bool
  /-- Panel Interface: the phase of the flash timebase, in REFCLK periods (R121). -/
  flashPhase : Nat
  /-- Cue Library: the 32 cue records, `none` being EMPTY (R127). -/
  cues : Table (Option CueContents) 32
  /-- Cue Library: the tone table, in hertz (R129). -/
  tones : Table Half 24
  /-- Cue Library: the edit session (R135). -/
  edit : Option EditSession
  /-- Tone Channels A and B (R148, R149). -/
  channels : PerChan ToneChannel
  /-- Host Link Controller (chapter 10). -/
  link : Link
  /-- Event Unit: the twelve event flags, bit `n` being flag `n` (R188). -/
  events : BitVec 12
  /-- Event Unit: the event mask (R189). -/
  mask : BitVec 12
  /-- MODEL'S OWN: what the owning block answered to the host command taken last, or nothing while the last one taken is
  a COMMIT whose check has not ended. It lets a command taken without a frame in flight be read. -/
  answer : Option Answer
  /-- MODEL'S OWN: how many times an order that the manual leaves open has been taken (Config.claimKey). -/
  freeCount : Nat
  /-- The commands that are waiting, first in, first out. -/
  pending : List Instr
  deriving DecidableEq, Repr

/-- What could stop the part. The manual describes nothing that stops it, so there is no fault. -/
inductive Fault where
  deriving DecidableEq, Repr

/-- Why a command would have no meaning. -/
inductive Refusal where
  /-- Raised by the dispatcher for a command that has not been given its meaning (safe: the run stops). No arm of this
  model raises it. -/
  | notModelled (mnemonic : String)
  deriving DecidableEq, Repr

/-! ## The state after power-on reset -/

/-- The line-fault point (R1). -/
abbrev lineFaultPoint : PointId := 62

/-- The overflow point (R1). -/
abbrev overflowPoint : PointId := 63

/-- The configuration record of a general point after power-on reset (R4). -/
def PointConfig.generalReset : PointConfig :=
  { kind := .auto, priority := 3, source := .host, onDelay := 0, offDelay := 0, faultResponse := .alarm,
    group := none, lamp := none, alertCue := none, ringbackCue := none, channel := .a }

/-- The configuration record of point 62 after power-on reset (R4). -/
def PointConfig.lineFaultReset : PointConfig :=
  { kind := .auto, priority := 1, source := .internal, onDelay := 50, offDelay := 50, faultResponse := .alarm,
    group := none, lamp := none, alertCue := some 4, ringbackCue := none, channel := .b }

/-- The configuration record of point 63 after power-on reset (R4). -/
def PointConfig.overflowReset : PointConfig :=
  { kind := .auto, priority := 0, source := .internal, onDelay := 0, offDelay := 0, faultResponse := .alarm,
    group := none, lamp := none, alertCue := some 1, ringbackCue := none, channel := .a }

/-- A line record after power-on reset (R22). -/
def LineRecord.atReset : LineRecord :=
  { mode := .unsupervised, polarity := .normal, set := 0, classification := .inactive, lastLevel := none }

/-- The starting state of a point's qualification, its host raw condition absent (R30, R33). -/
def Filter.start : Filter :=
  { hostRaw := false, raw := false, qualified := false, onTimer := none, offTimer := none, frozen := false }

/-- A group record after power-on reset (R83). -/
def GroupRecord.atReset : GroupRecord := { firstOutEnabled := false, slot := none, armed := true }

/-- A tone channel after power-on reset (R148, R149). -/
def ToneChannel.atReset : ToneChannel := { enabled := true, policy := .step, player := none }

/-- The Host Link Controller after power-on reset, with SELN high (R167, R170, R174). -/
def Link.atReset : Link :=
  { trans := .idle, rx := [], timer := none, inFlight := none, marked := [], response := none }

/-- The four threshold sets after power-on reset (R18). -/
def thresholdsAtReset : Table ThresholdSet 4 :=
  #v[⟨30, 110, 220⟩, ⟨20, 90, 200⟩, ⟨40, 128, 235⟩, ⟨10, 60, 180⟩]

/-- The tone table after power-on reset (R129). -/
def tonesAtReset : Table Half 24 :=
  #v[400, 425, 450, 476, 504, 534, 566, 600, 635, 673, 713, 755,
     800, 848, 898, 951, 1008, 1068, 1131, 1198, 1270, 1345, 1425, 1510]

/-- A built-in cue: all have alt absent (R132). -/
def builtIn (policy : CuePolicy) (tempo : TempoId) (steps : List (StepTone × Nat)) (loops : List LoopEntry) :
    Option CueContents :=
  some { policy := policy, tempo := tempo, alt := none, steps := steps.map fun s => ⟨s.1, s.2⟩, loops := loops }

/-- The 32 cue records after power-on reset: the built-in cues of R132, then 24 EMPTY loadable cues (R127). -/
def cuesAtReset : Table (Option CueContents) 32 :=
  ⟨([builtIn .repeating 4 [(.tone 12, 16)] [],
     builtIn .repeating 4 [(.tone 8, 2), (.tone 12, 2), (.tone 16, 2), (.tone 20, 2)] [],
     builtIn .repeating 4 [(.tone 18, 4), (.tone 10, 4)] [],
     builtIn .repeating 4 [(.tone 14, 2), (.rest, 2), (.tone 14, 2), (.rest, 6)] [⟨0, 1, 2⟩],
     builtIn .repeating 6 [(.tone 12, 4), (.rest, 12)] [],
     builtIn .single 4 [(.tone 16, 4), (.tone 12, 4), (.tone 8, 8)] [],
     builtIn .repeating 4 [(.tone 6, 2), (.rest, 14)] [],
     builtIn .single 4 [(.tone 4, 4), (.tone 8, 4), (.tone 12, 4), (.tone 16, 4), (.tone 20, 4)] []]
    ++ List.replicate 24 none).toArray, by decide⟩

/-- Bit 10 of the event flags, RESTARTED, alone: the flags after power-on reset (R192). -/
def eventsAtReset : BitVec 12 := 0x400

/-- The state of the part right after power-on reset, its key lines high and SELN high (the pin inputs), and no command
waiting. -/
def State.reset : State :=
  { config := Table.put (Table.put (Vector.replicate 64 .generalReset) lineFaultPoint .lineFaultReset) overflowPoint
      .overflowReset
    service := Table.put (Table.put (Vector.replicate 64 .outService) lineFaultPoint .inService) overflowPoint .inService
    classInterval := Vector.replicate 4 0
    lines := Vector.replicate 32 .atReset
    thresholds := thresholdsAtReset
    faulted := []
    filter := Vector.replicate 64 .start
    alarm := Table.put (Table.put (Vector.replicate 64 .outOfService) lineFaultPoint .normal) overflowPoint .normal
    roster := []
    generalCount := 0
    deferred := []
    stampCounter := 1
    groups := Vector.replicate 8 .atReset
    shelves := []
    keys := ⟨⟨.high, false, none⟩, ⟨.high, false, none⟩, ⟨.high, false, none⟩, ⟨.high, false, none⟩⟩
    keyEnables := ⟨true, true, true, true⟩
    panelTest := none
    hostTest := none
    testSounded := ⟨false, false⟩
    flashPhase := 0
    cues := cuesAtReset
    tones := tonesAtReset
    edit := none
    channels := ⟨.atReset, .atReset⟩
    link := .atReset
    events := eventsAtReset
    mask := 0
    answer := none
    freeCount := 0
    pending := [] }

end Sys2Proof.Machine
end

