-- ==== Sys2Proof/Machine/Flags.lean ====
section
/-!
DEFINITION. The Event Unit: the twelve event flags, the mask and ATTN (chapter 11).
-/

namespace Sys2Proof.Machine

/-- The twelve event flags, in bit order (R184, R188). -/
inductive Event where
  | newAlert | returned | deferred | panelAction | shelveExpired | lineFault | channelAIdle | channelBIdle
  | cueFallback | editEnded | restarted | linkFault
  deriving DecidableEq, Repr

/-- The number of an event flag (R184). -/
def Event.number : Event → Nat
  | .newAlert => 0
  | .returned => 1
  | .deferred => 2
  | .panelAction => 3
  | .shelveExpired => 4
  | .lineFault => 5
  | .channelAIdle => 6
  | .channelBIdle => 7
  | .cueFallback => 8
  | .editEnded => 9
  | .restarted => 10
  | .linkFault => 11

/-- The bit of an event flag (R184). -/
def Event.bit (e : Event) : BitVec 12 := BitVec.ofNat 12 (2 ^ e.number)

/-- Whether an event flag is set. -/
def State.flag (s : State) (e : Event) : Bool := s.events.getLsbD e.number

/-- A block asks the Event Unit to set a flag; a set flag stays set (R188). -/
def State.raise (s : State) (e : Event) : State := { s with events := s.events ||| e.bit }

/-- ATTN is asserted exactly when a set flag is enabled by the mask (R189). -/
def State.attn (s : State) : Bool := s.events &&& s.mask != 0

/-- Every flag clear but RESTARTED: what power-on reset and RESTART leave (R192, R193). -/
def State.clearToRestarted (s : State) : State := { s with events := Event.restarted.bit }

/-- The flag that tells that a channel has gone IDLE (R163). -/
def idleEvent : Chan → Event
  | .a => .channelAIdle
  | .b => .channelBIdle

end Sys2Proof.Machine
end

