-- ==== Sys2Proof/Machine/Ops.lean ====
section
/-!
DEFINITION. The named readings and writings of the state that the blocks share: a point's configuration, state and
record, the group records, the tone channels, the keys, and the order in which claims that the manual leaves unordered
are taken.
-/

namespace Sys2Proof.Machine

/-- All point numbers, in order. -/
def allPoints : List PointId := List.finRange 64

/-- All line numbers, in order. -/
def allLines : List LineId := List.finRange 32

/-- All group numbers, in order. -/
def allGroups : List GroupId := List.finRange 8

/-- Points 62 and 63, the internal points (R1). -/
def isInternal (p : PointId) : Bool := 62 ≤ p.val

/-- Points 0 to 61, the general points (R1). -/
def isGeneral (p : PointId) : Bool := p.val < 62

/-! ## Per-key and per-channel values -/

/-- The value of a key. -/
def PerKey.get {α : Type} (v : PerKey α) : Key → α
  | .kack => v.kack
  | .ksil => v.ksil
  | .krst => v.krst
  | .ktst => v.ktst

/-- The values with that of one key replaced. -/
def PerKey.put {α : Type} (v : PerKey α) (k : Key) (x : α) : PerKey α :=
  match k with
  | .kack => { v with kack := x }
  | .ksil => { v with ksil := x }
  | .krst => { v with krst := x }
  | .ktst => { v with ktst := x }

/-- Every key's value sent through `f`. -/
def PerKey.map {α β : Type} (f : α → β) (v : PerKey α) : PerKey β := ⟨f v.kack, f v.ksil, f v.krst, f v.ktst⟩

/-- The value of a tone channel. -/
def PerChan.get {α : Type} (v : PerChan α) : Chan → α
  | .a => v.a
  | .b => v.b

/-- The values with that of one tone channel replaced. -/
def PerChan.put {α : Type} (v : PerChan α) (c : Chan) (x : α) : PerChan α :=
  match c with
  | .a => { v with a := x }
  | .b => { v with b := x }

/-! ## Points -/

/-- The configuration record of a point. -/
def State.cfg (s : State) (p : PointId) : PointConfig := s.config[p]

/-- Whether a point is in service (R1). -/
def State.inService (s : State) (p : PointId) : Bool := s.service[p] == .inService

/-- The alarm state of a point (R36). -/
def State.alarmOf (s : State) (p : PointId) : AlarmState := s.alarm[p]

/-- The qualification state of a point (R31). -/
def State.filterOf (s : State) (p : PointId) : Filter := s.filter[p]

/-- Write the alarm state of a point. -/
def State.setAlarm (s : State) (p : PointId) (a : AlarmState) : State := { s with alarm := s.alarm.put p a }

/-- Write the service state of a point. -/
def State.setService (s : State) (p : PointId) (v : Service) : State := { s with service := s.service.put p v }

/-- Write the qualification state of a point. -/
def State.setFilter (s : State) (p : PointId) (f : Filter) : State := { s with filter := s.filter.put p f }

/-- Write a group record. -/
def State.setGroup (s : State) (g : GroupId) (r : GroupRecord) : State := { s with groups := s.groups.put g r }

/-- Write the roster. -/
def State.setRoster (s : State) (l : List RosterRecord) : State := { s with roster := l }

/-- Write the player context of a channel. -/
def State.setPlayer (s : State) (c : Chan) (p : Option Player) : State :=
  { s with channels := s.channels.put c { s.channels.get c with player := p } }

/-- The player context of a channel, `none` when it is IDLE (R149). -/
def State.playerOf (s : State) (c : Chan) : Option Player := (s.channels.get c).player

/-! ## Roster records -/

/-- The alarm state that a record state mirrors (R62). -/
def RecordState.toAlarm : RecordState → AlarmState
  | .alert => .alert
  | .acked => .acked
  | .returned => .returned
  | .awaitReset => .awaitReset

/-- Whether a point in this state holds a roster record (R36). -/
def AlarmState.holdsRecord : AlarmState → Bool
  | .alert | .acked | .returned | .awaitReset => true
  | .outOfService | .normal | .deferred | .shelved => false

/-- A record that is not acknowledged: in ALERT or RETURNED (R48). -/
def RosterRecord.unacked (r : RosterRecord) : Bool := r.state == .alert || r.state == .returned

/-- The record of a point, if it holds one (R36). -/
def State.recordOf (s : State) (p : PointId) : Option RosterRecord := s.roster.find? fun r => r.point == p

/-- The position of a point's record in the roster (R63). -/
def State.positionOf (s : State) (p : PointId) : Nat := s.roster.findIdx fun r => r.point == p

/-- Write fields of a point's record in place; the record keeps its position (R63). -/
def State.modifyRecord (s : State) (p : PointId) (f : RosterRecord → RosterRecord) : State :=
  s.setRoster (s.roster.map fun r => if r.point = p then f r else r)

/-- Write fields of the record named by its point and stamp; a stamp that no longer stands is discarded (R74). -/
def State.modifyStamped (s : State) (p : PointId) (st : Stamp) (f : RosterRecord → RosterRecord) : State :=
  s.setRoster (s.roster.map fun r => if r.point = p ∧ r.stamp = st then f r else r)

/-- The class of a record, read from its point's configuration record (R62). -/
def State.classOf (s : State) (r : RosterRecord) : PriorityClass := (s.cfg r.point).priority

/-! ## Groups -/

/-- Whether a member in this state makes its group not quiet (R84). -/
def AlarmState.disturbs : AlarmState → Bool
  | .alert | .acked | .returned | .awaitReset | .deferred => true
  | .outOfService | .normal | .shelved => false

/-- Whether a group is quiet: none of its members holds a record or is DEFERRED (R84). -/
def State.quiet (s : State) (g : GroupId) : Bool :=
  allPoints.all fun p => !((s.cfg p).group == some g && (s.alarmOf p).disturbs)

/-- Arm every group that is quiet. A group becomes armed within the claim that makes it quiet, and a group that was
quiet before is armed already (R85). -/
def State.armQuiet (s : State) : State :=
  { s with groups := s.groups.mapIdx fun g r => if s.quiet g then { r with armed := true } else r }

/-! ## Claims that the manual leaves unordered -/

/-- Insert a numbered claim into a list ordered by key, before the first whose key is not below its own. -/
def insertByKey {α : Type} (key : Nat → Nat) (x : α × Nat) : List (α × Nat) → List (α × Nat)
  | [] => [x]
  | y :: ys => if key x.2 ≤ key y.2 then x :: y :: ys else y :: insertByKey key x ys

/-- The claims of one occasion in the order of their free keys (Config.claimKey). -/
def arrange {α : Type} (occasion : Nat) (l : List α) : List α :=
  (l.zipIdx.foldr (insertByKey (Config.claimKey occasion)) []).map Prod.fst

/-- Take claims that arise at one moment one after another, each whole (R38), in an order that the manual leaves open. -/
def State.takeAll {α : Type} (s : State) (claims : List α) (take : α → State → State) : State :=
  (arrange s.freeCount claims).foldl (fun t x => take x t) { s with freeCount := s.freeCount + 1 }

end Sys2Proof.Machine
end

