-- ==== Sys2Proof/Machine/Tone.lean ====
section
/-!
DEFINITION. The Tone Channels: demands, the wanted demand, starting and switching a demand, the order of a pass, and what
a step end does (chapters 8.3 and 9).
-/

namespace Sys2Proof.Machine

/-! ## Cues and tempos -/

/-- The tempo table: milliseconds per sixteenth (R128). -/
def tempoTable : Table Nat 12 := #v[15, 20, 25, 30, 40, 50, 60, 75, 90, 110, 135, 160]

/-- Milliseconds per sixteenth of a tempo (R128). -/
def tempoMs (t : TempoId) : Nat := tempoTable[t]

/-- The tempo in force for a step: the alternate tempo from its from_step on, the cue's tempo before (R128). -/
def CueContents.tempoAt (q : CueContents) (i : Nat) : TempoId :=
  match q.alt with
  | some alt => if alt.fromStep ≤ i then alt.tempo else q.tempo
  | none => q.tempo

/-- Cue 0, the fallback for an EMPTY cue (R132, R153). -/
abbrev fallbackCue : CueId := 0

/-- Cue 7, the test cue (R118, R132). -/
abbrev testCue : CueId := 7

/-- The contents of cue 0, which no command changes (R127, R132): read where the cue table would hold none. -/
def fallbackContents : CueContents :=
  { policy := .repeating, tempo := 4, alt := none, steps := [⟨.tone 12, 16⟩], loops := [] }

/-- The contents of a cue; an EMPTY cue reads as cue 0's. -/
def State.contents (s : State) (q : CueId) : CueContents := (s.cues[q]).getD fallbackContents

/-- Whether a cue is READY (R127). -/
def State.ready (s : State) (q : CueId) : Bool := (s.cues[q]).isSome

/-- Whether a cue plays one pass per demand: READY with policy SINGLE or FIRM. An EMPTY cue counts as REPEAT (R150). -/
def State.playsOnce (s : State) (q : CueId) : Bool :=
  match s.cues[q] with
  | some c => c.policy != .repeating
  | none => false

/-- The cue a channel plays for a demanded cue: the cue itself when READY, cue 0 when EMPTY (R153). -/
def State.resolve (s : State) (q : CueId) : CueId := if s.ready q then q else fallbackCue

/-! ## Demands -/

/-- The cue field of a record's state: alert_cue in ALERT, ringback_cue in RETURNED, none in another state (R150). -/
def State.cueOf (s : State) (r : RosterRecord) : Option CueId :=
  match r.state with
  | .alert => (s.cfg r.point).alertCue
  | .returned => (s.cfg r.point).ringbackCue
  | .acked | .awaitReset => none

/-- The cue a record demands, if it demands one (R150, R104). -/
def State.demandOf (s : State) (r : RosterRecord) : Option CueId :=
  if r.silenced then none
  else
    match s.cueOf r with
    | none => none
    | some q => if r.sounded && s.playsOnce q then none else some q

/-- The demand of a record on a channel: only the channel its point names (R150). -/
def State.demandOn (s : State) (c : Chan) (r : RosterRecord) : Option Demand :=
  if (s.cfg r.point).channel = c then (s.demandOf r).map fun q => ⟨.record r.point r.stamp, q⟩ else none

/-- The lamp test is active while either source is running (R117). -/
def State.testActive (s : State) : Bool := s.panelTest.isSome || s.hostTest.isSome

/-- Whether a channel's test demand asks for cue 7 (R118, R151). -/
def State.testAsks (s : State) (c : Chan) : Bool := s.testActive && !s.testSounded.get c

/-- The demands on a channel: those of the records in roster order, and then its test demand's (R150, R151). -/
def State.demandsOn (s : State) (c : Chan) : List Demand :=
  s.roster.filterMap (s.demandOn c) ++ if s.testAsks c then [⟨.test, testCue⟩] else []

/-- The wanted demand of a channel (R152). -/
def State.wanted (s : State) (c : Chan) : Option Demand :=
  if !(s.channels.get c).enabled then none
  else
    match s.roster.findSome? (s.demandOn c) with
    | some d => some d
    | none => if s.testAsks c then some ⟨.test, testCue⟩ else none

/-- The demand a PLAYING channel is serving (R152: its current owner and demanded cue). -/
def Player.current (pl : Player) : Demand := ⟨pl.owner, pl.demandedCue⟩

/-! ## Steps and loops -/

/-- Whether a step lies in a loop's span (R133). -/
def LoopEntry.inSpan (l : LoopEntry) (i : Nat) : Bool := l.first ≤ i && i ≤ l.last

/-- The loop counters after the player arrives at step `i`, from step `source` or at the start of a pass: the counter
of a loop whose first step is `i` is loaded when the arrival is from outside its span (R133). -/
def loadCounters (loops : List LoopEntry) (source : Option Nat) (i : Nat) (counters : List Nat) : List Nat :=
  loops.zipWith
    (fun l n => if l.first = i ∧ ¬ (source.any l.inSpan) then l.count else n)
    counters

/-- The step copy of a step as it reads when it starts (R154). -/
def State.copyStep (s : State) (q : CueContents) (i : Nat) : StepCopy :=
  let st := (q.steps[i]?).getD ⟨.rest, 1⟩
  { tone := st.tone
    length := st.length
    frequency := match st.tone with
      | .tone t => some s.tones[t]
      | .rest => none
    ms := tempoMs (q.tempoAt i) }

/-- The duration of a step copy in REFCLK periods: its length times the milliseconds per sixteenth (R128, R154). -/
def StepCopy.duration (c : StepCopy) : Nat := c.length * c.ms * Config.refclkPerMs

/-- Start step `i` of the played cue, arriving from `source` (R154). -/
def State.startStep (s : State) (pl : Player) (source : Option Nat) (i : Nat) : Player :=
  let q := s.contents pl.playedCue
  let copy := s.copyStep q i
  { pl with
    stepIndex := i
    copy := copy
    timeLeft := copy.duration
    counters := loadCounters q.loops source i pl.counters }

/-- The loops that end at step `i`, innermost first: of two loops that end at one step the later first step is the
inner one's (R134). -/
def loopsEndingAt (loops : List LoopEntry) (i : Nat) : List (LoopEntry × Nat) :=
  let here := loops.zipIdx.filter fun l => l.1.last == i
  match here with
  | [x, y] => if x.1.first < y.1.first then [y, x] else [x, y]
  | _ => here

/-- The jump at the end of step `i`, if one is taken: the counters after it and the step jumped to (R134). -/
def loopJump (loops : List LoopEntry) (i : Nat) (counters : List Nat) : Option (List Nat × Nat) :=
  (loopsEndingAt loops i).findSome? fun l =>
    let n := counters.getD l.2 0
    if 1 < n then some (counters.set l.2 (n - 1), l.1.first) else none

/-! ## Starting and switching -/

/-- Set CUE_FALLBACK when the demanded cue is EMPTY and cue 0 is played in its place (R153). -/
def State.noteFallback (s : State) (q : CueId) : State := if s.ready q then s else s.raise .cueFallback

/-- The player context at the start of a pass for an owner and a demanded cue (R153 steps 1 to 4; R156 and R160 begin a
new pass in the same way). -/
def State.passStart (s : State) (owner : Owner) (q : CueId) : Player :=
  let played := s.resolve q
  let c := s.contents played
  s.startStep
    { owner := owner, demandedCue := q, playedCue := played, stepIndex := 0, passPolicy := c.policy, copy := ⟨.rest, 1, none, 0⟩,
      timeLeft := 0, counters := c.loops.map fun _ => 0, firmHold := c.policy == .firm, renewed := false, replacementPending := false }
    none 0

/-- Begin a pass for a demand on a channel (R153, R156, R160). -/
def State.beginPass (s : State) (c : Chan) (d : Demand) : State :=
  (s.noteFallback d.cue).setPlayer c (some (s.passStart d.owner d.cue))

/-- The channel goes from PLAYING to IDLE and sets its idle flag (R158, R163). -/
def State.goIdle (s : State) (c : Chan) : State := (s.setPlayer c none).raise (idleEvent c)

/-- Switch a PLAYING channel to a wanted demand, or to IDLE for none; the abandoned pass sets no sounded flag (R158). -/
def State.switchTo (s : State) (c : Chan) (w : Option Demand) : State :=
  match w with
  | some d => s.beginPass c d
  | none => s.goIdle c

/-- The comparison of R152 outside a step end: an IDLE channel starts a wanted demand at once under either policy
(R153); a PLAYING one without hold switches at once under IMMEDIATE (R158). -/
def State.compareChannel (s : State) (c : Chan) : State :=
  match s.playerOf c with
  | none =>
    match s.wanted c with
    | some d => s.beginPass c d
    | none => s
  | some pl =>
    if pl.firmHold ∨ s.wanted c = some pl.current then s
    else
      match (s.channels.get c).policy with
      | .immediate => s.switchTo c (s.wanted c)
      | .step => s

/-- Both channels compare; each takes its own, and the order between them decides nothing (R166). -/
def State.compareChannels (s : State) : State := (s.compareChannel .a).compareChannel .b

/-- Whether a channel lets the step in progress finish after a change that began at `before`: a COMMIT has replaced the cue it
plays (R140 step 4, R160), and no demand on the channel has appeared, disappeared or changed cue (R152). DEDUCED
(notes/assumptions/36.md): a later change of its demands is taken at once by R158. -/
def State.finishesStep (s before : State) (c : Chan) : Bool :=
  (s.playerOf c).any Player.replacementPending && before.demandsOn c == s.demandsOn c

/-- The comparison of R152 after a change that began at `before`. A channel that has no step to finish compares whatever the
change was: without one on its demands there is nothing for it to take. -/
def State.compareChannelSince (s before : State) (c : Chan) : State :=
  if s.finishesStep before c then s else s.compareChannel c

/-- Both channels compare after a change that began at `before` (R152). -/
def State.compareSince (s before : State) : State := (s.compareChannelSince before .a).compareChannelSince before .b

/-- The record's sounded flag has been cleared: a channel that is in a pass of a SINGLE or FIRM cue for this record, with the
demanded cue the same, takes `renewed` (R157). The policy is the one the pass began with: a COMMIT within the pass changes the
cue, not the pass (R160). -/
def State.renewOn (s : State) (p : PointId) (c : Chan) : State :=
  match s.playerOf c, s.recordOf p with
  | some pl, some r =>
    if pl.owner = .record p r.stamp ∧ s.demandOf r = some pl.demandedCue
        ∧ pl.passPolicy ≠ .repeating then
      s.setPlayer c (some { pl with renewed := true })
    else s
  | _, _ => s

/-- `renewOn` for both channels. -/
def State.renewRecord (s : State) (p : PointId) : State := (s.renewOn p .a).renewOn p .b

/-- The lamp test has started again during a pass of cue 7: a channel whose owner is TEST takes `renewed` (R157). -/
def State.renewTestOn (s : State) (c : Chan) : State :=
  match s.playerOf c with
  | some pl => if pl.owner = .test then s.setPlayer c (some { pl with renewed := true }) else s
  | none => s

/-- A COMMIT that began at `before` has replaced cue `q`, and the channel is told: PLAYING with that cue as its demanded cue,
it takes `replacement pending` and lets the step in progress finish, whatever it wants now (R140 step 4, R160); otherwise it
compares (R150, R152). -/
def State.noticeReplacement (s before : State) (q : CueId) (c : Chan) : State :=
  match s.playerOf c with
  | some pl =>
    if pl.demandedCue = q then s.setPlayer c (some { pl with replacementPending := true })
    else s.compareChannelSince before c
  | none => s.compareChannel c

/-! ## The step end (R155, R156, R160) -/

/-- Mark the owner of a finished SINGLE or FIRM pass as sounded (R156): a record by point and stamp (R74), or the test
demand of the channel (R118). -/
def State.markSounded (s : State) (c : Chan) : Owner → State
  | .record p st => s.modifyStamped p st fun r => { r with sounded := true }
  | .test => { s with testSounded := s.testSounded.put c true }

/-- Compare at a pass end: the same demand begins a new pass, another is switched to (R156). -/
def State.comparePassEnd (s : State) (c : Chan) (pl : Player) : State :=
  if s.wanted c = some pl.current then s.beginPass c pl.current else s.switchTo c (s.wanted c)

/-- The pass ends, by the played cue's policy (R156). A sounded write that makes a demand disappear makes the channel of
that demand compare (R152); that is the channel itself, but for an owner that outlives its record and whose stamp is held
again by a record of the other channel. -/
def State.passEnd (s : State) (c : Chan) (pl : Player) : State :=
  if (s.contents pl.playedCue).policy = .repeating ∨ pl.renewed then s.comparePassEnd c pl
  else ((s.markSounded c pl.owner).comparePassEnd c pl).compareSince s

/-- The continuation after a COMMIT of the demanded cue (R160). -/
def State.continueReplaced (s : State) (c : Chan) (pl : Player) : State :=
  let held := pl.firmHold && (s.contents (s.resolve pl.demandedCue)).policy == .firm
  if held = false ∧ s.wanted c ≠ some pl.current then s.switchTo c (s.wanted c) else s.beginPass c pl.current

/-- Go on within the pass, by a jump or to the next step, or end it (R155 steps 3 and 4). -/
def State.advanceStep (s : State) (c : Chan) (pl : Player) : State :=
  let q := s.contents pl.playedCue
  match loopJump q.loops pl.stepIndex pl.counters with
  | some (counters, target) =>
    s.setPlayer c (some (s.startStep { pl with counters := counters } (some pl.stepIndex) target))
  | none =>
    if pl.stepIndex + 1 < q.steps.length then
      s.setPlayer c (some (s.startStep pl (some pl.stepIndex) (pl.stepIndex + 1)))
    else s.passEnd c pl

/-- The step end of a channel, in the order of R155; an IDLE channel has no step to end. -/
def State.endStep (s : State) (c : Chan) : State :=
  match s.playerOf c with
  | none => s
  | some pl =>
    if pl.replacementPending then s.continueReplaced c pl
    else if pl.firmHold = false ∧ s.wanted c ≠ some pl.current then s.switchTo c (s.wanted c)
    else s.advanceStep c pl

end Sys2Proof.Machine
end

