-- ==== Sys2Proof/Machine/Sequence.lean ====
section
/-!
DEFINITION. The operations at the centre of the alarm picture: stamps, admission, deferral and retirement (chapter 4), the
first-out slot (chapter 5), the transitions of the alarm sequences (chapter 3) and the persistence filter that hands them
edges (chapter 2.4).

A change of the deferred list can hand point 63 a raw change within the same claim (R75). Point 63 is an internal point,
so its own edges neither defer nor take in anyone, and the chain ends there: the operations that can change the list take
the hand-over as an argument `ovf`, which is `State.handOverflow` for every point, and nothing for point 63 itself and for
the records of an action that takes several (R50, R51, R53), which hands it over at its end.
-/

namespace Sys2Proof.Machine

/-! ## Stamps (R66) -/

/-- Whether a record in the roster holds a stamp. -/
def State.stampHeld (s : State) (st : Stamp) : Bool := s.roster.any fun r => r.stamp == st

/-- The first stamp from `st` on that no record holds, looking at no more than `fuel` values after it. -/
def State.freeStamp (s : State) : Nat → Stamp → Stamp
  | 0, st => st
  | fuel + 1, st => if s.stampHeld st then s.freeStamp fuel st.next else st

/-- The stamp the next admission takes: with `n` records in the roster at most `n` values are skipped (R66). -/
def State.nextStamp (s : State) : Stamp := s.freeStamp s.roster.length s.stampCounter

/-! ## The first-out slot -/

/-- The group of a point whose first-out slot an admission of the point takes: enabled, armed and empty (R86). -/
def State.slotFor (s : State) (p : PointId) : Option GroupId :=
  match (s.cfg p).group with
  | some g =>
    let r := s.groups[g]
    if r.firstOutEnabled ∧ r.armed ∧ r.slot = none then some g else none
  | none => none

/-- The first-out decision at an admission (R86): the slot names the point, the record is marked and the group is
disarmed; or nothing changes. -/
def State.decideFirstOut (s : State) (p : PointId) : State :=
  match s.slotFor p with
  | some g =>
    (s.setGroup g { s.groups[g] with slot := some p, armed := false }).modifyRecord p
      fun r => { r with firstOut := true }
  | none => s

/-- Empty a group's slot; if the record of the point it named still stands, its mark is cleared (R88). -/
def State.emptySlot (s : State) (g : GroupId) : State :=
  match (s.groups[g]).slot with
  | some p =>
    (s.setGroup g { s.groups[g] with slot := none }).modifyRecord p fun r => { r with firstOut := false }
  | none => s

/-! ## Admission (R68) -/

/-- The record an admission creates (R68 step 2). -/
def freshRecord (p : PointId) (st : Stamp) : RosterRecord :=
  { point := p, stamp := st, state := .alert, firstOut := false, recurrence := 0, silenced := false, sounded := false,
    ackSource := none, reannounce := none, age := 0, ageClock := Config.refclkPerSecond }

/-- Insert a record after the last record of its class and before the first of the next (R63). -/
def State.insertRecord (s : State) (r : RosterRecord) : List RosterRecord :=
  s.roster.takeWhile (fun x => s.classOf x ≤ s.classOf r) ++ r ::
    s.roster.dropWhile (fun x => s.classOf x ≤ s.classOf r)

/-- The record of a point enters the roster, with its stamp taken and the counter advanced (R68 steps 1 to 3); the point's
state is ALERT (R39, R47). -/
def State.enterRoster (s : State) (p : PointId) : State :=
  let st := s.nextStamp
  let r := freshRecord p st
  { s.setAlarm p .alert with
    roster := s.insertRecord r
    stampCounter := st.next
    generalCount := if isGeneral p then s.generalCount + 1 else s.generalCount }

/-- Admit a point (R68): the channels take the new demand once all five steps are done. -/
def State.admitPoint (s : State) (p : PointId) : State :=
  (((s.enterRoster p).decideFirstOut p).raise .newAlert).compareSince s

/-! ## The deferred list (R69 to R71) -/

/-- Insert a point after the last entry of its class (R70). -/
def State.insertDeferred (s : State) (p : PointId) : List PointId :=
  s.deferred.takeWhile (fun q => (s.cfg q).priority ≤ (s.cfg p).priority) ++ p ::
    s.deferred.dropWhile (fun q => (s.cfg q).priority ≤ (s.cfg p).priority)

/-- Defer a point (R70); when the list was empty, point 63 is handed its raw condition (R75). -/
def State.defer (ovf : State → State) (s : State) (p : PointId) : State :=
  let t := ({ s.setAlarm p .deferred with deferred := s.insertDeferred p }).raise .deferred
  if s.deferred.isEmpty then ovf t else t

/-- Hand over point 63's raw condition when a change has emptied the deferred list (R71, R73, R75). -/
def handIfEmptied (ovf : State → State) (before : List PointId) (s : State) : State :=
  if !before.isEmpty && s.deferred.isEmpty then ovf s else s

/-- A point leaves DEFERRED without admission, for state `a` (R71). -/
def State.leaveDeferred (ovf : State → State) (s : State) (p : PointId) (a : AlarmState) : State :=
  let t := ({ s.setAlarm p a with deferred := s.deferred.erase p }).armQuiet
  handIfEmptied ovf s.deferred t

/-- Admission or deferral on a request, by the point and the general record count (R67). -/
def State.requestAdmission (ovf : State → State) (s : State) (p : PointId) : State :=
  if isInternal p ∨ s.generalCount < Config.generalPlaces then s.admitPoint p else s.defer ovf p

/-- Admit the head of the deferred list, if it has one (R73). -/
def State.admitHead (ovf : State → State) (s : State) : State :=
  match s.deferred with
  | [] => s
  | p :: rest => handIfEmptied ovf s.deferred (({ s with deferred := rest }).admitPoint p)

/-! ## Retirement (R72) -/

/-- The record of a point leaves the roster and the point goes to state `a` (R58, R72 step 1). -/
def State.leaveRoster (s : State) (p : PointId) (a : AlarmState) : State :=
  { s.setAlarm p a with
    roster := s.roster.filter fun r => r.point != p
    generalCount := if isGeneral p then s.generalCount - 1 else s.generalCount }

/-- The slot the retiring record holds empties, when its first_out is yes (R72 step 2, R88). -/
def State.releaseSlot (s : State) (p : PointId) (firstOut : Bool) : State :=
  match (s.cfg p).group with
  | some g => if firstOut then s.emptySlot g else s
  | none => s

/-- Retire a point's record and take the point to state `a`, with every consequence of R72 in its order: the slot, the
arming of a group left quiet (R85), the channels, and for a general record the admission of the head of the deferred
list. -/
def State.retire (ovf : State → State) (s : State) (p : PointId) (a : AlarmState) : State :=
  match s.recordOf p with
  | none => s.setAlarm p a
  | some r =>
    let t := (((s.leaveRoster p a).releaseSlot p r.firstOut).armQuiet).compareSince s
    if isGeneral p then t.admitHead ovf else t

/-! ## Transitions that keep the record -/

/-- Write the state of a point and of its record in one change, with other record fields (R36). -/
def State.moveRecord (s : State) (p : PointId) (st : RecordState) (f : RosterRecord → RosterRecord) : State :=
  (s.setAlarm p st.toAlarm).modifyRecord p fun r => { f r with state := st }

/-- The record writes of a recurrence, beside its state (R40). -/
def RosterRecord.recur (r : RosterRecord) : RosterRecord :=
  { r with recurrence := min (r.recurrence + 1) 255, silenced := false, sounded := false, reannounce := none,
           ackSource := none }

/-- The record writes of a return, beside its state (R43). -/
def RosterRecord.comeBack (r : RosterRecord) : RosterRecord :=
  { r with silenced := false, sounded := false, reannounce := none }

/-- The record writes of an acknowledgement that keeps the record, beside its state (R48). -/
def RosterRecord.acknowledge (src : AckSource) (r : RosterRecord) : RosterRecord :=
  { r with ackSource := some src, silenced := false, reannounce := none }

/-- A recurrence (R40): the cleared flags give a fresh demand (R157), which the channels take. -/
def State.recurrence (s : State) (p : PointId) : State :=
  ((s.moveRecord p .alert RosterRecord.recur).renewRecord p).compareSince s

/-- A return (R43). -/
def State.returnRecord (s : State) (p : PointId) : State :=
  (((s.moveRecord p .returned RosterRecord.comeBack).renewRecord p).raise .returned).compareSince s

/-! ## Edges (R39 to R46) -/

/-- A rise of a point's qualified condition, taken against the state it finds (R39, R41, R42). -/
def State.riseWith (ovf : State → State) (s : State) (p : PointId) : State :=
  match s.alarmOf p, (s.cfg p).kind with
  | .normal, _ => s.requestAdmission ovf p
  | .returned, .auto => s.recurrence p
  | .returned, .manual => s.recurrence p
  | .awaitReset, .manual => s.recurrence p
  | .alert, .pulse => s.recurrence p
  | _, _ => s

/-- A fall of a point's qualified condition, taken against the state it finds (R43 to R46). -/
def State.fallWith (ovf : State → State) (s : State) (p : PointId) : State :=
  match s.alarmOf p, (s.cfg p).kind with
  | _, .pulse => s
  | .alert, _ => s.returnRecord p
  | .acked, .auto => s.retire ovf p .normal
  | .acked, .manual => s.moveRecord p .awaitReset id
  | .deferred, _ => s.leaveDeferred ovf p .normal
  | _, _ => s

/-! ## The persistence filter (R31) -/

/-- The raw condition of an in-service point takes value `v`: the table of R31. A value it already has reaches neither
the timers nor the sequence (R27, R30). -/
def State.takeRawWith (ovf : State → State) (s : State) (p : PointId) (v : Bool) : State :=
  let f := s.filterOf p
  if s.inService p = false ∨ f.raw = v then s
  else
    match v, f.qualified with
    | true, false =>
      if (s.cfg p).onDelay = 0 then
        (s.setFilter p { f with raw := true, qualified := true, onTimer := none, offTimer := none }).riseWith ovf p
      else
        s.setFilter p { f with raw := true, onTimer := some ((s.cfg p).onDelay.toNat * Config.delayUnit) }
    | true, true => s.setFilter p { f with raw := true, offTimer := none }
    | false, false => s.setFilter p { f with raw := false, onTimer := none }
    | false, true =>
      if (s.cfg p).offDelay = 0 then
        (s.setFilter p { f with raw := false, qualified := false, onTimer := none, offTimer := none }).fallWith ovf p
      else
        s.setFilter p { f with raw := false, offTimer := some ((s.cfg p).offDelay.toNat * Config.delayUnit) }

/-- Hand point 63 its raw condition: present while the deferred list is not empty (R75). -/
def State.handOverflow (s : State) : State := s.takeRawWith id overflowPoint (!s.deferred.isEmpty)

/-- A raw change of any point (R31). -/
def State.takeRaw (s : State) (p : PointId) (v : Bool) : State := s.takeRawWith State.handOverflow p v

/-- A rise of any point (R39 to R42). -/
def State.rise (s : State) (p : PointId) : State := s.riseWith State.handOverflow p

/-- A fall of any point (R43 to R46). -/
def State.fall (s : State) (p : PointId) : State := s.fallWith State.handOverflow p

/-! ## Acknowledgement, reset, end of shelve -/

/-- Acknowledge a record in ALERT or RETURNED (R48); a retirement hands point 63 its condition by `ovf`. -/
def State.acknowledgeWith (ovf : State → State) (s : State) (src : AckSource) (p : PointId) : State :=
  match s.alarmOf p, (s.cfg p).kind with
  | .alert, .auto => (s.moveRecord p .acked (RosterRecord.acknowledge src)).compareSince s
  | .alert, .manual => (s.moveRecord p .acked (RosterRecord.acknowledge src)).compareSince s
  | .alert, .pulse => s.retire ovf p .normal
  | .returned, .auto => s.retire ovf p .normal
  | .returned, .manual => (s.moveRecord p .awaitReset (RosterRecord.acknowledge src)).compareSince s
  | _, _ => s

/-- Acknowledge one record in ALERT or RETURNED, as ACK does (R48). -/
def State.acknowledge (s : State) (src : AckSource) (p : PointId) : State :=
  s.acknowledgeWith State.handOverflow src p

/-- The records that an action takes, named by point and stamp, in roster order. -/
def State.named (s : State) (sel : RosterRecord → Bool) : List (PointId × Stamp) :=
  (s.roster.filter sel).map fun r => (r.point, r.stamp)

/-- Whether a record named by point and stamp still stands and is selected (R74). -/
def State.stillStands (s : State) (sel : RosterRecord → Bool) (n : PointId × Stamp) : Bool :=
  s.roster.any fun r => r.point == n.1 && r.stamp == n.2 && sel r

/-- Act on every record selected when the action is taken, in roster order, each with its consequences before the next
(R50, R51, R53); records admitted meanwhile are not among them. -/
def State.forEachNamed (s : State) (sel : RosterRecord → Bool) (act : PointId → State → State) : State :=
  (s.named sel).foldl (fun t n => if t.stillStands sel n then act n.1 t else t) s

/-- Act on every selected record as one claim: no edge reaches any point between the first record and the last (R50, R51,
R53). The action hands point 63 nothing, and its condition, should the deferred list have emptied, is handed over once the
last record has been taken, so that a fall that follows at once (R75) finds every record as the action has left it
(notes/assumptions/28.md). -/
def State.takeNamed (s : State) (sel : RosterRecord → Bool) (act : PointId → State → State) : State :=
  handIfEmptied State.handOverflow s.deferred (s.forEachNamed sel act)

/-- Acknowledge every unacknowledged record that `sel` selects (R50, R51). -/
def State.acknowledgeAll (s : State) (src : AckSource) (sel : RosterRecord → Bool) : State :=
  s.takeNamed (fun r => r.unacked && sel r) fun p t => t.acknowledgeWith id src p

/-- How many records an ACK ALL, ACK GROUP or RESET ALL acts on: those standing when it is taken. -/
def State.countOf (s : State) (sel : RosterRecord → Bool) : Nat := (s.roster.filter sel).length

/-- Reset every point standing in AWAIT_RESET (R53). -/
def State.resetEvery (s : State) : State :=
  s.takeNamed (fun r => r.state == .awaitReset) fun p t => t.retire id p .normal

/-- Take a point out of the alarm picture, from whichever state it is in, to state `a`: its record is retired, or its
deferred entry removed (R10, R54, R56). -/
def State.leavePicture (s : State) (p : PointId) (a : AlarmState) : State :=
  match s.alarmOf p with
  | .alert | .acked | .returned | .awaitReset => s.retire State.handOverflow p a
  | .deferred => s.leaveDeferred State.handOverflow p a
  | .normal | .shelved | .outOfService => s.setAlarm p a

/-- The end of a shelve as the sequence sees it (R55): the point goes to NORMAL, and a PRESENT qualified condition of an
AUTO or MANUAL point is taken as a rise. -/
def State.endShelve (s : State) (p : PointId) : State :=
  let t := s.setAlarm p .normal
  if (s.cfg p).kind ≠ .pulse ∧ (s.filterOf p).qualified then t.rise p else t

end Sys2Proof.Machine
end

