-- ==== Sys2Proof/Machine/LineOps.lean ====
section
/-!
DEFINITION. The operations of the Line Monitor and of the start of a point's qualification: bands, classification, the
faulted-line set, classification changes and what they hand the Condition Filter (chapters 2.1 to 2.3, R33).
-/

namespace Sys2Proof.Machine

/-- The bands of a sampled level (R19). -/
inductive Band where
  | short | low | high | opened
  deriving DecidableEq, Repr

/-- The band of a level under a mode and a threshold set (R19). -/
def bandOf (mode : LineMode) (t : ThresholdSet) (level : Byte) : Band :=
  match mode with
  | .supervised =>
    if level.toNat < t.s.toNat then .short
    else if level.toNat < t.a.toNat then .low
    else if level.toNat < t.o.toNat then .high
    else .opened
  | .unsupervised => if level.toNat < t.a.toNat then .low else .high

/-- The classification of a band under a polarity (R20). -/
def classifyBand : Polarity → Band → Classification
  | _, .short => .wireShort
  | .normal, .low => .active
  | .inverted, .low => .inactive
  | .normal, .high => .inactive
  | .inverted, .high => .active
  | _, .opened => .wireOpen

/-- The classification of a level under a line's settings and the threshold sets (R17, R19, R20). -/
def State.classify (s : State) (l : LineRecord) (level : Byte) : Classification :=
  classifyBand l.polarity (bandOf l.mode s.thresholds[l.set] level)

/-- OPEN and SHORT, the classifications of a wiring fault. -/
def Classification.isFault : Classification → Bool
  | .wireOpen | .wireShort => true
  | .inactive | .active => false

/-- Write a line record. -/
def State.setLine (s : State) (n : LineId) (l : LineRecord) : State := { s with lines := s.lines.put n l }

/-- Whether a line is the source of at least one in-service point (R29). -/
def State.lineInUse (s : State) (n : LineId) : Bool :=
  allPoints.any fun p => s.inService p && (s.cfg p).source == .line n

/-- The faulted-line set as R29 derives it: SUPERVISED lines, classified OPEN or SHORT, that are the source of an
in-service point. -/
def State.derivedFaulted (s : State) : List LineId :=
  allLines.filter fun n =>
    (s.lines[n]).mode == .supervised && (s.lines[n]).classification.isFault && s.lineInUse n

/-- Re-derive the faulted-line set; a change of its membership sets LINE_FAULT (R29). -/
def State.rederiveFaulted (s : State) : State :=
  let f := s.derivedFaulted
  if f = s.faulted then s else ({ s with faulted := f }).raise .lineFault

/-- Hand point 62 its raw condition: present while the faulted-line set is not empty (R29). -/
def State.handLineFault (s : State) : State := s.takeRaw lineFaultPoint (!s.faulted.isEmpty)

/-- The raw condition an ACTIVE, INACTIVE, OPEN or SHORT line gives a point that follows it (R27; for HOLD the two fault
classifications give none). -/
def Classification.present : Classification → Bool
  | .inactive => false
  | .active | .wireOpen | .wireShort => true

/-- An in-service point takes the classification of its source line (R27): a HOLD point on a faulted line is frozen, and a
freeze that ends takes the change from the raw condition it kept (R28). -/
def State.takeLine (s : State) (p : PointId) (c : Classification) : State :=
  if s.inService p = false then s
  else if (s.cfg p).faultResponse = .hold ∧ c.isFault then s.setFilter p { s.filterOf p with frozen := true }
  else (s.setFilter p { s.filterOf p with frozen := false }).takeRaw p c.present

/-- A point takes its raw condition from its source as it stands (R33). -/
def State.takeSource (s : State) (p : PointId) : State :=
  match (s.cfg p).source with
  | .line n => s.takeLine p (s.lines[n]).classification
  | .host => s.takeRaw p (s.filterOf p).hostRaw
  | .internal =>
    if p = lineFaultPoint then s.handLineFault
    else if p = overflowPoint then s.handOverflow
    else s

/-- The qualification state at the start (R33): ABSENT, both timers idle, not frozen; the host raw condition is kept. -/
def Filter.restart (f : Filter) : Filter := { Filter.start with hostRaw := f.hostRaw }

/-- Start a point's qualification afresh (R9, R33). -/
def State.startQualification (s : State) (p : PointId) : State :=
  (s.setFilter p (s.filterOf p).restart).takeSource p

/-- Stop a point's qualification (R10, R33): both timers are cancelled and the qualified condition is left ABSENT. -/
def State.stopQualification (s : State) (p : PointId) : State := s.setFilter p (s.filterOf p).restart

/-- The in-service points sourced from one of the lines `ns` (R35). -/
def State.pointsOn (s : State) (ns : List LineId) : List PointId :=
  allPoints.filter fun p =>
    s.inService p && match (s.cfg p).source with
      | .line n => ns.contains n
      | _ => false

/-- A classification change, already written, of the lines `ns`, or a change of their mode, reaches its readers: the
faulted-line set is derived again, and each in-service point on the lines, and point 62, takes its raw condition (R27,
R29, R35). The manual gives no order among those points. -/
def State.linesChanged (s : State) (ns : List LineId) : State :=
  let t := s.rederiveFaulted
  t.takeAll (t.pointsOn ns ++ [lineFaultPoint]) fun p u => u.takeSource p

/-- The line with its last level classified under its present settings (R23, R25); a line without a last level keeps its
classification. -/
def State.reclassified (s : State) (l : LineRecord) : LineRecord :=
  match l.lastLevel with
  | some level => { l with classification := s.classify l level }
  | none => l

end Sys2Proof.Machine
end

