-- ==== Sys2Proof/Machine/Operands.lean ====
section
/-!
DEFINITION. Every operand form of the host commands and every field layout of the responses: the enumeration codes, the
number encodings, the point configuration record, the roster record, the cue step and the check byte (section 10.8,
R169, R173, R182 to R187).
-/

namespace Sys2Proof.Machine

/-! ## Request fields (R182): `none` is a byte that names no value of the field -/

/-- A numbered thing: a byte below the count of its kind. -/
def numbered (n : Nat) (b : Byte) : Option (Fin n) := if h : b.toNat < n then some ⟨b.toNat, h⟩ else none

/-- A point number, 0 to 63. -/
def pointOf (b : Byte) : Option PointId := numbered 64 b

/-- A yes/no byte: 0x00 is no and 0x01 yes. -/
def yesNoOf (b : Byte) : Option Bool :=
  if b = 0x00 then some false else if b = 0x01 then some true else none

/-- An optional numbered field: 0xFF is absent. -/
def optionalOf (n : Nat) (b : Byte) : Option (Option (Fin n)) :=
  if b = 0xFF then some none else (numbered n b).map some

/-- A class number, 1 to 4 (R15). -/
def classNumberOf (b : Byte) : Option PriorityClass := if b = 0 then none else numbered 4 (b - 1)

/-- A sequence kind code (R184). -/
def kindOf (b : Byte) : Option Kind :=
  if b = 0 then some .auto else if b = 1 then some .manual else if b = 2 then some .pulse else none

/-- A source code: LINE n as n, HOST 0x40, INTERNAL 0x41 (R184). -/
def sourceOf (b : Byte) : Option Source :=
  if b = 0x40 then some .host
  else if b = 0x41 then some .internal
  else (numbered 32 b).map .line

/-- A fault response code (R184). -/
def faultResponseOf (b : Byte) : Option FaultResponse :=
  if b = 0 then some .alarm else if b = 1 then some .hold else none

/-- A tone channel code (R184). -/
def chanOf (b : Byte) : Option Chan := if b = 0 then some .a else if b = 1 then some .b else none

/-- A line mode code (R184). -/
def lineModeOf (b : Byte) : Option LineMode :=
  if b = 0 then some .unsupervised else if b = 1 then some .supervised else none

/-- A polarity code (R184). -/
def polarityOf (b : Byte) : Option Polarity :=
  if b = 0 then some .normal else if b = 1 then some .inverted else none

/-- A cue policy code (R184). -/
def cuePolicyOf (b : Byte) : Option CuePolicy :=
  if b = 0 then some .repeating else if b = 1 then some .single else if b = 2 then some .firm else none

/-- A switch policy code (R184). -/
def switchPolicyOf (b : Byte) : Option SwitchPolicy :=
  if b = 0 then some .step else if b = 1 then some .immediate else none

/-- The expected state of an ACK (R49). -/
inductive Expected where
  | any | alert | returned
  deriving DecidableEq, Repr

/-- An expected state code: ANY 0, ALERT 3, RETURNED 5 (R184). -/
def expectedOf (b : Byte) : Option Expected :=
  if b = 0 then some .any else if b = 3 then some .alert else if b = 5 then some .returned else none

/-- The record state an expectation names; ANY names none (R49). -/
def Expected.recordState : Expected → Option RecordState
  | .any => none
  | .alert => some .alert
  | .returned => some .returned

/-- A loadable cue, 8 to 31 (R136, R145). -/
def loadableOf (b : Byte) : Option CueId := if 8 ≤ b.toNat then numbered 32 b else none

/-- A two-byte bit set over the twelve event flags: any of bits 12 to 15 set names no flag (R190, R191). -/
def eventSetOf (h : Half) : Option (BitVec 12) := if h.toNat < 4096 then some (h.setWidth 12) else none

/-- A point configuration record from its 11 bytes (R185): `none` when a field holds a value outside its range in R2. -/
def decodePoint (b : PointBytes) : Option PointConfig := do
  let kind ← kindOf b.kind
  let priority ← classNumberOf b.priority
  let source ← sourceOf b.source
  let faultResponse ← faultResponseOf b.faultResponse
  let group ← optionalOf 8 b.group
  let lamp ← optionalOf 32 b.lamp
  let alertCue ← optionalOf 32 b.alertCue
  let ringbackCue ← optionalOf 32 b.ringbackCue
  let channel ← chanOf b.channel
  return { kind, priority, source, onDelay := b.onDelay, offDelay := b.offDelay, faultResponse, group, lamp, alertCue,
           ringbackCue, channel }

/-! ## Response fields -/

/-- A one-byte number, sent as its value (R182). -/
def byteOf (n : Nat) : Byte := BitVec.ofNat 8 n

/-- A two-byte number, most significant byte first (R182). -/
def halfBytes (h : Half) : List Byte := [h.extractLsb' 8 8, h.extractLsb' 0 8]

/-- A two-byte number given as a count. -/
def halfOf (n : Nat) : List Byte := halfBytes (BitVec.ofNat 16 n)

/-- A four-byte number, most significant byte first (R182). -/
def stampBytes (w : Stamp) : List Byte :=
  [w.extractLsb' 24 8, w.extractLsb' 16 8, w.extractLsb' 8 8, w.extractLsb' 0 8]

/-- The two-byte number of two bytes, the most significant first (R182). -/
def halfFrom (hi lo : Byte) : Half := hi ++ lo

/-- The four-byte number of four bytes, the most significant first (R182). -/
def stampFrom (b3 b2 b1 b0 : Byte) : Stamp := b3 ++ b2 ++ b1 ++ b0

/-- A yes/no field (R182). -/
def yesNo (v : Bool) : Byte := if v then 0x01 else 0x00

/-- An optional numbered field, 0xFF when absent (R182). -/
def optionalByte {n : Nat} : Option (Fin n) → Byte
  | some i => byteOf i.val
  | none => 0xFF

/-- A bit set over the keys: bit 0 KACK, bit 1 KSIL, bit 2 KRST, bit 3 KTST (R184). -/
def keySet (v : PerKey Bool) : Byte :=
  byteOf (v.kack.toNat + 2 * v.ksil.toNat + 4 * v.krst.toNat + 8 * v.ktst.toNat)

/-- A time in REFCLK periods as whole units rounded up (R95, R106, R125, R164). -/
def roundedUp (unit t : Nat) : Nat := (t + unit - 1) / unit

/-- A time in whole seconds rounded up. -/
def secondsLeft (t : Nat) : Nat := roundedUp Config.refclkPerSecond t

/-- Code of a sequence kind (R184). -/
def Kind.code : Kind → Byte
  | .auto => 0
  | .manual => 1
  | .pulse => 2

/-- Code of a source (R184). -/
def Source.code : Source → Byte
  | .line n => byteOf n.val
  | .host => 0x40
  | .internal => 0x41

/-- Code of a fault response (R184). -/
def FaultResponse.code : FaultResponse → Byte
  | .alarm => 0
  | .hold => 1

/-- Code of a tone channel (R184). -/
def chanCode : Chan → Byte
  | .a => 0
  | .b => 1

/-- Code of a service state (R184). -/
def Service.code : Service → Byte
  | .outService => 0
  | .inService => 1

/-- Code of an alarm state (R184). -/
def AlarmState.code : AlarmState → Byte
  | .outOfService => 0
  | .normal => 1
  | .deferred => 2
  | .alert => 3
  | .acked => 4
  | .returned => 5
  | .awaitReset => 6
  | .shelved => 7

/-- Code of a record's state: the alarm state code (R186). -/
def RecordState.code : RecordState → Byte
  | .alert => 3
  | .acked => 4
  | .returned => 5
  | .awaitReset => 6

/-- Code of an acknowledgement source (R184). -/
def ackSourceCode : Option AckSource → Byte
  | none => 0
  | some .host => 1
  | some .panel => 2

/-- Code of a line mode (R184). -/
def LineMode.code : LineMode → Byte
  | .unsupervised => 0
  | .supervised => 1

/-- Code of a polarity (R184). -/
def Polarity.code : Polarity → Byte
  | .normal => 0
  | .inverted => 1

/-- Code of a classification (R184). -/
def Classification.code : Classification → Byte
  | .inactive => 0
  | .active => 1
  | .wireOpen => 2
  | .wireShort => 3

/-- Code of a cue policy (R184). -/
def CuePolicy.code : CuePolicy → Byte
  | .repeating => 0
  | .single => 1
  | .firm => 2

/-- Code of a switch policy (R184). -/
def SwitchPolicy.code : SwitchPolicy → Byte
  | .step => 0
  | .immediate => 1

/-- Code of a status (R173). -/
def Status.code : Status → Byte
  | .ok => 0x01
  | .none => 0x02
  | .busy => 0x03
  | .badCheck => 0x10
  | .badLength => 0x11
  | .unknown => 0x12
  | .range => 0x20
  | .state => 0x21
  | .stale => 0x22
  | .full => 0x23
  | .source => 0x24
  | .rejected => 0x25

/-- A point configuration record in its 11 bytes (R185). -/
def PointConfig.encode (c : PointConfig) : List Byte :=
  [c.kind.code, byteOf (c.priority.val + 1), c.source.code, c.onDelay, c.offDelay, c.faultResponse.code,
   optionalByte c.group, optionalByte c.lamp, optionalByte c.alertCue, optionalByte c.ringbackCue, chanCode c.channel]

/-- The reannounce_remaining field as reported: 0 when absent, else the whole seconds left rounded up (R106, R186). -/
def reannounceSeconds : Option Nat → Nat
  | none => 0
  | some t => secondsLeft t

/-- A roster record in its 13 bytes (R186). -/
def RosterRecord.encode (r : RosterRecord) : List Byte :=
  byteOf r.point.val :: stampBytes r.stamp ++
    [r.state.code, byteOf (r.firstOut.toNat + 2 * r.silenced.toNat + 4 * r.sounded.toNat), byteOf r.recurrence,
     ackSourceCode r.ackSource] ++
    halfOf (reannounceSeconds r.reannounce) ++ halfOf r.age

/-- The byte of a step's tone: 0 to 23, or REST 0x80 (R187). -/
def StepTone.code : StepTone → Byte
  | .tone t => byteOf t.val
  | .rest => 0x80

/-- A cue step in its two bytes (R187). -/
def CueStep.encode (st : CueStep) : List Byte := [st.tone.code, byteOf st.length]

/-- A loop entry in its three bytes (section 10.8). -/
def LoopEntry.encode (l : LoopEntry) : List Byte := [byteOf l.first, byteOf l.last, byteOf l.count]

/-! ## The check byte (R169) -/

/-- One of the eight shifts of the CRC register: shifted left within eight bits, and combined with 0x07 when the bit
shifted out was 1. -/
def crcShift (c : Byte) : Byte := if c.msb then (c <<< 1) ^^^ 0x07 else c <<< 1

/-- One byte entered into the CRC register. -/
def crcByte (c b : Byte) : Byte :=
  crcShift (crcShift (crcShift (crcShift (crcShift (crcShift (crcShift (crcShift (c ^^^ b))))))))

/-- The check byte of a list of bytes: CRC-8 with polynomial 0x07 and initial value 0x00. -/
def crc8 (bytes : List Byte) : Byte := bytes.foldl crcByte 0x00

end Sys2Proof.Machine
end

