-- ==== Sys2Proof/Machine/Reply.lean ====
section
/-!
DEFINITION. How a host command is answered: the owner's reply, and its hand-over to the Host Link Controller (R170,
R171). A COMMIT that has been taken has no answer yet (R140).
-/

namespace Sys2Proof.Machine

/-- What an owning block makes of a command: the state it leaves and its answer, if it has one yet. -/
abbrev Reply := State × Option Answer

/-- The command is carried out and answered OK with a payload (R171). -/
def State.replyOk (s : State) (payload : List Byte) : Reply := (s, some ⟨.ok, payload⟩)

/-- The command is refused with a status and no payload, and nothing is changed (R171). -/
def State.refuse (s : State) (st : Status) : Reply := (s, some ⟨st, []⟩)

/-- How far a command is once its owner has taken it: answered, or a COMMIT whose check has started. -/
def Work.afterTaking : Option Answer → Work
  | some a => .done a
  | none => .checking

/-- The first of the marked commands that is the command taken moves on (R170, R178). -/
def takeUpMarked (c : Instr) (a : Option Answer) : List Work → List Work
  | [] => []
  | w :: ws => if w = .awaiting c then Work.afterTaking a :: ws else w :: takeUpMarked c a ws

/-- The link learns that the owner has taken command `c`: the in-flight record that waits for it, or else the oldest
marked command that does, moves on. A command taken with neither leaves the link as it is. -/
def Link.takeUp (l : Link) (c : Instr) (a : Option Answer) : Link :=
  match l.inFlight with
  | some f =>
    if f.work = .awaiting c then { l with inFlight := some { f with work := Work.afterTaking a } }
    else { l with marked := takeUpMarked c a l.marked }
  | none => { l with marked := takeUpMarked c a l.marked }

/-- Hand the owner's reply to command `c` over to the Host Link Controller. -/
def Reply.handOver (r : Reply) (c : Instr) : State :=
  { r.1 with answer := r.2, link := r.1.link.takeUp c r.2 }

/-- The outcome of a host command: its owner's effect, and the answer handed over. -/
def Reply.outcome (r : Reply) (c : Instr) : Host.Outcome State Fault Refusal := .next (r.handOver c)

end Sys2Proof.Machine
end

