-- ==== Sys2Proof/Machine/Alarms.lean ====
section
/-!
DEFINITION. The commands of the alarm sequences (chapter 3): ACK, ACK GROUP, ACK ALL, RESET, RESET ALL.
-/

namespace Sys2Proof.Machine

/-- The stamp of a point's record, 0 when it holds none (R49, R96, R98). -/
def State.stampOf (s : State) (p : PointId) : Stamp := ((s.recordOf p).map RosterRecord.stamp).getD 0

/-- The payload of an ACK's OK and STALE responses: the stamp and the point's alarm state (R49, R181). -/
def ackPayload (st : Stamp) (a : AlarmState) : List Byte := stampBytes st ++ [a.code]

/-- A guarded ACK expects a stamp or a state (R49). -/
def ackGuarded (e : Expected) (st : Stamp) : Bool := e != .any || st != 0

/-- Check 3 of R49: a stamp or a state that differs from the record's. -/
def ackMismatch (e : Expected) (st : Stamp) (r : RosterRecord) : Bool :=
  (st != 0 && st != r.stamp) || e.recordState.any fun x => x != r.state

/-- The STALE answer of an ACK (R49). -/
def State.ackStale (s : State) (p : PointId) : Reply :=
  (s, some ⟨.stale, ackPayload (s.stampOf p) (s.alarmOf p)⟩)

/-- ACK, checks in the order of R49. -/
def ownAck (point expected : Byte) (st : Stamp) (s : State) : Reply :=
  match pointOf point, expectedOf expected with
  | some p, some e =>
    match s.recordOf p with
    | none => if ackGuarded e st then s.ackStale p else s.refuse .state
    | some r =>
      if ackMismatch e st r then s.ackStale p
      else if r.unacked then
        let t := s.acknowledge .host p
        t.replyOk (ackPayload r.stamp (t.alarmOf p))
      else s.refuse .state
  | _, _ => s.refuse .range

/-- Whether a record's point is a member of a group (R50, R84). -/
def State.inGroup (s : State) (g : GroupId) (r : RosterRecord) : Bool := (s.cfg r.point).group == some g

/-- ACK GROUP (R50). -/
def ownAckGroup (group : Byte) (s : State) : Reply :=
  match numbered 8 group with
  | none => s.refuse .range
  | some g =>
    (s.acknowledgeAll .host (s.inGroup g)).replyOk [byteOf (s.countOf fun r => r.unacked && s.inGroup g r)]

/-- ACK ALL from the host (R51). -/
def ownAckAll (s : State) : Reply :=
  (s.acknowledgeAll .host fun _ => true).replyOk [byteOf (s.countOf RosterRecord.unacked)]

/-- RESET (R52). -/
def ownReset (point : Byte) (s : State) : Reply :=
  match pointOf point with
  | none => s.refuse .range
  | some p =>
    if s.alarmOf p = .awaitReset then (s.retire State.handOverflow p .normal).replyOk [] else s.refuse .state

/-- RESET ALL from the host (R53). -/
def ownResetAll (s : State) : Reply :=
  s.resetEvery.replyOk [byteOf (s.countOf fun r => r.state == .awaitReset)]

/-- ACK (R49). -/
def execAck (point expected : Byte) (st : Stamp) (s : State) : Host.Outcome State Fault Refusal :=
  (ownAck point expected st s).outcome (.ack point expected st)

/-- ACK_GROUP (R50). -/
def execAckGroup (group : Byte) (s : State) : Host.Outcome State Fault Refusal :=
  (ownAckGroup group s).outcome (.ackGroup group)

/-- ACK_ALL (R51). -/
def execAckAll (s : State) : Host.Outcome State Fault Refusal := (ownAckAll s).outcome .ackAll

/-- RESET (R52). -/
def execReset (point : Byte) (s : State) : Host.Outcome State Fault Refusal :=
  (ownReset point s).outcome (.reset point)

/-- RESET_ALL (R53). -/
def execResetAll (s : State) : Host.Outcome State Fault Refusal := (ownResetAll s).outcome .resetAll

end Sys2Proof.Machine
end

