-- ==== Sys2Proof/Machine/Channels.lean ====
section
/-!
DEFINITION. The commands and the step end of the Tone Channels (chapter 9): WRITE CHANNEL, READ CHANNEL, STEP_END.
-/

namespace Sys2Proof.Machine

/-- STEP_END (R155); an IDLE channel has no step to end. -/
def execStepEnd (c : Chan) (s : State) : Host.Outcome State Fault Refusal := .next (s.endStep c)

/-- Write a channel's settings. -/
def State.setSettings (s : State) (c : Chan) (enabled : Bool) (policy : SwitchPolicy) : State :=
  { s with channels := s.channels.put c { s.channels.get c with enabled := enabled, policy := policy } }

/-- Stop a channel that a disable finds PLAYING, whatever its hold (R162). -/
def State.stopChannel (s : State) (c : Chan) : State := if (s.playerOf c).isSome then s.goIdle c else s

/-- The effects of a change of settings (R162): a disable stops the channel at once; otherwise the channel compares, which
starts a wanted demand on a channel just enabled and switches at once on one just made IMMEDIATE. -/
def State.changeSettings (s : State) (c : Chan) (enabled : Bool) (policy : SwitchPolicy) : State :=
  let t := s.setSettings c enabled policy
  if enabled then t.compareChannel c else t.stopChannel c

/-- WRITE CHANNEL (R162); settings equal to those held change nothing. -/
def ownWriteChannel (channel enabled policy : Byte) (s : State) : Reply :=
  match chanOf channel, yesNoOf enabled, switchPolicyOf policy with
  | some c, some v, some w =>
    if (s.channels.get c).enabled = v ∧ (s.channels.get c).policy = w then s.replyOk []
    else (s.changeSettings c v w).replyOk []
  | _, _, _ => s.refuse .range

/-- The kind, point and stamp of an owner (R164, R181, R184): none 0, record 1, TEST 2. -/
def ownerBytes : Option Owner → List Byte
  | none => 0 :: 0xFF :: stampBytes 0
  | some (.record p st) => 1 :: byteOf p.val :: stampBytes st
  | some .test => 2 :: 0xFF :: stampBytes 0

/-- The player part of READ CHANNEL's payload (R164): state, owner, cues, step, copy, time left, counters and flags. -/
def playerBytes : Option Player → List Byte
  | none =>
    0 :: ownerBytes none ++ [0xFF, 0xFF, 0xFF, Config.inapplicable .copyTone, 0x00] ++ halfOf 0 ++ [0x00] ++ halfOf 0 ++
      [0, 0, 0, 0]
  | some pl =>
    1 :: ownerBytes (some pl.owner) ++
      [byteOf pl.demandedCue.val, byteOf pl.playedCue.val, byteOf pl.stepIndex, pl.copy.tone.code,
       byteOf pl.copy.length] ++
      halfBytes (pl.copy.frequency.getD 0) ++ [byteOf pl.copy.ms] ++
      halfOf (roundedUp Config.refclkPerMs pl.timeLeft) ++
      [byteOf pl.counters.length, byteOf (pl.counters.getD 0 0), byteOf (pl.counters.getD 1 0),
       byteOf (pl.firmHold.toNat + 2 * pl.renewed.toNat + 4 * pl.replacementPending.toNat)]

/-- The wanted part of READ CHANNEL's payload (R164): kind, point, stamp and cue. -/
def wantedBytes : Option Demand → List Byte
  | none => ownerBytes none ++ [0xFF]
  | some d => ownerBytes (some d.owner) ++ [byteOf d.cue.val]

/-- READ CHANNEL (R164). -/
def ownReadChannel (channel : Byte) (s : State) : Reply :=
  match chanOf channel with
  | none => s.refuse .range
  | some c =>
    let ch := s.channels.get c
    s.replyOk ([yesNo ch.enabled, ch.policy.code] ++ playerBytes ch.player ++ wantedBytes (s.wanted c))

/-- WRITE_CHANNEL (R162). -/
def execWriteChannel (channel enabled policy : Byte) (s : State) : Host.Outcome State Fault Refusal :=
  (ownWriteChannel channel enabled policy s).outcome (.writeChannel channel enabled policy)

/-- READ_CHANNEL (R164). -/
def execReadChannel (channel : Byte) (s : State) : Host.Outcome State Fault Refusal :=
  (ownReadChannel channel s).outcome (.readChannel channel)

end Sys2Proof.Machine
end

