-- ==== Sys2Proof/Machine/Cues.lean ====
section
/-!
DEFINITION. The Cue Library (chapter 8): the edit session, COMMIT and its check, reading and erasing cues, the tone table.
-/

namespace Sys2Proof.Machine

/-! ## The tone table -/

/-- A frequency the tone table may hold (R129). -/
def frequencyOk (f : Half) : Bool := 200 ≤ f.toNat && f.toNat ≤ 5000

/-- The tone table with frequencies written from a first tone number on, in list order (R130). -/
def writeTonesFrom (t : Table Half 24) (first : Nat) : List Half → Table Half 24
  | [] => t
  | f :: fs => writeTonesFrom (if h : first < 24 then t.put ⟨first, h⟩ f else t) (first + 1) fs

/-- WRITE TONES (R130). A list that the catalogue does not accept, of no or of more than 16 frequencies, is BAD_LENGTH as
at the link (R171, R181). -/
def ownWriteTones (first : Byte) (frequencies : List Half) (s : State) : Reply :=
  if ¬ (1 ≤ frequencies.length ∧ frequencies.length ≤ 16) then s.refuse .badLength
  else if 24 < first.toNat + frequencies.length ∨ frequencies.all frequencyOk = false then s.refuse .range
  else ({ s with tones := writeTonesFrom s.tones first.toNat frequencies } : State).replyOk []

/-- READ TONES (R131). -/
def ownReadTones (s : State) : Reply := s.replyOk (s.tones.toList.flatMap halfBytes)

/-! ## The edit session -/

/-- An unwritten step slot: REST with length 0 (R136). -/
def emptySlotBytes : StepBytes := ⟨0x80, 0⟩

/-- The session BEGIN EDIT creates (R136). -/
def freshSession (target : CueId) : EditSession :=
  { target := target, phase := .openPhase, steps := Vector.replicate 16 emptySlotBytes, stepCount := 0,
    header := { policy := .repeating, tempo := 4, alt := none, loops := [] }, idleTimer := some Config.editIdleTime }

/-- The session while it is OPEN (R137, R138, R140, R142). -/
def State.openSession (s : State) : Option EditSession :=
  match s.edit with
  | some e => if e.phase = .openPhase then some e else none
  | none => none

/-- The session with its idle timer started afresh at 8 s (R139). -/
def EditSession.touched (e : EditSession) : EditSession := { e with idleTimer := some Config.editIdleTime }

/-- Write the edit session. -/
def State.setEdit (s : State) (e : Option EditSession) : State := { s with edit := e }

/-- BEGIN EDIT (R136). -/
def ownBeginEdit (cue : Byte) (s : State) : Reply :=
  match loadableOf cue with
  | none => s.refuse .range
  | some q => if s.edit.isSome then s.refuse .state else (s.setEdit (some (freshSession q))).replyOk []

/-- The header buffer a WRITE CUE HEADER carries (R137): a from_step of 0 means no alt, and loop entries beyond the loop
count are ignored (R182). -/
def headerOf (h : HeaderBytes) : Option HeaderBuffer :=
  match cuePolicyOf h.policy with
  | none => none
  | some policy =>
    if 2 < h.loopCount.toNat then none
    else
      some
        { policy := policy
          tempo := h.tempo
          alt := if h.altFrom = 0 then none else some (h.altFrom, h.altTempo)
          loops := [h.loop0, h.loop1].take h.loopCount.toNat }

/-- WRITE CUE HEADER (R137): on an OPEN session the idle timer starts afresh whether the command is taken or refused. -/
def ownWriteCueHeader (h : HeaderBytes) (s : State) : Reply :=
  match s.openSession with
  | none => s.refuse .state
  | some e =>
    match headerOf h with
    | none => (s.setEdit (some e.touched)).refuse .range
    | some b => (s.setEdit (some { e.touched with header := b })).replyOk []

/-- The step slots with steps written from an offset on, in list order (R138). -/
def writeSlotsFrom (t : Table StepBytes 16) (offset : Nat) : List StepBytes → Table StepBytes 16
  | [] => t
  | x :: xs => writeSlotsFrom (if h : offset < 16 then t.put ⟨offset, h⟩ x else t) (offset + 1) xs

/-- WRITE STEPS (R138): the new step count. -/
def ownWriteSteps (offset : Byte) (steps : List StepBytes) (s : State) : Reply :=
  match s.openSession with
  | none => s.refuse .state
  | some e =>
    if steps = [] ∨ 16 < offset.toNat + steps.length then (s.setEdit (some e.touched)).refuse .range
    else
      let n := max e.stepCount (offset.toNat + steps.length)
      (s.setEdit (some { e.touched with steps := writeSlotsFrom e.steps offset.toNat steps, stepCount := n })).replyOk
        [byteOf n]

/-- The session ends and its buffers are discarded; EDIT_ENDED is set (R139, R140, R142). -/
def State.endEdit (s : State) : State := (s.setEdit none).raise .editEnded

/-- EDIT_IDLE_TIMEOUT (R139): the idle timer of an OPEN session expires; a stopped timer has no expiry. -/
def State.expireEdit (s : State) : State :=
  match s.openSession with
  | some e => if e.idleTimer.isSome then s.endEdit else s
  | none => s

/-- EDIT_IDLE_TIMEOUT (R139). -/
def execEditIdleTimeout (s : State) : Host.Outcome State Fault Refusal := .next s.expireEdit

/-- ABORT EDIT (R142). -/
def ownAbortEdit (s : State) : Reply :=
  match s.openSession with
  | none => s.refuse .state
  | some _ => s.endEdit.replyOk []

/-- COMMIT (R140): the session goes to VALIDATING and its idle timer stops. The answer comes at the end of the check. -/
def ownCommit (s : State) : Reply :=
  match s.openSession with
  | none => s.refuse .state
  | some e => (s.setEdit (some { e with phase := .validating, idleTimer := none }), none)

/-! ## The check of COMMIT (R141) -/

/-- The rejection reasons (R141). -/
inductive Rejection where
  | noSteps | toneRange | lengthRange | tempoRange | altRange | loopRange | loopOverlap
  deriving DecidableEq, Repr

/-- Code of a rejection reason (R184). -/
def Rejection.code : Rejection → Byte
  | .noSteps => 1
  | .toneRange => 2
  | .lengthRange => 3
  | .tempoRange => 4
  | .altRange => 5
  | .loopRange => 6
  | .loopOverlap => 7

/-- The steps below the step count (R141). -/
def EditSession.written (e : EditSession) : List StepBytes := e.steps.toList.take e.stepCount

/-- A tone as written: 0 to 23, or REST 0x80 (R187). -/
def toneOf (b : Byte) : Option StepTone := if b = 0x80 then some .rest else (numbered 24 b).map .tone

/-- A length a cue step may have, 1 to 16 (R127). -/
def lengthOk (b : Byte) : Bool := 1 ≤ b.toNat && b.toNat ≤ 16

/-- Test 5 of R141: the alt is absent, or its from_step lies in 1 to step count − 1 and its tempo is not above 11. -/
def altOk (stepCount : Nat) : Option (Byte × Byte) → Bool
  | none => true
  | some (fromStep, tempo) => 1 ≤ fromStep.toNat && fromStep.toNat < stepCount && tempo.toNat ≤ 11

/-- Test 6 of R141 on one loop entry. -/
def loopOk (stepCount : Nat) (l : LoopBytes) : Bool :=
  2 ≤ l.count.toNat && l.count.toNat ≤ 15 && l.first.toNat ≤ l.last.toNat && l.last.toNat < stepCount

/-- One span lies inside another (R141: sharing a first or a last step is nesting). -/
def spanInside (x y : LoopBytes) : Bool := y.first.toNat ≤ x.first.toNat && x.last.toNat ≤ y.last.toNat

/-- Two spans that have no step in common. -/
def spansApart (x y : LoopBytes) : Bool := x.last.toNat < y.first.toNat || y.last.toNat < x.first.toNat

/-- Test 7 of R141: two loop entries are disjoint, or one is nested in the other and their spans differ. -/
def loopsCompatible : List LoopBytes → Bool
  | [x, y] => spansApart x y || (spanInside x y != spanInside y x)
  | _ => true

/-- The index of the first entry that fails a test (R141: "the lowest such step", "the first such loop entry"). -/
def firstFailing {α : Type} (ok : α → Bool) (l : List α) : Option Nat := l.findIdx? fun x => !ok x

/-- The first test of R141 that fails, with its reason and the index carried (0xFF for none, R184). -/
def EditSession.rejection (e : EditSession) : Option (Rejection × Byte) :=
  if e.stepCount = 0 then some (.noSteps, 0xFF)
  else
    match firstFailing (fun st => (toneOf st.tone).isSome) e.written with
    | some i => some (.toneRange, byteOf i)
    | none =>
      match firstFailing (fun st => lengthOk st.length) e.written with
      | some i => some (.lengthRange, byteOf i)
      | none =>
        if 11 < e.header.tempo.toNat then some (.tempoRange, 0xFF)
        else if altOk e.stepCount e.header.alt = false then some (.altRange, 0xFF)
        else
          match firstFailing (loopOk e.stepCount) e.header.loops with
          | some i => some (.loopRange, byteOf i)
          | none => if loopsCompatible e.header.loops then none else some (.loopOverlap, 1)

/-- A tempo byte as a tempo number. -/
def tempoOf (b : Byte) : TempoId := (numbered 12 b).getD 0

/-- The contents a COMMIT that passes gives its target (R140 step 1). -/
def EditSession.build (e : EditSession) : CueContents :=
  { policy := e.header.policy
    tempo := tempoOf e.header.tempo
    alt := e.header.alt.map fun a => ⟨a.1.toNat, tempoOf a.2⟩
    steps := e.written.map fun st => ⟨(toneOf st.tone).getD .rest, st.length.toNat⟩
    loops := e.header.loops.map fun l => ⟨l.first.toNat, l.last.toNat, l.count.toNat⟩ }

/-- The effect of a COMMIT that passes (R140 steps 1 to 4): the cue is replaced, the session ends, EDIT_ENDED is set, and the
channels are told. A channel that does not play the cue takes the demands that the new policy makes appear or disappear (R150;
DEDUCED, notes/assumptions/15.md). -/
def State.replaceCue (s : State) (e : EditSession) : State :=
  let t := ({ s with cues := s.cues.put e.target (some e.build) } : State).endEdit
  (t.noticeReplacement s e.target .a).noticeReplacement s e.target .b

/-- Every COMMIT whose check was going on has its answer, in flight or marked (R170, R179). -/
def Link.commitAnswered (l : Link) (a : Answer) : Link :=
  { l with
    inFlight := l.inFlight.map fun f => if f.work = .checking then { f with work := .done a } else f
    marked := l.marked.map fun w => if w = .checking then .done a else w }

/-- The answer of a COMMIT reaches the Host Link Controller (R140, R141). -/
def State.answerCommit (s : State) (a : Answer) : State :=
  { s with answer := some a, link := s.link.commitAnswered a }

/-- The end of the check (R140, R141): the cue is replaced, or the session returns to OPEN with its idle timer started
afresh; no session VALIDATING, no check to end (R143). DESIGN CHOICE (notes/assumptions/31.md): R140 has these steps within
the claim of COMMIT's completion, and the table has COMMIT_CHECK_END and COMMAND_COMPLETION as two rows; here the check's end
gives the COMMIT its answer, and the response is placed, the link being BUSY until then, by the completion. -/
def State.endCheck (s : State) : State :=
  match s.edit with
  | some e =>
    if e.phase = .validating then
      match e.rejection with
      | none => (s.replaceCue e).answerCommit ⟨.ok, []⟩
      | some (why, i) =>
        (s.setEdit (some { e.touched with phase := .openPhase })).answerCommit ⟨.rejected, [why.code, i]⟩
    else s
  | none => s

/-- COMMIT_CHECK_END (R141). -/
def execCommitCheckEnd (s : State) : Host.Outcome State Fault Refusal := .next s.endCheck

/-! ## Reading and erasing -/

/-- Whether a channel is PLAYING a cue (R144, R145). -/
def State.plays (s : State) (c : Chan) (q : CueId) : Bool := (s.playerOf c).any fun pl => pl.playedCue == q

/-- A list of bytes made up to `n` steps with steps that do not apply (R182). -/
def paddedSteps (steps : List CueStep) : List Byte :=
  steps.flatMap CueStep.encode ++
    (List.replicate (16 - steps.length) [Config.inapplicable .stepTone, 0x00]).flatten

/-- The loop count and both loop entries, an entry beyond the count being zeros (R182). -/
def paddedLoops (loops : List LoopEntry) : List Byte :=
  byteOf loops.length :: loops.flatMap LoopEntry.encode ++ List.replicate (3 * (2 - loops.length)) 0x00

/-- The contents part of READ CUE's payload (R144, R181). -/
def contentsBytes : Option CueContents → List Byte
  | none =>
    [0, Config.inapplicable .cuePolicy, Config.inapplicable .cueTempo, Config.inapplicable .altFrom,
     Config.inapplicable .altTempo, 0] ++ paddedSteps [] ++ paddedLoops []
  | some q =>
    [1, q.policy.code, byteOf q.tempo.val,
     (q.alt.map fun a => byteOf a.fromStep).getD (Config.inapplicable .altFrom),
     (q.alt.map fun a => byteOf a.tempo.val).getD (Config.inapplicable .altTempo),
     byteOf q.steps.length] ++ paddedSteps q.steps ++ paddedLoops q.loops

/-- The session part of READ CUE's payload: not the target 0, OPEN 1, VALIDATING 2, and the session's step count (R144,
R184). -/
def State.sessionBytes (s : State) (q : CueId) : List Byte :=
  match s.edit with
  | some e =>
    if e.target = q then [if e.phase = .openPhase then 1 else 2, byteOf e.stepCount] else [0, 0]
  | none => [0, 0]

/-- READ CUE (R144). -/
def ownReadCue (cue : Byte) (s : State) : Reply :=
  match numbered 32 cue with
  | none => s.refuse .range
  | some q =>
    s.replyOk (contentsBytes s.cues[q] ++ s.sessionBytes q ++
      [byteOf ((s.plays .a q).toNat + 2 * (s.plays .b q).toNat)])

/-- Whether a cue is the target of the edit session, in either phase (R145). -/
def State.edits (s : State) (q : CueId) : Bool := s.edit.any fun e => e.target == q

/-- ERASE CUE (R145); the channels then take the demands that the change makes appear (R150; DEDUCED,
notes/assumptions/15.md). DESIGN CHOICE (notes/assumptions/35.md): a pass of cue 0 that starts then sets CUE_FALLBACK by R153
within this command, though R145 says that ERASE CUE sets no event flag. -/
def ownEraseCue (cue : Byte) (s : State) : Reply :=
  match loadableOf cue with
  | none => s.refuse .range
  | some q =>
    if s.edits q ∨ s.plays .a q ∨ s.plays .b q then s.refuse .state
    else if s.ready q then (({ s with cues := s.cues.put q none } : State).compareSince s).replyOk []
    else s.replyOk []

/-- BEGIN_EDIT (R136). -/
def execBeginEdit (cue : Byte) (s : State) : Host.Outcome State Fault Refusal :=
  (ownBeginEdit cue s).outcome (.beginEdit cue)

/-- WRITE_CUE_HEADER (R137). -/
def execWriteCueHeader (h : HeaderBytes) (s : State) : Host.Outcome State Fault Refusal :=
  (ownWriteCueHeader h s).outcome (.writeCueHeader h)

/-- WRITE_STEPS (R138). -/
def execWriteSteps (offset : Byte) (steps : List StepBytes) (s : State) : Host.Outcome State Fault Refusal :=
  (ownWriteSteps offset steps s).outcome (.writeSteps offset steps)

/-- COMMIT (R140). -/
def execCommit (s : State) : Host.Outcome State Fault Refusal := (ownCommit s).outcome .commit

/-- ABORT_EDIT (R142). -/
def execAbortEdit (s : State) : Host.Outcome State Fault Refusal := (ownAbortEdit s).outcome .abortEdit

/-- READ_CUE (R144). -/
def execReadCue (cue : Byte) (s : State) : Host.Outcome State Fault Refusal :=
  (ownReadCue cue s).outcome (.readCue cue)

/-- ERASE_CUE (R145). -/
def execEraseCue (cue : Byte) (s : State) : Host.Outcome State Fault Refusal :=
  (ownEraseCue cue s).outcome (.eraseCue cue)

/-- WRITE_TONES (R130). -/
def execWriteTones (first : Byte) (frequencies : List Half) (s : State) : Host.Outcome State Fault Refusal :=
  (ownWriteTones first frequencies s).outcome (.writeTones first frequencies)

/-- READ_TONES (R131). -/
def execReadTones (s : State) : Host.Outcome State Fault Refusal := (ownReadTones s).outcome .readTones

end Sys2Proof.Machine
end

