-- ==== Sys2Proof/Machine/Events.lean ====
section
/-!
DEFINITION. The commands of the Event Unit (chapter 11): READ EVENTS, CLEAR EVENTS, WRITE EVENT MASK.
-/

namespace Sys2Proof.Machine

/-- A set of the twelve flags in two bytes (R184). -/
def flagBytes (f : BitVec 12) : List Byte := halfBytes (f.setWidth 16)

/-- READ EVENTS (R191): the flags and the mask. -/
def ownReadEvents (s : State) : Reply := s.replyOk (flagBytes s.events ++ flagBytes s.mask)

/-- CLEAR EVENTS (R191): every named flag becomes clear. -/
def ownClearEvents (flags : Half) (s : State) : Reply :=
  match eventSetOf flags with
  | none => s.refuse .range
  | some f => ({ s with events := s.events &&& ~~~f } : State).replyOk []

/-- WRITE EVENT MASK (R190). -/
def ownWriteEventMask (mask : Half) (s : State) : Reply :=
  match eventSetOf mask with
  | none => s.refuse .range
  | some m => ({ s with mask := m } : State).replyOk []

/-- READ_EVENTS (R191). -/
def execReadEvents (s : State) : Host.Outcome State Fault Refusal := (ownReadEvents s).outcome .readEvents

/-- CLEAR_EVENTS (R191). -/
def execClearEvents (flags : Half) (s : State) : Host.Outcome State Fault Refusal :=
  (ownClearEvents flags s).outcome (.clearEvents flags)

/-- WRITE_EVENT_MASK (R190). -/
def execWriteEventMask (mask : Half) (s : State) : Host.Outcome State Fault Refusal :=
  (ownWriteEventMask mask s).outcome (.writeEventMask mask)

end Sys2Proof.Machine
end

