-- ==== Sys2Proof/Machine/Groups.lean ====
section
/-!
DEFINITION. The commands of the Group Unit (chapter 5): WRITE GROUP, READ GROUP, CLEAR FIRST-OUT.
-/

namespace Sys2Proof.Machine

/-- WRITE GROUP to no (R89): the slot empties and armed is left as it was. -/
def State.disableGroup (s : State) (g : GroupId) : State :=
  let t := s.emptySlot g
  t.setGroup g { t.groups[g] with firstOutEnabled := false }

/-- WRITE GROUP to yes (R89): armed is yes exactly when the group is quiet. -/
def State.enableGroup (s : State) (g : GroupId) : State :=
  s.setGroup g { s.groups[g] with firstOutEnabled := true, armed := s.quiet g }

/-- WRITE GROUP (R89). -/
def ownWriteGroup (group enabled : Byte) (s : State) : Reply :=
  match numbered 8 group, yesNoOf enabled with
  | some g, some v =>
    if (s.groups[g]).firstOutEnabled = v then s.replyOk []
    else if v then (s.enableGroup g).replyOk []
    else (s.disableGroup g).replyOk []
  | _, _ => s.refuse .range

/-- The stamp that goes with a slot: that of the named point's record, 0 for an absent slot (R91, R182). -/
def State.slotStamp (s : State) : Option PointId → Stamp
  | some p => s.stampOf p
  | none => 0

/-- READ GROUP (R91). -/
def ownReadGroup (group : Byte) (s : State) : Reply :=
  match numbered 8 group with
  | none => s.refuse .range
  | some g =>
    let r := s.groups[g]
    s.replyOk ([yesNo r.firstOutEnabled, yesNo r.armed, yesNo (s.quiet g), optionalByte r.slot] ++
      stampBytes (s.slotStamp r.slot))

/-- Arm one group if it is quiet (R90). -/
def State.armIfQuiet (s : State) (g : GroupId) : State :=
  if s.quiet g then s.setGroup g { s.groups[g] with armed := true } else s

/-- CLEAR FIRST-OUT (R90). -/
def ownClearFirstOut (group : Byte) (s : State) : Reply :=
  match numbered 8 group with
  | none => s.refuse .range
  | some g => ((s.emptySlot g).armIfQuiet g).replyOk [optionalByte (s.groups[g]).slot]

/-- WRITE_GROUP (R89). -/
def execWriteGroup (group enabled : Byte) (s : State) : Host.Outcome State Fault Refusal :=
  (ownWriteGroup group enabled s).outcome (.writeGroup group enabled)

/-- READ_GROUP (R91). -/
def execReadGroup (group : Byte) (s : State) : Host.Outcome State Fault Refusal :=
  (ownReadGroup group s).outcome (.readGroup group)

/-- CLEAR_FIRST_OUT (R90). -/
def execClearFirstOut (group : Byte) (s : State) : Host.Outcome State Fault Refusal :=
  (ownClearFirstOut group s).outcome (.clearFirstOut group)

end Sys2Proof.Machine
end

