-- ==== Sys2Proof/Machine/Lines.lean ====
section
/-!
DEFINITION. The commands and events of the Line Monitor and the Condition Filter (chapter 2): the sample of a line,
WRITE LINE, READ LINE, WRITE THRESHOLDS, READ THRESHOLDS, ASSERT, RELEASE and the persistence expiries.
-/

namespace Sys2Proof.Machine

/-- The adoption rule (R21): the classification on which the new level and the last level agree, when it differs from the
one held. -/
def State.adopts (s : State) (l : LineRecord) (level : Byte) : Option Classification :=
  match l.lastLevel with
  | none => none
  | some last =>
    let c := s.classify l level
    if s.classify l last = c ∧ c ≠ l.classification then some c else none

/-- A sample of a line (R17, R21): the level is classified, the adoption rule applied, and the level stored. -/
def State.sampleLine (s : State) (n : LineId) (level : Byte) : State :=
  let l := s.lines[n]
  match s.adopts l level with
  | some c => (s.setLine n { l with classification := c, lastLevel := some level }).linesChanged [n]
  | none => s.setLine n { l with lastLevel := some level }

/-- LINE_SAMPLE (R17). -/
def execLineSample (n : LineId) (level : Byte) (s : State) : Host.Outcome State Fault Refusal :=
  .next (s.sampleLine n level)

/-- Write a line's settings and classify its last level under them at once (R23). -/
def State.writeLineSettings (s : State) (n : LineId) (mode : LineMode) (polarity : Polarity) (set : SetId) : State :=
  let l := s.lines[n]
  let l' := s.reclassified { l with mode := mode, polarity := polarity, set := set }
  (s.setLine n l').linesChanged (if l'.classification = l.classification then [] else [n])

/-- WRITE LINE (R23); settings equal to those held change nothing. -/
def ownWriteLine (line mode polarity set : Byte) (s : State) : Reply :=
  match numbered 32 line, lineModeOf mode, polarityOf polarity, numbered 4 set with
  | some n, some m, some q, some t =>
    let l := s.lines[n]
    if l.mode = m ∧ l.polarity = q ∧ l.set = t then s.replyOk [] else (s.writeLineSettings n m q t).replyOk []
  | _, _, _, _ => s.refuse .range

/-- READ LINE (R24); an absent last level is an optional one-byte field, sent as 0xFF (R182). -/
def ownReadLine (line : Byte) (s : State) : Reply :=
  match numbered 32 line with
  | none => s.refuse .range
  | some n =>
    let l := s.lines[n]
    s.replyOk
      [l.mode.code, l.polarity.code, byteOf l.set.val, l.classification.code, yesNo l.lastLevel.isSome,
       l.lastLevel.getD 0xFF, yesNo (s.faulted.contains n)]

/-- The lines that name a set and whose last level classifies otherwise than they hold (R25). -/
def State.staleLines (s : State) (k : SetId) : List LineId :=
  allLines.filter fun n =>
    (s.lines[n]).set == k && (s.reclassified s.lines[n]).classification != (s.lines[n]).classification

/-- Write a threshold set and classify the last level of every line that names it at once (R25). -/
def State.writeThresholdSet (s : State) (k : SetId) (t : ThresholdSet) : State :=
  let u := { s with thresholds := s.thresholds.put k t }
  let changed := u.staleLines k
  ({ u with lines := u.lines.map fun (l : LineRecord) => if l.set = k then u.reclassified l else l }).linesChanged changed

/-- WRITE THRESHOLDS (R25); levels equal to those held change nothing. -/
def ownWriteThresholds (set s' a o : Byte) (s : State) : Reply :=
  match numbered 4 set with
  | none => s.refuse .range
  | some k =>
    if ¬ (s'.toNat < a.toNat ∧ a.toNat < o.toNat) then s.refuse .range
    else if s.thresholds[k] = ⟨s', a, o⟩ then s.replyOk []
    else (s.writeThresholdSet k ⟨s', a, o⟩).replyOk []

/-- READ THRESHOLDS (R26). -/
def ownReadThresholds (set : Byte) (s : State) : Reply :=
  match numbered 4 set with
  | none => s.refuse .range
  | some k => s.replyOk [(s.thresholds[k]).s, (s.thresholds[k]).a, (s.thresholds[k]).o]

/-- Set a point's host raw condition; an in-service point takes it as its raw condition (R30). -/
def State.setHostRaw (s : State) (p : PointId) (v : Bool) : State :=
  (s.setFilter p { s.filterOf p with hostRaw := v }).takeRaw p v

/-- ASSERT and RELEASE (R30): the checks they share, and the new host raw condition. -/
def State.hostCondition (s : State) (point : Byte) (v : Bool) : Reply :=
  match pointOf point with
  | none => s.refuse .range
  | some p =>
    if (s.cfg p).source ≠ .host then s.refuse .source
    else if (s.filterOf p).hostRaw = v then s.replyOk []
    else (s.setHostRaw p v).replyOk []

/-- ASSERT (R30). -/
def ownAssert (point : Byte) (s : State) : Reply := s.hostCondition point true

/-- RELEASE (R30). -/
def ownRelease (point : Byte) (s : State) : Reply := s.hostCondition point false

/-- A running, unfrozen on-delay timer expires (R28, R32): the qualified condition becomes PRESENT and a rise is handed
over. A cancelled, idle or frozen timer has no expiry. -/
def State.expireOnDelay (s : State) (p : PointId) : State :=
  let f := s.filterOf p
  if f.onTimer.isSome ∧ f.frozen = false then
    (s.setFilter p { f with qualified := true, onTimer := none }).rise p
  else s

/-- A running, unfrozen off-delay timer expires (R28, R32): the qualified condition becomes ABSENT and a fall is handed
over. -/
def State.expireOffDelay (s : State) (p : PointId) : State :=
  let f := s.filterOf p
  if f.offTimer.isSome ∧ f.frozen = false then
    (s.setFilter p { f with qualified := false, offTimer := none }).fall p
  else s

/-- ON_DELAY_EXPIRY (R32). -/
def execOnDelayExpiry (p : PointId) (s : State) : Host.Outcome State Fault Refusal := .next (s.expireOnDelay p)

/-- OFF_DELAY_EXPIRY (R32). -/
def execOffDelayExpiry (p : PointId) (s : State) : Host.Outcome State Fault Refusal := .next (s.expireOffDelay p)

/-- WRITE_LINE (R23). -/
def execWriteLine (line mode polarity set : Byte) (s : State) : Host.Outcome State Fault Refusal :=
  (ownWriteLine line mode polarity set s).outcome (.writeLine line mode polarity set)

/-- READ_LINE (R24). -/
def execReadLine (line : Byte) (s : State) : Host.Outcome State Fault Refusal :=
  (ownReadLine line s).outcome (.readLine line)

/-- WRITE_THRESHOLDS (R25). -/
def execWriteThresholds (set s' a o : Byte) (s : State) : Host.Outcome State Fault Refusal :=
  (ownWriteThresholds set s' a o s).outcome (.writeThresholds set s' a o)

/-- READ_THRESHOLDS (R26). -/
def execReadThresholds (set : Byte) (s : State) : Host.Outcome State Fault Refusal :=
  (ownReadThresholds set s).outcome (.readThresholds set)

/-- ASSERT (R30). -/
def execAssertPoint (point : Byte) (s : State) : Host.Outcome State Fault Refusal :=
  (ownAssert point s).outcome (.assertPoint point)

/-- RELEASE (R30). -/
def execReleasePoint (point : Byte) (s : State) : Host.Outcome State Fault Refusal :=
  (ownRelease point s).outcome (.releasePoint point)

end Sys2Proof.Machine
end

