-- ==== Sys2Proof/Machine/Outputs.lean ====
section
/-!
DEFINITION. What the part drives: lamp patterns and lamp lines, CALM (chapter 7.3 and 7.4), and the tone outputs (R161).
All are read off the state and the level of RSTN, an input pin that no row of the table changes: while it is low the outputs
stand at their reset levels. SDO is in Machine/Link.lean.
-/

namespace Sys2Proof.Machine

/-- An output at a level of RSTN: its reset level while RSTN is low, else what the state gives. -/
def underReset {α : Type} (rstn : LineLevel) (held driven : α) : α :=
  match rstn with
  | .low => held
  | .high => driven

/-- Whether ATTN is driven low: it is released while RSTN is low (R189). -/
def State.attnPin (s : State) (rstn : LineLevel) : Bool := underReset rstn false s.attn

/-- The six lamp patterns (R121). -/
inductive Pattern where
  | off | steady | wink | slow | fast | double
  deriving DecidableEq, Repr

/-- The rank of a pattern on a shared lamp, and its code on the host link (R123, R184): the two lists run in the same
order, OFF lowest. -/
def Pattern.rank : Pattern → Nat
  | .off => 0
  | .steady => 1
  | .wink => 2
  | .slow => 3
  | .fast => 4
  | .double => 5

/-- The higher-ranked of two patterns (R123). -/
def Pattern.over (x y : Pattern) : Pattern := if x.rank < y.rank then y else x

/-- Whether a phase lies in the interval from `a` to `b` milliseconds of the frame, its start included and its end
excluded (R121). -/
def phaseIn (phase a b : Nat) : Bool := a * Config.refclkPerMs ≤ phase && phase < b * Config.refclkPerMs

/-- Whether a pattern is on at a phase of the flash frame (R121). -/
def Pattern.onAt (phase : Nat) : Pattern → Bool
  | .double => phaseIn phase 0 100 || phaseIn phase 200 300
  | .fast => phaseIn phase 0 125 || phaseIn phase 250 375 || phaseIn phase 500 625 || phaseIn phase 750 875
  | .slow => phaseIn phase 0 500
  | .wink => phaseIn phase 0 100
  | .steady => true
  | .off => false

/-- The lamp pattern of an alarm state, and of ALERT and RETURNED with the first-out mark (R122). -/
def patternOf (a : AlarmState) (firstOut : Bool) : Pattern :=
  match a with
  | .alert => if firstOut then .double else .fast
  | .returned => if firstOut then .double else .slow
  | .acked => .steady
  | .awaitReset => .wink
  | .deferred => .fast
  | .normal | .shelved | .outOfService => .off

/-- The lamp pattern of a point (R122). -/
def State.pointPattern (s : State) (p : PointId) : Pattern :=
  patternOf (s.alarmOf p) ((s.recordOf p).any RosterRecord.firstOut)

/-- The derived pattern of a lamp line: the highest-ranked of the patterns of the points that name it (R123). -/
def State.lampPattern (s : State) (n : LampId) : Pattern :=
  (allPoints.filter fun p => (s.cfg p).lamp == some n).foldl (fun acc p => acc.over (s.pointPattern p)) .off

/-- The pattern a lamp line shows: STEADY while the lamp test is active (R117, R123). -/
def State.lampShown (s : State) (n : LampId) : Pattern := if s.testActive then .steady else s.lampPattern n

/-- The level of a lamp line (R121): low while RSTN is low (R124). -/
def State.lampLine (s : State) (rstn : LineLevel) (n : LampId) : Bool :=
  underReset rstn false ((s.lampShown n).onAt s.flashPhase)

/-- Whether a point in this state asserts CALM (R126). -/
def AlarmState.calls : AlarmState → Bool
  | .alert | .returned | .deferred => true
  | .outOfService | .normal | .acked | .awaitReset | .shelved => false

/-- Whether CALM is asserted (R126), as READ LAMPS reports it (R125). -/
def State.calm (s : State) : Bool := allPoints.any fun p => (s.alarmOf p).calls

/-- The level of the CALM line: low while RSTN is low (R124). -/
def State.calmPin (s : State) (rstn : LineLevel) : Bool := underReset rstn false s.calm

/-- REFCLK periods in half a period of a frequency: the nearest whole number, the larger when half the period falls midway
(R161). -/
def halfPeriod (f : Half) : Nat := (Config.refclkPerSecond + f.toNat) / (2 * f.toNat)

/-- The level of a tone output (R161): a square wave of the step copy's frequency, high half first, counted from the start
of the step; low in a REST, while IDLE and while RSTN is low. -/
def State.toneOutput (s : State) (rstn : LineLevel) (c : Chan) : Bool :=
  underReset rstn false
    (match s.playerOf c with
    | none => false
    | some pl =>
      match pl.copy.frequency with
      | none => false
      | some f => ((pl.copy.duration - pl.timeLeft) / halfPeriod f) % 2 == 0)

end Sys2Proof.Machine
end

