-- ==== Sys2Proof/Machine/Shelves.lean ====
section
/-!
DEFINITION. The Shelve Unit and the Silence Unit (chapter 6): SHELVE, UNSHELVE, LIST SHELVED, the shelve expiry, SILENCE and
the reannunciation expiry.
-/

namespace Sys2Proof.Machine

/-- Insert an entry at its place in expiry order, after every entry whose expiry falls at the same instant (R95, R97). -/
def insertShelve (e : ShelveEntry) (l : List ShelveEntry) : List ShelveEntry :=
  l.takeWhile (fun x => x.timeLeft ≤ e.timeLeft) ++ e :: l.dropWhile fun x => x.timeLeft ≤ e.timeLeft

/-- The shelve list without the entry of a point. -/
def State.withoutShelve (s : State) (p : PointId) : List ShelveEntry := s.shelves.filter fun e => e.point != p

/-- The time left a duration in minutes gives (R95). -/
def shelveTime (minutes : Half) : Nat := minutes.toNat * Config.shelveUnit

/-- Give a point's entry its place for a duration, replacing the one it has (R96, R97). -/
def State.putShelve (s : State) (p : PointId) (minutes : Half) : State :=
  { s with shelves := insertShelve ⟨p, shelveTime minutes⟩ (s.withoutShelve p) }

/-- The payload of an OK SHELVE: the state left, the stamp of the record retired, the entry's position and its time left
(R96, R97, R181). -/
def State.shelvePayload (s : State) (p : PointId) (left : AlarmState) (st : Stamp) (minutes : Half) : List Byte :=
  left.code :: stampBytes st ++ [byteOf (s.shelves.findIdx fun e => e.point == p)] ++
    halfOf (secondsLeft (shelveTime minutes))

/-- SHELVE, checks in the order of R96. -/
def ownShelve (point : Byte) (minutes : Half) (s : State) : Reply :=
  match pointOf point with
  | none => s.refuse .range
  | some p =>
    if ¬ (1 ≤ minutes.toNat ∧ minutes.toNat ≤ 480) then s.refuse .range
    else if isInternal p then s.refuse .state
    else if s.alarmOf p = .outOfService then s.refuse .state
    else if s.alarmOf p = .shelved then
      let t := s.putShelve p minutes
      t.replyOk (t.shelvePayload p .shelved 0 minutes)
    else if Config.shelvePlaces ≤ s.shelves.length then s.refuse .full
    else
      let t := s.putShelve p minutes
      (t.leavePicture p .shelved).replyOk (t.shelvePayload p (s.alarmOf p) (s.stampOf p) minutes)

/-- End a point's shelve: the entry goes and the sequence takes the end of the shelve (R98, R99). -/
def State.unshelvePoint (s : State) (p : PointId) : State :=
  ({ s with shelves := s.withoutShelve p } : State).endShelve p

/-- UNSHELVE (R98). -/
def ownUnshelve (point : Byte) (s : State) : Reply :=
  match pointOf point with
  | none => s.refuse .range
  | some p =>
    if s.alarmOf p = .shelved then
      let t := s.unshelvePoint p
      t.replyOk ((t.alarmOf p).code :: stampBytes (t.stampOf p))
    else s.refuse .state

/-- LIST SHELVED (R101). -/
def ownListShelved (s : State) : Reply :=
  s.replyOk (byteOf s.shelves.length ::
    s.shelves.flatMap fun e => byteOf e.point.val :: halfOf (secondsLeft e.timeLeft))

/-- The entry of a point expires (R99); a point without an entry has no expiry. -/
def State.expireShelve (s : State) (p : PointId) : State :=
  if s.shelves.any fun e => e.point == p then (s.unshelvePoint p).raise .shelveExpired else s

/-- SHELVE_EXPIRY (R99). -/
def execShelveExpiry (p : PointId) (s : State) : Host.Outcome State Fault Refusal := .next (s.expireShelve p)

/-- The reannunciation timer that SILENCE gives a record of a class: absent for an interval of 0 (R103). -/
def silenceTimer (interval : Byte) : Option Nat :=
  if interval = 0 then none else some (interval.toNat * Config.intervalUnit)

/-- The SILENCE action (R103), taken whole: every record in ALERT or RETURNED is written, and the channels then compare (R104).
DESIGN CHOICE (notes/assumptions/35.md): a channel that falls IDLE or starts cue 0 sets its flag by R163 or R153, though R103
says that SILENCE sets no other event flag. -/
def State.silenceAll (s : State) : State :=
  (s.setRoster (s.roster.map fun r =>
    if r.unacked then { r with silenced := true, reannounce := silenceTimer s.classInterval[s.classOf r] } else r)).compareSince s

/-- SILENCE from the host (R103): the count of records written. -/
def ownSilence (s : State) : Reply := s.silenceAll.replyOk [byteOf (s.countOf RosterRecord.unacked)]

/-- The writes of a reannunciation expiry (R107). -/
def RosterRecord.reannounced (r : RosterRecord) : RosterRecord :=
  { r with silenced := false, sounded := false, reannounce := none }

/-- The reannunciation timer of the record named by point and stamp expires (R107); it is discarded when that record no
longer stands or its timer no longer runs (R74, R104). DESIGN CHOICE (notes/assumptions/35.md): a pass of cue 0 that starts
then sets CUE_FALLBACK by R153, though R107 says that the expiry sets no event flag. -/
def State.expireReannounce (s : State) (p : PointId) (st : Stamp) : State :=
  match s.recordOf p with
  | some r =>
    if r.stamp = st ∧ r.reannounce.isSome then
      ((s.modifyStamped p st RosterRecord.reannounced).renewRecord p).compareSince s
    else s
  | none => s

/-- REANNOUNCE_EXPIRY (R107). -/
def execReannounceExpiry (p : PointId) (st : Stamp) (s : State) : Host.Outcome State Fault Refusal :=
  .next (s.expireReannounce p st)

/-- SHELVE (R96). -/
def execShelve (point : Byte) (minutes : Half) (s : State) : Host.Outcome State Fault Refusal :=
  (ownShelve point minutes s).outcome (.shelve point minutes)

/-- UNSHELVE (R98). -/
def execUnshelve (point : Byte) (s : State) : Host.Outcome State Fault Refusal :=
  (ownUnshelve point s).outcome (.unshelve point)

/-- LIST_SHELVED (R101). -/
def execListShelved (s : State) : Host.Outcome State Fault Refusal := (ownListShelved s).outcome .listShelved

/-- SILENCE (R103). -/
def execSilence (s : State) : Host.Outcome State Fault Refusal := (ownSilence s).outcome .silence

end Sys2Proof.Machine
end

