-- ==== Sys2Proof/Machine/Panel.lean ====
section
/-!
DEFINITION. The Panel Interface (chapter 7): keys and their debounce, key actions, the lamp test, WRITE PANEL, LAMP TEST
and READ LAMPS.
-/

namespace Sys2Proof.Machine

/-! ## The lamp test (R115 to R118) -/

/-- The lamp test that was not active at `before` has started: the channels are told (R118), and one that is still in a pass
of cue 7 for TEST takes `renewed` (R157). -/
def State.testStarted (s before : State) : State := ((s.renewTestOn .a).renewTestOn .b).compareSince before

/-- The lamp test has ended: both test demands are withdrawn and unsounded, and the channels are told (R118). DESIGN CHOICE
(notes/assumptions/35.md): a channel that falls IDLE at once sets its idle flag by R163, though R116 has LAMP TEST and the
expiry of the host timer set no event flag, and R113 a release of KTST. The end of the test is itself an occasion of the
comparison (R152), for a channel that finishes a step too (DEDUCED, notes/assumptions/36.md). -/
def State.testEnded (s : State) : State := ({ s with testSounded := ⟨false, false⟩ } : State).compareChannels

/-- Write both sources of the lamp test; the test starts or ends when it goes from inactive to active or back (R117). -/
def State.setTests (s : State) (panel host : Option Nat) : State :=
  let t := { s with panelTest := panel, hostTest := host }
  if s.testActive = t.testActive then t
  else if t.testActive then t.testStarted s
  else t.testEnded

/-- Start the panel test at 15 s (R115). -/
def State.startPanelTest (s : State) : State := s.setTests (some Config.panelTestTime) s.hostTest

/-- End the panel test; an idle one stays idle (R115, R120). -/
def State.endPanelTest (s : State) : State := s.setTests none s.hostTest

/-- End the host test; an idle one stays idle (R116). -/
def State.endHostTest (s : State) : State := s.setTests s.panelTest none

/-- PANEL_TEST_EXPIRY (R115); an idle test has no expiry. -/
def execPanelTestExpiry (s : State) : Host.Outcome State Fault Refusal := .next s.endPanelTest

/-- HOST_TEST_EXPIRY (R116); an idle test has no expiry. -/
def execHostTestExpiry (s : State) : Host.Outcome State Fault Refusal := .next s.endHostTest

/-! ## Keys (R110 to R113) -/

/-- Whether a line level matches a debounced state: low with PRESSED, high with RELEASED (R110). -/
def levelMatches (level : LineLevel) (pressed : Bool) : Bool :=
  match level with
  | .low => pressed
  | .high => !pressed

/-- A key after its line goes to a level (R110): a change that does not match the debounced state starts the timer afresh
at 40 ms, one that does cancels it. -/
def KeyState.lineTo (k : KeyState) (level : LineLevel) : KeyState :=
  if k.line = level then k
  else { k with line := level, timer := if levelMatches level k.pressed then none else some Config.debounceTime }

/-- KEY_LINE_CHANGE (R110); a level the line already has is no change. -/
def execKeyLineChange (k : Key) (level : LineLevel) (s : State) : Host.Outcome State Fault Refusal :=
  .next { s with keys := s.keys.put k ((s.keys.get k).lineTo level) }

/-- The action of a key, with PANEL as its source (R113). -/
def State.keyAction (s : State) : Key → State
  | .kack => s.acknowledgeAll .panel fun _ => true
  | .ksil => s.silenceAll
  | .krst => s.resetEvery
  | .ktst => s.startPanelTest

/-- A debounced press (R112, R113): an enabled key takes its action and sets PANEL_ACTION; a disabled one is ignored. -/
def State.press (s : State) (k : Key) : State :=
  if s.keyEnables.get k then (s.keyAction k).raise .panelAction else s

/-- A debounced release (R110): that of KTST ends the panel test (R115). -/
def State.release (s : State) (k : Key) : State := if k = .ktst then s.endPanelTest else s

/-- The debounce timer of a key expires (R110): its debounced state follows the line. -/
def State.expireDebounce (s : State) (k : Key) : State :=
  let ks := s.keys.get k
  match ks.timer with
  | none => s
  | some _ =>
    let t := { s with keys := s.keys.put k { ks with pressed := !ks.pressed, timer := none } }
    if ks.pressed then t.release k else t.press k

/-- DEBOUNCE_EXPIRY (R110); an idle timer has no expiry. -/
def execDebounceExpiry (k : Key) (s : State) : Host.Outcome State Fault Refusal := .next (s.expireDebounce k)

/-! ## Commands -/

/-- Write the four key enables; one that disables KTST ends a running panel test at once (R112, R115). -/
def State.writeEnables (s : State) (e : PerKey Bool) : State :=
  let t := { s with keyEnables := e }
  if e.ktst then t else t.endPanelTest

/-- WRITE PANEL (R112). -/
def ownWritePanel (kack ksil krst ktst : Byte) (s : State) : Reply :=
  match yesNoOf kack, yesNoOf ksil, yesNoOf krst, yesNoOf ktst with
  | some a, some b, some c, some d => (s.writeEnables ⟨a, b, c, d⟩).replyOk []
  | _, _, _, _ => s.refuse .range

/-- LAMP TEST's effect (R116): 0 ends the host test, 1 to 15 set its timer afresh. -/
def State.setHostTest (s : State) (seconds : Nat) : State :=
  s.setTests s.panelTest (if seconds = 0 then none else some (seconds * Config.refclkPerSecond))

/-- LAMP TEST (R116): whether the test as a whole is active once the command has been carried out. -/
def ownLampTest (seconds : Byte) (s : State) : Reply :=
  if 15 < seconds.toNat then s.refuse .range
  else
    let t := s.setHostTest seconds.toNat
    t.replyOk [yesNo t.testActive]

/-- READ LAMPS (R125): the derived patterns, the test state, the keys and CALM. DESIGN CHOICE (notes/assumptions/30.md): R182
and R184 give no code for asserted and not asserted, nor say which value of a key state's bit is PRESSED; the model sends CALM
as a yes/no field, asserted being yes, and a PRESSED key as a bit of 1. -/
def ownReadLamps (s : State) : Reply :=
  s.replyOk
    (allLines.map (fun n => byteOf (s.lampPattern n).rank) ++
      [yesNo s.testActive, yesNo s.panelTest.isSome, byteOf (secondsLeft (s.hostTest.getD 0)), keySet s.keyEnables,
       keySet (s.keys.map KeyState.pressed), yesNo s.calm])

/-- WRITE_PANEL (R112). -/
def execWritePanel (kack ksil krst ktst : Byte) (s : State) : Host.Outcome State Fault Refusal :=
  (ownWritePanel kack ksil krst ktst s).outcome (.writePanel kack ksil krst ktst)

/-- LAMP_TEST (R116). -/
def execLampTest (seconds : Byte) (s : State) : Host.Outcome State Fault Refusal :=
  (ownLampTest seconds s).outcome (.lampTest seconds)

/-- READ_LAMPS (R125). -/
def execReadLamps (s : State) : Host.Outcome State Fault Refusal := (ownReadLamps s).outcome .readLamps

end Sys2Proof.Machine
end

