-- ==== Sys2Proof/Machine/Points.lean ====
section
/-!
DEFINITION. The commands of the Point Table (chapter 1): WRITE POINT, READ POINT, SET SERVICE, WRITE CLASS, READ CLASS.
-/

namespace Sys2Proof.Machine

/-- Checks 3 and 4 of R6: an internal point keeps kind AUTO and source INTERNAL, a general point never has source
INTERNAL. -/
def PointConfig.fits (c : PointConfig) (p : PointId) : Bool :=
  if isInternal p then c.kind == .auto && c.source == .internal else c.source != .internal

/-- WRITE POINT's effect when every check passes (R6): the record is replaced whole, and a source other than HOST sets the
host raw condition absent (R30). -/
def State.writeConfig (s : State) (p : PointId) (c : PointConfig) : State :=
  { s with
    config := s.config.put p c
    filter := s.filter.put p { s.filterOf p with hostRaw := c.source == .host && (s.filterOf p).hostRaw } }

/-- WRITE POINT, checks in the order of R6. -/
def ownWritePoint (point : Byte) (record : PointBytes) (s : State) : Reply :=
  match pointOf point with
  | none => s.refuse .range
  | some p =>
    if s.alarmOf p ≠ .outOfService then s.refuse .state
    else
      match decodePoint record with
      | none => s.refuse .range
      | some c => if c.fits p then (s.writeConfig p c).replyOk [] else s.refuse .range

/-- READ POINT (R7): the configuration record, the service state and the alarm state. -/
def ownReadPoint (point : Byte) (s : State) : Reply :=
  match pointOf point with
  | none => s.refuse .range
  | some p => s.replyOk ((s.cfg p).encode ++ [(s.service[p]).code, (s.alarmOf p).code])

/-- The faulted-line set is derived again when a LINE-sourced point enters or leaves service, and point 62 takes its raw
condition from it (R9, R10, R29). -/
def State.serviceChanged (s : State) (p : PointId) : State :=
  match (s.cfg p).source with
  | .line _ => s.rederiveFaulted.handLineFault
  | .host | .internal => s

/-- Bring a point into service (R9): NORMAL, with its qualification started afresh. -/
def State.bringIn (s : State) (p : PointId) : State :=
  ((((s.setService p .inService).setAlarm p .normal).startQualification p)).serviceChanged p

/-- SET SERVICE with the service state IN (R8, R9). -/
def ownSetServiceIn (point : Byte) (s : State) : Reply :=
  match pointOf point with
  | none => s.refuse .range
  | some p => if s.inService p then s.replyOk [] else (s.bringIn p).replyOk []

/-- Put a point out of service (R10, R11): it leaves the alarm picture with every consequence of its removal, its shelve
entry goes without an expiry, and its qualification stops. -/
def State.takeOut (s : State) (p : PointId) : State :=
  let t := ({ s with shelves := s.shelves.filter fun e => e.point != p }).setService p .outService
  ((t.stopQualification p).leavePicture p .outOfService).serviceChanged p

/-- SET SERVICE with the service state OUT (R8, R10). -/
def ownSetServiceOut (point : Byte) (s : State) : Reply :=
  match pointOf point with
  | none => s.refuse .range
  | some p => if s.inService p then (s.takeOut p).replyOk [] else s.replyOk []

/-- WRITE CLASS (R15). -/
def ownWriteClass (cls interval : Byte) (s : State) : Reply :=
  match classNumberOf cls with
  | none => s.refuse .range
  | some c =>
    if 240 < interval.toNat then s.refuse .range
    else ({ s with classInterval := s.classInterval.put c interval } : State).replyOk []

/-- READ CLASS (R16). -/
def ownReadClass (cls : Byte) (s : State) : Reply :=
  match classNumberOf cls with
  | none => s.refuse .range
  | some c => s.replyOk [s.classInterval[c]]

/-- WRITE_POINT (R6). -/
def execWritePoint (point : Byte) (record : PointBytes) (s : State) : Host.Outcome State Fault Refusal :=
  (ownWritePoint point record s).outcome (.writePoint point record)

/-- READ_POINT (R7). -/
def execReadPoint (point : Byte) (s : State) : Host.Outcome State Fault Refusal :=
  (ownReadPoint point s).outcome (.readPoint point)

/-- SET_SERVICE_IN (R9). -/
def execSetServiceIn (point : Byte) (s : State) : Host.Outcome State Fault Refusal :=
  (ownSetServiceIn point s).outcome (.setServiceIn point)

/-- SET_SERVICE_OUT (R10). -/
def execSetServiceOut (point : Byte) (s : State) : Host.Outcome State Fault Refusal :=
  (ownSetServiceOut point s).outcome (.setServiceOut point)

/-- WRITE_CLASS (R15). -/
def execWriteClass (cls interval : Byte) (s : State) : Host.Outcome State Fault Refusal :=
  (ownWriteClass cls interval s).outcome (.writeClass cls interval)

/-- READ_CLASS (R16). -/
def execReadClass (cls : Byte) (s : State) : Host.Outcome State Fault Refusal :=
  (ownReadClass cls s).outcome (.readClass cls)

end Sys2Proof.Machine
end

