-- ==== Sys2Proof/Machine/Request.lean ====
section
/-!
DEFINITION. The command catalogue (R181): a command code and a payload give the command that is handed to its owner, and a
host command gives the code, the payload and the frame that a host writes for it.
-/

namespace Sys2Proof.Machine

/-- What the catalogue makes of a command code and a payload (R171 checks 3 to 5). -/
inductive Request where
  /-- A command for its owning block. -/
  | command (c : Instr)
  /-- The code is not in the catalogue. -/
  | unknown
  /-- The payload length is not accepted for the command. -/
  | badLength
  /-- SET SERVICE with a service state that is neither IN nor OUT, which its owner refuses with RANGE whatever the point
  (R8). -/
  | badService
  deriving DecidableEq, Repr

/-- The steps of a WRITE STEPS payload, two bytes each; `none` for an odd number of bytes. -/
def stepsOf : List Byte → Option (List StepBytes)
  | [] => some []
  | [_] => none
  | t :: l :: rest => (stepsOf rest).map fun r => ⟨t, l⟩ :: r

/-- The frequencies of a WRITE TONES payload, two bytes each; `none` for an odd number of bytes. -/
def frequenciesOf : List Byte → Option (List Half)
  | [] => some []
  | [_] => none
  | h :: l :: rest => (frequenciesOf rest).map fun r => halfFrom h l :: r

/-- SET SERVICE, by its service state byte. -/
def serviceRequest (point state : Byte) : Request :=
  if state = 1 then .command (.setServiceIn point)
  else if state = 0 then .command (.setServiceOut point)
  else .badService

/-- WRITE STEPS: an offset and 0 to 19 steps (R181). -/
def stepsRequest (offset : Byte) (rest : List Byte) : Request :=
  match stepsOf rest with
  | some steps => if steps.length ≤ 19 then .command (.writeSteps offset steps) else .badLength
  | none => .badLength

/-- WRITE TONES: a first tone and 1 to 16 frequencies (R181). -/
def tonesRequest (first : Byte) (rest : List Byte) : Request :=
  match frequenciesOf rest with
  | some fs => if 1 ≤ fs.length ∧ fs.length ≤ 16 then .command (.writeTones first fs) else .badLength
  | none => .badLength

/-- A command without payload. -/
def plain (c : Instr) : List Byte → Request
  | [] => .command c
  | _ => .badLength

/-- A command of one byte. -/
def one (c : Byte → Instr) : List Byte → Request
  | [x] => .command (c x)
  | _ => .badLength

/-- A command of two bytes. -/
def two (c : Byte → Byte → Request) : List Byte → Request
  | [x, y] => c x y
  | _ => .badLength

/-- A command of four bytes. -/
def four (c : Byte → Byte → Byte → Byte → Instr) : List Byte → Request
  | [w, x, y, z] => .command (c w x y z)
  | _ => .badLength

/-- WRITE POINT: a point and the 11 bytes of its record. -/
def pointRequest : List Byte → Request
  | [p, b0, b1, b2, b3, b4, b5, b6, b7, b8, b9, b10] =>
    .command (.writePoint p ⟨b0, b1, b2, b3, b4, b5, b6, b7, b8, b9, b10⟩)
  | _ => .badLength

/-- ACK: a point, an expected state and a stamp of four bytes. -/
def ackRequest : List Byte → Request
  | [p, e, b3, b2, b1, b0] => .command (.ack p e (stampFrom b3 b2 b1 b0))
  | _ => .badLength

/-- SHELVE: a point and two bytes of minutes. -/
def shelveRequest : List Byte → Request
  | [p, h, l] => .command (.shelve p (halfFrom h l))
  | _ => .badLength

/-- WRITE CUE HEADER: eleven bytes. -/
def headerRequest : List Byte → Request
  | [p, t, a, u, n, f0, l0, c0, f1, l1, c1] => .command (.writeCueHeader ⟨p, t, a, u, n, ⟨f0, l0, c0⟩, ⟨f1, l1, c1⟩⟩)
  | _ => .badLength

/-- WRITE CHANNEL: three bytes. -/
def channelRequest : List Byte → Request
  | [c, e, p] => .command (.writeChannel c e p)
  | _ => .badLength

/-- A command that carries something after its first byte. -/
def withFirst (c : Byte → List Byte → Request) : List Byte → Request
  | x :: rest => c x rest
  | [] => .badLength

/-- The command catalogue (R181). -/
def requestOf (code : Byte) (payload : List Byte) : Request :=
  match code.toNat with
  | 0x11 => pointRequest payload
  | 0x12 => one .readPoint payload
  | 0x13 => two serviceRequest payload
  | 0x14 => two (fun x y => .command (.writeClass x y)) payload
  | 0x15 => one .readClass payload
  | 0x21 => four .writeLine payload
  | 0x22 => one .readLine payload
  | 0x23 => four .writeThresholds payload
  | 0x24 => one .readThresholds payload
  | 0x25 => one .assertPoint payload
  | 0x26 => one .releasePoint payload
  | 0x31 => ackRequest payload
  | 0x32 => one .ackGroup payload
  | 0x33 => plain .ackAll payload
  | 0x34 => one .reset payload
  | 0x35 => plain .resetAll payload
  | 0x41 => one .readRecord payload
  | 0x42 => one .listRoster payload
  | 0x43 => plain .firstUnacked payload
  | 0x44 => plain .readSummary payload
  | 0x45 => plain .readDeferred payload
  | 0x51 => two (fun x y => .command (.writeGroup x y)) payload
  | 0x52 => one .readGroup payload
  | 0x53 => one .clearFirstOut payload
  | 0x61 => shelveRequest payload
  | 0x62 => one .unshelve payload
  | 0x63 => plain .listShelved payload
  | 0x64 => plain .silence payload
  | 0x71 => four .writePanel payload
  | 0x72 => one .lampTest payload
  | 0x73 => plain .readLamps payload
  | 0x81 => one .beginEdit payload
  | 0x82 => headerRequest payload
  | 0x83 => withFirst stepsRequest payload
  | 0x84 => plain .commit payload
  | 0x85 => plain .abortEdit payload
  | 0x86 => one .readCue payload
  | 0x87 => one .eraseCue payload
  | 0x88 => withFirst tonesRequest payload
  | 0x89 => plain .readTones payload
  | 0x91 => channelRequest payload
  | 0x92 => one .readChannel payload
  | 0xA5 => plain .restart payload
  | 0xB1 => plain .readEvents payload
  | 0xB2 => two (fun x y => .command (.clearEvents (halfFrom x y))) payload
  | 0xB3 => two (fun x y => .command (.writeEventMask (halfFrom x y))) payload
  | _ => .unknown

end Sys2Proof.Machine

namespace Sys2Proof

open Sys2Proof.Machine

/-! ## The request side of the catalogue: what a host writes for a command (R181 to R185, R187) -/

/-- The 11 bytes of a point configuration record (R185). -/
def PointBytes.bytes (r : PointBytes) : List Byte :=
  [r.kind, r.priority, r.source, r.onDelay, r.offDelay, r.faultResponse, r.group, r.lamp, r.alertCue, r.ringbackCue,
   r.channel]

/-- The three bytes of a loop entry (section 10.8). -/
def LoopBytes.bytes (l : LoopBytes) : List Byte := [l.first, l.last, l.count]

/-- The 11 bytes of a cue header (R181). -/
def HeaderBytes.bytes (h : HeaderBytes) : List Byte :=
  [h.policy, h.tempo, h.altFrom, h.altTempo, h.loopCount] ++ h.loop0.bytes ++ h.loop1.bytes

/-- The command code and the payload of a host command (R181): none for an event of the field, the panel, a timer or the
port. -/
def Instr.request : Instr → Option (Byte × List Byte)
  | .writePoint p r => some (0x11, p :: r.bytes)
  | .readPoint p => some (0x12, [p])
  | .setServiceIn p => some (0x13, [p, 1])
  | .setServiceOut p => some (0x13, [p, 0])
  | .writeClass n i => some (0x14, [n, i])
  | .readClass n => some (0x15, [n])
  | .writeLine n m q k => some (0x21, [n, m, q, k])
  | .readLine n => some (0x22, [n])
  | .writeThresholds k x a o => some (0x23, [k, x, a, o])
  | .readThresholds k => some (0x24, [k])
  | .assertPoint p => some (0x25, [p])
  | .releasePoint p => some (0x26, [p])
  | .ack p e st => some (0x31, p :: e :: stampBytes st)
  | .ackGroup g => some (0x32, [g])
  | .ackAll => some (0x33, [])
  | .reset p => some (0x34, [p])
  | .resetAll => some (0x35, [])
  | .readRecord p => some (0x41, [p])
  | .listRoster n => some (0x42, [n])
  | .firstUnacked => some (0x43, [])
  | .readSummary => some (0x44, [])
  | .readDeferred => some (0x45, [])
  | .writeGroup g v => some (0x51, [g, v])
  | .readGroup g => some (0x52, [g])
  | .clearFirstOut g => some (0x53, [g])
  | .shelve p m => some (0x61, p :: halfBytes m)
  | .unshelve p => some (0x62, [p])
  | .listShelved => some (0x63, [])
  | .silence => some (0x64, [])
  | .writePanel a b c d => some (0x71, [a, b, c, d])
  | .lampTest n => some (0x72, [n])
  | .readLamps => some (0x73, [])
  | .beginEdit q => some (0x81, [q])
  | .writeCueHeader h => some (0x82, h.bytes)
  | .writeSteps o l => some (0x83, o :: l.flatMap fun st => [st.tone, st.length])
  | .commit => some (0x84, [])
  | .abortEdit => some (0x85, [])
  | .readCue q => some (0x86, [q])
  | .eraseCue q => some (0x87, [q])
  | .writeTones n l => some (0x88, n :: l.flatMap halfBytes)
  | .readTones => some (0x89, [])
  | .writeChannel c e w => some (0x91, [c, e, w])
  | .readChannel c => some (0x92, [c])
  | .restart => some (0xA5, [])
  | .readEvents => some (0xB1, [])
  | .clearEvents f => some (0xB2, halfBytes f)
  | .writeEventMask m => some (0xB3, halfBytes m)
  | .powerOnReset | .lineSample _ _ | .onDelayExpiry _ | .offDelayExpiry _ | .shelveExpiry _ | .reannounceExpiry _ _
  | .keyLineChange _ _ | .debounceExpiry _ | .panelTestExpiry | .hostTestExpiry | .stepEnd _ | .editIdleTimeout
  | .commitCheckEnd | .selnFall | .requestFrameEnd | .commandCompletion _ | .collect | .selnRise | .linkReset
  | .byteCompletion _ | .ageIncrement _ => none

end Sys2Proof

namespace Sys2Proof.Machine

/-- A request frame (R168, R183): code, tag, length, payload and check byte. -/
def requestFrame (code tag : Byte) (payload : List Byte) : List Byte :=
  let body := code :: tag :: byteOf payload.length :: payload
  body ++ [crc8 body]

end Sys2Proof.Machine
end

