-- ==== Sys2Proof/Machine/Resets.lean ====
section
/-!
DEFINITION. Power-on reset (R4, R111, R121, R167, R192 and the reset rules of every chapter) and RESTART (R57, R180, R193).
-/

namespace Sys2Proof.Machine

/-- A key after power-on reset (R111): its debounced state is taken from its line, and its timer is idle. -/
def KeyState.powerOn (k : KeyState) : KeyState := { k with pressed := k.line == .low, timer := none }

/-- The transaction after power-on reset (R167): one in progress when RSTN is released is ignored until SELN rises. -/
def Transaction.powerOn : Transaction → Transaction
  | .idle => .idle
  | .opened | .request | .afterFrame | .collect _ | .ignored | .missed => .missed

/-- Power-on reset: every block takes its power-on values. The pin inputs are not the part's own and stay as they are: the
key lines and SELN; so do the commands that wait outside. -/
def State.powerOn (s : State) : State :=
  { State.reset with
    keys := s.keys.map KeyState.powerOn
    link := { Link.atReset with trans := s.link.trans.powerOn }
    freeCount := s.freeCount
    pending := s.pending }

/-- POWER_ON_RESET (R4). -/
def execPowerOnReset (s : State) : Host.Outcome State Fault Refusal := .next s.powerOn

/-- Everything that RESTART sets back, before any qualification starts: each block reaches the RESTART values of its
chapter, the configuration is kept, and the Host Link Controller is left as it stands (R180). The flags are cleared and
RESTARTED set (R193); the removals retire nothing and set no flag (R57, R65). -/
def State.restartBlocks (s : State) : State :=
  { s.clearToRestarted with
    alarm := s.service.map fun v => match v with
      | .inService => .normal
      | .outService => .outOfService
    filter := Vector.replicate 64 .start
    roster := []
    generalCount := 0
    deferred := []
    shelves := []
    groups := s.groups.map fun g => { g with slot := none, armed := true }
    panelTest := none
    hostTest := none
    testSounded := ⟨false, false⟩
    edit := none
    channels := ⟨{ s.channels.a with player := none }, { s.channels.b with player := none }⟩ }

/-- The in-service points. -/
def State.pointsInService (s : State) : List PointId := allPoints.filter s.inService

/-- RESTART (R180): the blocks are set back, and every in-service point's qualification starts from its source as it
stands (R33). The manual gives no order among the points whose condition rises at once. -/
def State.restartAll (s : State) : State :=
  let t := s.restartBlocks
  t.takeAll t.pointsInService fun p u => u.takeSource p

/-- RESTART (R180). -/
def ownRestart (s : State) : Reply := s.restartAll.replyOk []

/-- RESTART (R180). -/
def execRestart (s : State) : Host.Outcome State Fault Refusal := (ownRestart s).outcome .restart

end Sys2Proof.Machine
end

