-- ==== Sys2Proof/Machine/RosterReads.lean ====
section
/-!
DEFINITION. Looking up the roster (chapter 4.7): READ RECORD, LIST ROSTER, FIRST UNACKED, READ SUMMARY, READ DEFERRED; and
the age of a record (R64).
-/

namespace Sys2Proof.Machine

/-- READ RECORD (R76): the record's position and its ten fields. -/
def ownReadRecord (point : Byte) (s : State) : Reply :=
  match pointOf point with
  | none => s.refuse .range
  | some p =>
    match s.recordOf p with
    | none => s.refuse .state
    | some r => s.replyOk (byteOf (s.positionOf p) :: r.encode)

/-- LIST ROSTER (R77): the count, and the records at the start position and the three after it that exist. DESIGN CHOICE
(notes/assumptions/29.md): R77 says that a start position three below the count gives four records, where only three
positions are left; the model returns the records that exist, so three there. -/
def ownListRoster (start : Byte) (s : State) : Reply :=
  s.replyOk (byteOf s.roster.length :: ((s.roster.drop start.toNat).take 4).flatMap RosterRecord.encode)

/-- FIRST UNACKED (R78). -/
def ownFirstUnacked (s : State) : Reply :=
  match s.roster.find? RosterRecord.unacked with
  | none => s.replyOk [0]
  | some r => s.replyOk (1 :: byteOf (s.positionOf r.point) :: r.encode)

/-- How many points stand in an alarm state (R79). -/
def State.countIn (s : State) (a : AlarmState) : Nat := allPoints.countP fun p => s.alarmOf p == a

/-- How many records belong to points of a class (R79). -/
def State.countClass (s : State) (c : PriorityClass) : Nat := s.roster.countP fun r => s.classOf r == c

/-- The eight alarm states in code order (R184). -/
def alarmStates : List AlarmState :=
  [.outOfService, .normal, .deferred, .alert, .acked, .returned, .awaitReset, .shelved]

/-- READ SUMMARY (R79). -/
def ownReadSummary (s : State) : Reply :=
  s.replyOk
    (alarmStates.map (fun a => byteOf (s.countIn a)) ++ (List.finRange 4).map (fun c => byteOf (s.countClass c)) ++
      [byteOf s.deferred.length, byteOf s.shelves.length, byteOf (Config.generalPlaces - s.generalCount)])

/-- READ DEFERRED (R80). -/
def ownReadDeferred (s : State) : Reply :=
  s.replyOk (byteOf s.deferred.length :: s.deferred.map fun p => byteOf p.val)

/-- A whole second since a record's admission passes: its age goes up by one, and stops at 65535 (R64). -/
def RosterRecord.older (r : RosterRecord) : RosterRecord :=
  { r with age := min (r.age + 1) 65535, ageClock := Config.refclkPerSecond }

/-- AGE_INCREMENT (R64); a point without a record has no age. -/
def execAgeIncrement (p : PointId) (s : State) : Host.Outcome State Fault Refusal :=
  .next (s.modifyRecord p RosterRecord.older)

/-- READ_RECORD (R76). -/
def execReadRecord (point : Byte) (s : State) : Host.Outcome State Fault Refusal :=
  (ownReadRecord point s).outcome (.readRecord point)

/-- LIST_ROSTER (R77). -/
def execListRoster (start : Byte) (s : State) : Host.Outcome State Fault Refusal :=
  (ownListRoster start s).outcome (.listRoster start)

/-- FIRST_UNACKED (R78). -/
def execFirstUnacked (s : State) : Host.Outcome State Fault Refusal := (ownFirstUnacked s).outcome .firstUnacked

/-- READ_SUMMARY (R79). -/
def execReadSummary (s : State) : Host.Outcome State Fault Refusal := (ownReadSummary s).outcome .readSummary

/-- READ_DEFERRED (R80). -/
def execReadDeferred (s : State) : Host.Outcome State Fault Refusal := (ownReadDeferred s).outcome .readDeferred

end Sys2Proof.Machine
end

