-- ==== Sys2Proof/Machine/Link.lean ====
section
/-!
DEFINITION. The Host Link Controller (chapter 10): transactions, request frames, the busy state and dispatch, the response
buffer, collects and the link reset.
-/

namespace Sys2Proof.Machine

/-- The owning block takes a host command (R171 step 5). An event of the field, the panel, a timer or the port is no host
command and has no owner to answer it. -/
def ownerTakes (c : Instr) (s : State) : Reply :=
  match c with
  | .writePoint p r => ownWritePoint p r s
  | .readPoint p => ownReadPoint p s
  | .setServiceIn p => ownSetServiceIn p s
  | .setServiceOut p => ownSetServiceOut p s
  | .writeClass n i => ownWriteClass n i s
  | .readClass n => ownReadClass n s
  | .writeLine n m q t => ownWriteLine n m q t s
  | .readLine n => ownReadLine n s
  | .writeThresholds k x a o => ownWriteThresholds k x a o s
  | .readThresholds k => ownReadThresholds k s
  | .assertPoint p => ownAssert p s
  | .releasePoint p => ownRelease p s
  | .ack p e st => ownAck p e st s
  | .ackGroup g => ownAckGroup g s
  | .ackAll => ownAckAll s
  | .reset p => ownReset p s
  | .resetAll => ownResetAll s
  | .readRecord p => ownReadRecord p s
  | .listRoster n => ownListRoster n s
  | .firstUnacked => ownFirstUnacked s
  | .readSummary => ownReadSummary s
  | .readDeferred => ownReadDeferred s
  | .writeGroup g v => ownWriteGroup g v s
  | .readGroup g => ownReadGroup g s
  | .clearFirstOut g => ownClearFirstOut g s
  | .shelve p m => ownShelve p m s
  | .unshelve p => ownUnshelve p s
  | .listShelved => ownListShelved s
  | .silence => ownSilence s
  | .writePanel a b c d => ownWritePanel a b c d s
  | .lampTest n => ownLampTest n s
  | .readLamps => ownReadLamps s
  | .beginEdit q => ownBeginEdit q s
  | .writeCueHeader h => ownWriteCueHeader h s
  | .writeSteps o l => ownWriteSteps o l s
  | .commit => ownCommit s
  | .abortEdit => ownAbortEdit s
  | .readCue q => ownReadCue q s
  | .eraseCue q => ownEraseCue q s
  | .writeTones n l => ownWriteTones n l s
  | .readTones => ownReadTones s
  | .writeChannel c e p => ownWriteChannel c e p s
  | .readChannel c => ownReadChannel c s
  | .restart => ownRestart s
  | .readEvents => ownReadEvents s
  | .clearEvents f => ownClearEvents f s
  | .writeEventMask m => ownWriteEventMask m s
  | .powerOnReset | .lineSample _ _ | .onDelayExpiry _ | .offDelayExpiry _ | .shelveExpiry _ | .reannounceExpiry _ _
  | .keyLineChange _ _ | .debounceExpiry _ | .panelTestExpiry | .hostTestExpiry | .stepEnd _ | .editIdleTimeout
  | .commitCheckEnd | .selnFall | .requestFrameEnd | .commandCompletion _ | .collect | .selnRise | .linkReset
  | .byteCompletion _ | .ageIncrement _ => (s, none)

/-- Write the state of the Host Link Controller. -/
def State.setLink (s : State) (l : Link) : State := { s with link := l }

/-! ## Transactions (R167, R178) -/

/-- SELN_FALL (R167, R178): a transaction begins and the link reset timer starts at 25 ms. SELN already low has no
fall. -/
def execSelnFall (s : State) : Host.Outcome State Fault Refusal :=
  .next (if s.link.trans = .idle then
      s.setLink { s.link with trans := .opened, timer := some Config.linkResetTime }
    else s)

/-- Whether the bytes received make a whole frame (R168): the check byte is complete, or the length byte is above 40. -/
def frameWhole (rx : List Byte) : Bool :=
  match rx[2]? with
  | none => false
  | some n => 40 < n.toNat || rx.length == n.toNat + 4

/-- A byte of the transaction completes (R167, R168, R175): what it does to the receive frame and to the frame being
shifted out. -/
def Link.receive (l : Link) (b : Byte) : Link :=
  match l.trans with
  | .opened => if b = 0x00 then { l with trans := .collect none } else { l with trans := .request, rx := [b] }
  | .request => if frameWhole l.rx then l else { l with rx := l.rx ++ [b] }
  | .collect (some f) => { l with trans := .collect (some { f with shifted := f.shifted + 1 }) }
  | .collect none | .afterFrame | .ignored | .missed | .idle => l

/-- BYTE_COMPLETION (R178): while SELN is low the byte is taken and a running link reset timer starts again at 25 ms; while
SELN is high SCK is ignored (R167). -/
def execByteCompletion (b : Byte) (s : State) : Host.Outcome State Fault Refusal :=
  .next (if s.link.trans = .idle then s
    else s.setLink ((({ s.link with timer := s.link.timer.map fun _ => Config.linkResetTime } : Link)).receive b))

/-- The byte on SDO during the next byte of the transaction while RSTN is high (R167, R168, R175, R178): `none` is high
impedance. DESIGN CHOICE (notes/assumptions/32.md): in a transaction that the release of RSTN found in progress it is a free
value, since R167 does not give it. -/
def Link.sdo (l : Link) : Option Byte :=
  match l.trans with
  | .idle => none
  | .collect (some f) => some ((f.bytes[f.shifted]?).getD 0x00)
  | .collect none | .opened | .request | .afterFrame | .ignored => some 0x00
  | .missed => Config.ignoredSdo

/-- SDO at a level of RSTN: high impedance while RSTN is low (R167). -/
def State.sdoPin (s : State) (rstn : LineLevel) : Option Byte := underReset rstn none s.link.sdo

/-! ## The frame end and dispatch (R171, R172) -/

/-- How the link judges a whole frame, in the order of R171: the work it makes, and whether LINK_FAULT is set. -/
def judgeFrame (rx : List Byte) : Work × Bool :=
  let code := rx.getD 0 0
  let n := (rx.getD 2 0).toNat
  if 40 < n then (.done ⟨.badLength, []⟩, true)
  else if crc8 (rx.take (n + 3)) ≠ rx.getD (n + 3) 0 then (.done ⟨.badCheck, []⟩, true)
  else
    match requestOf code ((rx.drop 3).take n) with
    | .unknown => (.done ⟨.unknown, []⟩, false)
    | .badLength => (.done ⟨.badLength, []⟩, false)
    | .badService => (.done ⟨.range, []⟩, false)
    | .command c => (.awaiting c, false)

/-- The transaction after its frame end: later bytes of it are ignored (R168). -/
def Transaction.afterEnd : Transaction → Transaction
  | .request => .afterFrame
  | t => t

/-- Set LINK_FAULT when a fault was found. -/
def State.noteLinkFault (s : State) (fault : Bool) : State := if fault then s.raise .linkFault else s

/-- A frame end that finds the link IDLE (R171): a held response is discarded as DROPPED, the link goes BUSY and the frame
is judged. -/
def State.takeFrame (s : State) : State :=
  let w := judgeFrame s.link.rx
  (s.setLink
    { s.link with
      trans := s.link.trans.afterEnd
      rx := []
      response := none
      inFlight := some { tag := s.link.rx.getD 1 0, dropped := s.link.response.isSome, overrun := false, work := w.1 } }).noteLinkFault
    w.2

/-- A frame end that finds the link BUSY (R172): the frame is discarded whole and the in-flight record takes OVERRUN. -/
def State.discardFrame (s : State) (f : InFlight) : State :=
  (s.setLink
    { s.link with trans := s.link.trans.afterEnd, rx := [], inFlight := some { f with overrun := true } }).raise .linkFault

/-- REQUEST_FRAME_END (R171, R172); a receive frame that is not whole has no frame end. -/
def execRequestFrameEnd (s : State) : Host.Outcome State Fault Refusal :=
  .next (if frameWhole s.link.rx then
      match s.link.inFlight with
      | none => s.takeFrame
      | some f => s.discardFrame f
    else s)

/-! ## Completion (R170, R171, R174) -/

/-- The response of a command in flight (R171). -/
def InFlight.response (f : InFlight) (a : Answer) : Response :=
  { status := a.status, dropped := f.dropped, overrun := f.overrun, tag := f.tag, payload := a.payload }

/-- The command in flight completes: its response is placed and the link goes IDLE (R171). -/
def State.place (s : State) (f : InFlight) (a : Answer) : State :=
  s.setLink { s.link with inFlight := none, response := some (f.response a) }

/-- Whether a session is VALIDATING, so that a COMMIT's check is going on (R140). -/
def State.validating (s : State) : Bool := s.edit.any fun e => e.phase == .validating

/-- The completion of the command in flight (R170, R171). A command that its owner has not taken by then is taken in the
same moment; a COMMIT whose check goes on has no completion yet. DESIGN CHOICE (notes/assumptions/33.md): a COMMIT whose check
a RESTART has abandoned (R143) completes, since every request does (R170), without payload and with a status that is a free
value. -/
def State.completeInFlight (s : State) : State :=
  match s.link.inFlight with
  | none => s
  | some f =>
    match f.work with
    | .done a => s.place f a
    | .checking => if s.validating then s else s.place f ⟨Config.abandonedCommit, []⟩
    | .awaiting c =>
      let r := ownerTakes c s
      match r.2 with
      | some a => { r.1 with answer := some a }.place f a
      | none => { r.1 with answer := none, link := { r.1.link with inFlight := some { f with work := .checking } } }

/-- Whether a marked command can complete: not a COMMIT whose check is going on (R143, R179). -/
def Work.canComplete (validating : Bool) : Work → Bool
  | .checking => !validating
  | .awaiting _ | .done _ => true

/-- The first marked command that can complete, and the others in order. -/
def pickMarked (validating : Bool) : List Work → Option (Work × List Work)
  | [] => none
  | w :: ws =>
    if w.canComplete validating then some (w, ws)
    else (pickMarked validating ws).map fun r => (r.1, w :: r.2)

/-- The completion of a marked command (R170, R174): nothing is placed, and the link state and any in-flight record are
left as they are. One that its owner has not taken by then is taken in the same moment (R178: the owner carries it out
whole). -/
def State.completeMarked (s : State) : State :=
  match pickMarked s.validating s.link.marked with
  | none => s
  | some (w, rest) =>
    match w with
    | .awaiting c =>
      let r := ownerTakes c s
      let left := match r.2 with
        | some _ => rest
        | none => rest ++ [.checking]
      { r.1 with answer := r.2, link := { r.1.link with marked := left } }
    | .done _ | .checking => s.setLink { s.link with marked := rest }

/-- COMMAND_COMPLETION (R170). -/
def execCommandCompletion (marked : Bool) (s : State) : Host.Outcome State Fault Refusal :=
  .next (if marked then s.completeMarked else s.completeInFlight)

/-! ## Collects (R175, R176) -/

/-- The flags byte of a frame: bit 0 DROPPED, bit 1 OVERRUN, bit 2 ATTN asserted (R183). -/
def frameFlags (dropped overrun attn : Bool) : Byte := byteOf (dropped.toNat + 2 * overrun.toNat + 4 * attn.toNat)

/-- A response frame: status, flags, tag, length, payload and check (R183). -/
def Response.frame (r : Response) (attn : Bool) : List Byte :=
  let body := [r.status.code, frameFlags r.dropped r.overrun attn, r.tag, byteOf r.payload.length] ++ r.payload
  body ++ [crc8 body]

/-- The BUSY frame of an in-flight record (R175). -/
def InFlight.busyFrame (f : InFlight) : Response :=
  { status := .busy, dropped := f.dropped, overrun := f.overrun, tag := f.tag, payload := [] }

/-- The NONE frame (R175). -/
def noneFrame : Response := { status := .none, dropped := false, overrun := false, tag := 0x00, payload := [] }

/-- The frame a collect selects (R175): the held response, a BUSY frame, or a NONE frame; and whether it is the held
response. -/
def Link.selected (l : Link) : Response × Bool :=
  match l.response with
  | some r => (r, true)
  | none =>
    match l.inFlight with
    | some f => (f.busyFrame, false)
    | none => (noneFrame, false)

/-- COLLECT (R175): in a collect transaction whose frame is not chosen, the frame is chosen and fixed. -/
def execCollect (s : State) : Host.Outcome State Fault Refusal :=
  .next (if s.link.trans = .collect none then
      let sel := s.link.selected
      s.setLink
        { s.link with
          trans := .collect (some { bytes := sel.1.frame s.attn, shifted := 0, isResponse := sel.2 }) }
    else s)

/-- Whether a collect has clocked a response out whole (R176). -/
def CollectFrame.consumed (f : CollectFrame) : Bool := f.isResponse && f.bytes.length ≤ f.shifted

/-- The link after a rise of SELN (R176 to R178): the timer stops; a response clocked out whole is consumed; a partial
request frame is discarded. A whole frame is not partial and keeps its frame end. -/
def Link.selnUp (l : Link) : Link :=
  let t := { l with trans := .idle, timer := none }
  match l.trans with
  | .collect (some f) => if f.consumed then { t with response := none } else t
  | .request => if frameWhole l.rx then t else { t with rx := [] }
  | .collect none | .opened | .afterFrame | .ignored | .missed | .idle => t

/-- Whether a rise of SELN ends a partial request frame (R177). -/
def Link.partialFrame (l : Link) : Bool :=
  match l.trans with
  | .request => !frameWhole l.rx
  | .collect _ | .opened | .afterFrame | .ignored | .missed | .idle => false

/-- SELN_RISE (R176, R177). -/
def execSelnRise (s : State) : Host.Outcome State Fault Refusal :=
  .next ((s.setLink s.link.selnUp).noteLinkFault s.link.partialFrame)

/-! ## Link reset (R178) -/

/-- The transaction after a link reset: ignored until SELN rises, but that a frame already on SDO goes on being shifted
out (R175, R176). -/
def Transaction.afterLinkReset : Transaction → Transaction
  | .idle => .idle
  | .collect (some f) => .collect (some f)
  | .collect none | .opened | .request | .afterFrame | .ignored | .missed => .ignored

/-- The link after its reset (R178 steps 1 to 3). -/
def Link.linkReset (l : Link) : Link :=
  { l with
    trans := l.trans.afterLinkReset
    rx := []
    timer := none
    response := none
    inFlight := none
    marked := match l.inFlight with
      | some f => l.marked ++ [f.work]
      | none => l.marked }

/-- The link reset timer expires (R178). -/
def State.expireLink (s : State) : State :=
  if s.link.timer.isSome then (s.setLink s.link.linkReset).raise .linkFault else s

/-- LINK_RESET (R178); a stopped timer has no expiry. -/
def execLinkReset (s : State) : Host.Outcome State Fault Refusal := .next s.expireLink

end Sys2Proof.Machine
end

