-- ==== Sys2Proof/Machine/Clock.lean ====
section
/-!
DEFINITION. The passing of time. The table has no row for a tick of the reference clock, so one REFCLK period passes when
the block steps with no command waiting (DESIGN CHOICE): every running timer counts it, and every timer that has reached
zero expires, each expiry a claim of its own (R38). Expiries at one moment come in an order the manual leaves open, but
for the shelve entries, which come in list order (R99).
-/

namespace Sys2Proof.Machine

/-- One period less on a running timer. -/
def countDown (t : Option Nat) : Option Nat := t.map fun n => n - 1

/-- One period of a point's persistence timers; those of a frozen point stand still (R28). -/
def Filter.count (f : Filter) : Filter :=
  if f.frozen then f else { f with onTimer := countDown f.onTimer, offTimer := countDown f.offTimer }

/-- One period of a record's timers (R64, R106). -/
def RosterRecord.count (r : RosterRecord) : RosterRecord :=
  { r with reannounce := countDown r.reannounce, ageClock := r.ageClock - 1 }

/-- One period of a channel's step (R154). -/
def ToneChannel.count (c : ToneChannel) : ToneChannel :=
  { c with player := c.player.map fun pl => { pl with timeLeft := pl.timeLeft - 1 } }

/-- One period of every timer of the part and of the flash timebase. -/
def State.countAll (s : State) : State :=
  { s with
    filter := s.filter.map Filter.count
    roster := s.roster.map RosterRecord.count
    shelves := s.shelves.map fun e => { e with timeLeft := e.timeLeft - 1 }
    keys := s.keys.map fun k => { k with timer := countDown k.timer }
    panelTest := countDown s.panelTest
    hostTest := countDown s.hostTest
    flashPhase := (s.flashPhase + 1) % Config.flashFrame
    edit := s.edit.map fun e => { e with idleTimer := countDown e.idleTimer }
    channels := ⟨s.channels.a.count, s.channels.b.count⟩
    link := { s.link with timer := countDown s.link.timer } }

/-- A timer that can reach zero. -/
inductive Due where
  | onDelay (p : PointId)
  | offDelay (p : PointId)
  | shelve
  | reannounce (p : PointId) (st : Stamp)
  | age (p : PointId)
  | debounce (k : Key)
  | panelTest
  | hostTest
  | stepEnd (c : Chan)
  | editIdle
  | linkReset
  deriving DecidableEq, Repr

/-- The head of the shelve list when its time left is zero (R99: list order). -/
def State.dueShelve (s : State) : Option PointId :=
  match s.shelves with
  | e :: _ => if e.timeLeft = 0 then some e.point else none
  | [] => none

/-- Whether a timer stands at zero and has an expiry. -/
def State.isDue (s : State) : Due → Bool
  | .onDelay p => (s.filterOf p).onTimer == some 0 && !(s.filterOf p).frozen
  | .offDelay p => (s.filterOf p).offTimer == some 0 && !(s.filterOf p).frozen
  | .shelve => s.dueShelve.isSome
  | .reannounce p st => (s.recordOf p).any fun r => r.stamp == st && r.reannounce == some 0
  | .age p => (s.recordOf p).any fun r => r.ageClock == 0
  | .debounce k => (s.keys.get k).timer == some 0
  | .panelTest => s.panelTest == some 0
  | .hostTest => s.hostTest == some 0
  | .stepEnd c => (s.playerOf c).any fun pl => pl.timeLeft == 0
  | .editIdle => s.edit.any fun e => e.idleTimer == some 0
  | .linkReset => s.link.timer == some 0

/-- The expiry of a timer, as its row of the table gives it. -/
def State.expire (s : State) : Due → State
  | .onDelay p => s.expireOnDelay p
  | .offDelay p => s.expireOffDelay p
  | .shelve =>
    match s.dueShelve with
    | some p => s.expireShelve p
    | none => s
  | .reannounce p st => s.expireReannounce p st
  | .age p => s.modifyRecord p RosterRecord.older
  | .debounce k => s.expireDebounce k
  | .panelTest => s.endPanelTest
  | .hostTest => s.endHostTest
  | .stepEnd c => s.endStep c
  | .editIdle => s.expireEdit
  | .linkReset => s.expireLink

/-- Take an expiry if its timer still stands at zero: another claim of the same moment may have stopped it or started it
afresh, and the old expiry then does not happen (R32, R108, R120). -/
def State.takeDue (s : State) (d : Due) : State := if s.isDue d then s.expire d else s

/-- The shelve expiries due at one moment: as many as entries stand at zero. -/
def State.shelvesDue (s : State) : List Due := (s.shelves.filter fun e => e.timeLeft == 0).map fun _ => .shelve

/-- Every timer of the part that could stand at zero. -/
def State.timers (s : State) : List Due :=
  allPoints.map .onDelay ++ allPoints.map .offDelay ++ s.shelvesDue ++
    s.roster.map (fun r => .reannounce r.point r.stamp) ++ s.roster.map (fun r => .age r.point) ++
    [.debounce .kack, .debounce .ksil, .debounce .krst, .debounce .ktst, .panelTest, .hostTest, .stepEnd .a, .stepEnd .b,
     .editIdle, .linkReset]

/-- The expiries due, in table order. -/
def State.dueNow (s : State) : List Due := s.timers.filter s.isDue

/-- One REFCLK period passes. -/
def State.tick (s : State) : State :=
  let t := s.countAll
  t.takeAll t.dueNow fun d u => u.takeDue d

end Sys2Proof.Machine
end

