-- ==== Sys2Proof/Machine/Dispatch.lean ====
section
/-!
DEFINITION. The dispatcher: one arm for each command, one direct call of its meaning.
-/

namespace Sys2Proof.Machine

def exec (i : Instr) (s : State) : Host.Outcome State Fault Refusal :=
  match i with
  | .powerOnReset => Sys2Proof.Machine.execPowerOnReset s
  | .lineSample line level => Sys2Proof.Machine.execLineSample line level s
  | .onDelayExpiry p => Sys2Proof.Machine.execOnDelayExpiry p s
  | .offDelayExpiry p => Sys2Proof.Machine.execOffDelayExpiry p s
  | .shelveExpiry p => Sys2Proof.Machine.execShelveExpiry p s
  | .reannounceExpiry p stamp => Sys2Proof.Machine.execReannounceExpiry p stamp s
  | .keyLineChange k level => Sys2Proof.Machine.execKeyLineChange k level s
  | .debounceExpiry k => Sys2Proof.Machine.execDebounceExpiry k s
  | .panelTestExpiry => Sys2Proof.Machine.execPanelTestExpiry s
  | .hostTestExpiry => Sys2Proof.Machine.execHostTestExpiry s
  | .stepEnd c => Sys2Proof.Machine.execStepEnd c s
  | .editIdleTimeout => Sys2Proof.Machine.execEditIdleTimeout s
  | .commitCheckEnd => Sys2Proof.Machine.execCommitCheckEnd s
  | .selnFall => Sys2Proof.Machine.execSelnFall s
  | .requestFrameEnd => Sys2Proof.Machine.execRequestFrameEnd s
  | .commandCompletion marked => Sys2Proof.Machine.execCommandCompletion marked s
  | .collect => Sys2Proof.Machine.execCollect s
  | .selnRise => Sys2Proof.Machine.execSelnRise s
  | .linkReset => Sys2Proof.Machine.execLinkReset s
  | .writePoint point record => Sys2Proof.Machine.execWritePoint point record s
  | .readPoint point => Sys2Proof.Machine.execReadPoint point s
  | .setServiceIn point => Sys2Proof.Machine.execSetServiceIn point s
  | .setServiceOut point => Sys2Proof.Machine.execSetServiceOut point s
  | .writeClass cls interval => Sys2Proof.Machine.execWriteClass cls interval s
  | .readClass cls => Sys2Proof.Machine.execReadClass cls s
  | .writeLine line mode polarity k => Sys2Proof.Machine.execWriteLine line mode polarity k s
  | .readLine line => Sys2Proof.Machine.execReadLine line s
  | .writeThresholds k x a o => Sys2Proof.Machine.execWriteThresholds k x a o s
  | .readThresholds k => Sys2Proof.Machine.execReadThresholds k s
  | .assertPoint point => Sys2Proof.Machine.execAssertPoint point s
  | .releasePoint point => Sys2Proof.Machine.execReleasePoint point s
  | .ack point expected stamp => Sys2Proof.Machine.execAck point expected stamp s
  | .ackGroup group => Sys2Proof.Machine.execAckGroup group s
  | .ackAll => Sys2Proof.Machine.execAckAll s
  | .reset point => Sys2Proof.Machine.execReset point s
  | .resetAll => Sys2Proof.Machine.execResetAll s
  | .readRecord point => Sys2Proof.Machine.execReadRecord point s
  | .listRoster start => Sys2Proof.Machine.execListRoster start s
  | .firstUnacked => Sys2Proof.Machine.execFirstUnacked s
  | .readSummary => Sys2Proof.Machine.execReadSummary s
  | .readDeferred => Sys2Proof.Machine.execReadDeferred s
  | .writeGroup group enabled => Sys2Proof.Machine.execWriteGroup group enabled s
  | .readGroup group => Sys2Proof.Machine.execReadGroup group s
  | .clearFirstOut group => Sys2Proof.Machine.execClearFirstOut group s
  | .shelve point minutes => Sys2Proof.Machine.execShelve point minutes s
  | .unshelve point => Sys2Proof.Machine.execUnshelve point s
  | .listShelved => Sys2Proof.Machine.execListShelved s
  | .silence => Sys2Proof.Machine.execSilence s
  | .writePanel kack ksil krst ktst => Sys2Proof.Machine.execWritePanel kack ksil krst ktst s
  | .lampTest seconds => Sys2Proof.Machine.execLampTest seconds s
  | .readLamps => Sys2Proof.Machine.execReadLamps s
  | .beginEdit cue => Sys2Proof.Machine.execBeginEdit cue s
  | .writeCueHeader header => Sys2Proof.Machine.execWriteCueHeader header s
  | .writeSteps offset steps => Sys2Proof.Machine.execWriteSteps offset steps s
  | .commit => Sys2Proof.Machine.execCommit s
  | .abortEdit => Sys2Proof.Machine.execAbortEdit s
  | .readCue cue => Sys2Proof.Machine.execReadCue cue s
  | .eraseCue cue => Sys2Proof.Machine.execEraseCue cue s
  | .writeTones first frequencies => Sys2Proof.Machine.execWriteTones first frequencies s
  | .readTones => Sys2Proof.Machine.execReadTones s
  | .writeChannel channel enabled policy => Sys2Proof.Machine.execWriteChannel channel enabled policy s
  | .readChannel channel => Sys2Proof.Machine.execReadChannel channel s
  | .restart => Sys2Proof.Machine.execRestart s
  | .readEvents => Sys2Proof.Machine.execReadEvents s
  | .clearEvents flags => Sys2Proof.Machine.execClearEvents flags s
  | .writeEventMask mask => Sys2Proof.Machine.execWriteEventMask mask s
  | .byteCompletion b => Sys2Proof.Machine.execByteCompletion b s
  | .ageIncrement p => Sys2Proof.Machine.execAgeIncrement p s

end Sys2Proof.Machine
end

