-- ==== Sys2Proof/Safety.lean ====
section
/-!
DEFINITION. The terms in which claims about the part are stated: the answer a host command leaves, what a claim on the
alarm picture never touches, the condition a point's source gives, and the invariants that the manual's rules add up to.
-/

namespace Sys2Proof.Machine

/-! ## Answers -/

/-- An OK answer with a payload (R171). -/
abbrev Answer.okWith (payload : List Byte) : Answer := ⟨.ok, payload⟩

/-- A refusal without payload (R171). -/
abbrev Answer.refusal (st : Status) : Answer := ⟨st, []⟩

/-- The state with nothing changed but that the owner of command `c` has answered `a` and the link has learnt it. -/
def State.answered (s : State) (c : Instr) (a : Answer) : State :=
  { s with answer := some a, link := s.link.takeUp c (some a) }

/-! ## Runs -/

/-- Commands taken one after another. -/
def runAll : List Instr → State → Host.Outcome State Fault Refusal
  | [], s => .next s
  | c :: cs, s =>
    match exec c s with
    | .next t => runAll cs t
    | .fault r => .fault r
    | .refused r => .refused r

/-! ## Frames -/

/-- What a claim on the alarm picture (an edge, an acknowledgement, a reset, a retirement, an admission, a sound demand)
never touches: configuration, lines, shelves, keys, lamp tests, cues, channel settings, the link and the queue. -/
structure State.PictureFrame (s t : State) : Prop where
  config : t.config = s.config
  service : t.service = s.service
  classInterval : t.classInterval = s.classInterval
  lines : t.lines = s.lines
  thresholds : t.thresholds = s.thresholds
  faulted : t.faulted = s.faulted
  shelves : t.shelves = s.shelves
  keys : t.keys = s.keys
  keyEnables : t.keyEnables = s.keyEnables
  panelTest : t.panelTest = s.panelTest
  hostTest : t.hostTest = s.hostTest
  testSounded : t.testSounded = s.testSounded
  flashPhase : t.flashPhase = s.flashPhase
  cues : t.cues = s.cues
  tones : t.tones = s.tones
  edit : t.edit = s.edit
  enabled : ∀ c, (t.channels.get c).enabled = (s.channels.get c).enabled
  policy : ∀ c, (t.channels.get c).policy = (s.channels.get c).policy
  link : t.link = s.link
  mask : t.mask = s.mask
  answer : t.answer = s.answer
  freeCount : t.freeCount = s.freeCount
  pending : t.pending = s.pending

/-- The event flags that the tone channels set: CUE_FALLBACK (R153) and the two idle flags (R163). -/
def Event.ofChannels : Event → Bool
  | .cueFallback | .channelAIdle | .channelBIdle => true
  | .newAlert | .returned | .deferred | .panelAction | .shelveExpired | .lineFault | .editEnded | .restarted
  | .linkFault => false

/-- What a sound demand's coming or going never touches: everything but the player contexts and the flags of the
channels. -/
structure State.SoundFrame (s t : State) : Prop where
  rest : ∃ a b e,
    t = { s with channels := ⟨{ s.channels.a with player := a }, { s.channels.b with player := b }⟩, events := e }
  flags : ∀ e : Event, e.ofChannels = false → t.flag e = s.flag e

/-! ## The condition a source gives (R27, R28, R30, R33, R75) -/

/-- Whether a point is held frozen by its source: a HOLD point on a line classified OPEN or SHORT (R28). -/
def State.sourceFrozen (s : State) (p : PointId) : Bool :=
  match (s.cfg p).source with
  | .line n => (s.cfg p).faultResponse == .hold && (s.lines[n]).classification.isFault
  | .host | .internal => false

/-- The raw condition a point's source gives as it stands (R27, R29, R30, R75). -/
def State.sourceRaw (s : State) (p : PointId) : Bool :=
  match (s.cfg p).source with
  | .line n => (s.lines[n]).classification.present
  | .host => (s.filterOf p).hostRaw
  | .internal =>
    if p = lineFaultPoint then !s.faulted.isEmpty
    else if p = overflowPoint then !s.deferred.isEmpty
    else false

/-- What R31's table makes of the qualification state `f` of an in-service point when its raw condition comes to be `v`: `g`.
A value it has already reaches no timer (R27). -/
structure Filter.Takes (c : PointConfig) (f : Filter) (v : Bool) (g : Filter) : Prop where
  same : f.raw = v → g = f
  starts : f.raw = false → v = true → f.qualified = false → c.onDelay ≠ 0 →
    g = { f with raw := true, onTimer := some (c.onDelay.toNat * 40000) }
  rises : f.raw = false → v = true → f.qualified = false → c.onDelay = 0 →
    g = { f with raw := true, qualified := true, onTimer := none, offTimer := none }
  holds : f.raw = false → v = true → f.qualified = true → g = { f with raw := true, offTimer := none }
  drops : f.raw = true → v = false → f.qualified = false → g = { f with raw := false, onTimer := none }
  runsOut : f.raw = true → v = false → f.qualified = true → c.offDelay ≠ 0 →
    g = { f with raw := false, offTimer := some (c.offDelay.toNat * 40000) }
  falls : f.raw = true → v = false → f.qualified = true → c.offDelay = 0 →
    g = { f with raw := false, qualified := false, onTimer := none, offTimer := none }

/-- An in-service point has taken a classification change of its line (R27, R28): a HOLD point on a faulted line is frozen,
with its conditions and the time left of its timers as they stood; any other point goes on from the raw condition it has, a
timer that a freeze has stopped resuming where the condition is the same. -/
structure State.TakesLine (s t : State) (p : PointId) : Prop where
  held : t.sourceFrozen p = true → t.filterOf p = { s.filterOf p with frozen := true }
  freed : t.sourceFrozen p = false →
    Filter.Takes (s.cfg p) { s.filterOf p with frozen := false } (t.sourceRaw p) (t.filterOf p)

/-! ## What the tone channels make of a claim (R152, R153, R157, R158) -/

/-- A claim lets a channel's pass go on: its policy is STEP, the pass is held, its demand is still the wanted one (R158), or a
COMMIT has replaced its cue and the claim has changed no demand on the channel (R152, R160; notes/assumptions/36.md). -/
def State.PassGoesOn (s t : State) (c : Chan) (pl : Player) : Prop :=
  (s.channels.get c).policy = .step ∨ pl.firmHold = true ∨ t.wanted c = some pl.current ∨
    pl.replacementPending = true ∧ t.demandsOn c = s.demandsOn c

/-- Every channel has compared (R152, R153, R158): a pass that may go on does, and a channel that is IDLE or must switch plays
what is wanted, or nothing. -/
structure State.Compared (s t : State) : Prop where
  goesOn : ∀ c pl, s.playerOf c = some pl → s.PassGoesOn t c pl → t.playerOf c = some pl
  serves : ∀ c, (∀ pl, s.playerOf c = some pl → ¬ s.PassGoesOn t c pl) → (t.playerOf c).map Player.current = t.wanted c

/-- Every pass that goes on takes `renewed` exactly when `hit` holds of it (R157), and is otherwise as it was. -/
structure State.Renews (s t : State) (hit : Player → Prop) : Prop where
  renewed : ∀ c pl, s.playerOf c = some pl → s.PassGoesOn t c pl → hit pl → t.playerOf c = some { pl with renewed := true }
  others : ∀ c pl, s.playerOf c = some pl → s.PassGoesOn t c pl → ¬ hit pl → t.playerOf c = some pl

/-- A pass of a SINGLE or FIRM cue for a point's standing record, where the record demands the cue that the pass was
demanded with (R157). The policy is the one the pass began with, the model's reading (notes/assumptions/34.md). -/
def State.PassFor (s : State) (p : PointId) (cue : Option CueId) (pl : Player) : Prop :=
  (∃ r, s.recordOf p = some r ∧ pl.owner = .record p r.stamp) ∧ cue = some pl.demandedCue ∧ pl.passPolicy ≠ .repeating

/-! ## Invariants -/

/-- The configuration stands within its ranges: the fixed fields of the internal points (R3), the sources of general points
(R2), the class intervals (R14), the threshold sets (R18) and the tone table (R129). -/
structure State.ConfigLegal (s : State) : Prop where
  internalKind : ∀ p, isInternal p = true → (s.cfg p).kind = .auto
  internalSource : ∀ p, isInternal p = true → (s.cfg p).source = .internal
  generalSource : ∀ p, isGeneral p = true → (s.cfg p).source ≠ .internal
  intervals : ∀ c : PriorityClass, (s.classInterval[c]).toNat ≤ 240
  levels : ∀ k : SetId, (s.thresholds[k]).s.toNat < (s.thresholds[k]).a.toNat ∧
    (s.thresholds[k]).a.toNat < (s.thresholds[k]).o.toNat
  frequencies : ∀ t : ToneId, frequencyOk s.tones[t] = true

/-- Two loop entries that share no step, or of which one is nested in the other with a different span (R127). -/
def LoopEntry.compatible (x y : LoopEntry) : Prop :=
  x.last < y.first ∨ y.last < x.first ∨
  ((x.first, x.last) ≠ (y.first, y.last) ∧
    (y.first ≤ x.first ∧ x.last ≤ y.last ∨ x.first ≤ y.first ∧ y.last ≤ x.last))

/-- The contents a READY cue may hold (R127). -/
structure CueContents.Legal (q : CueContents) : Prop where
  stepCount : 1 ≤ q.steps.length ∧ q.steps.length ≤ 16
  lengths : ∀ st ∈ q.steps, 1 ≤ st.length ∧ st.length ≤ 16
  alt : ∀ a, q.alt = some a → 1 ≤ a.fromStep ∧ a.fromStep < q.steps.length
  loopCount : q.loops.length ≤ 2
  loops : ∀ l ∈ q.loops, 2 ≤ l.count ∧ l.count ≤ 15 ∧ l.first ≤ l.last ∧ l.last < q.steps.length
  nesting : q.loops.Pairwise LoopEntry.compatible

/-- The cue library stands as R127, R132 and R135 allow: the built-in cues hold their contents, every READY cue holds legal
ones, and an edit session edits a loadable cue, its idle timer running exactly while it is OPEN (R139, R140). -/
structure State.CuesLegal (s : State) : Prop where
  builtIn : ∀ q : CueId, q.val < 8 → s.cues[q] = cuesAtReset[q]
  ready : ∀ (q : CueId) (c : CueContents), s.cues[q] = some c → c.Legal
  target : ∀ e, s.edit = some e → 8 ≤ e.target.val
  stepCount : ∀ e, s.edit = some e → e.stepCount ≤ 16
  header : ∀ e, s.edit = some e → e.header.loops.length ≤ 2
  idleTimer : ∀ e, s.edit = some e → (e.idleTimer.isSome ↔ e.phase = .openPhase)

/-- The bytes a receive frame may hold (R168): no more than the frame that its length byte announces, and none after a
length byte above 40. -/
def receivable (rx : List Byte) : Prop :=
  ∀ n, rx[2]? = some n → if 40 < n.toNat then rx.length = 3 else rx.length ≤ n.toNat + 4

/-- The port stands as R167, R168 and R178 allow: the receive frame keeps to its length, and the link reset timer runs at
most while SELN is low. -/
structure State.LinkLegal (s : State) : Prop where
  frame : receivable s.link.rx
  request : s.link.trans = .request → s.link.rx ≠ []
  timer : s.link.timer.isSome → s.link.trans ≠ .idle

/-- The debounce timer of a key runs exactly while its line differs from its debounced state (R110, R111): low goes with
PRESSED and high with RELEASED. -/
def State.KeysLegal (s : State) : Prop :=
  ∀ k : Key, (s.keys.get k).timer.isSome = true ↔ ¬ ((s.keys.get k).pressed = true ↔ (s.keys.get k).line = .low)

/-- The alarm states a point of a kind can stand in (R36): only a MANUAL point awaits a reset, and a PULSE point is never
ACKED nor RETURNED. -/
def Kind.allows : Kind → AlarmState → Bool
  | .auto, .awaitReset => false
  | .pulse, .acked | .pulse, .returned | .pulse, .awaitReset => false
  | _, _ => true

/-- The qualified condition that an in-service AUTO or MANUAL point has in a state (R36), `none` where the state says
nothing of it. -/
def AlarmState.qualified : AlarmState → Option Bool
  | .normal | .returned | .awaitReset => some false
  | .deferred | .alert | .acked => some true
  | .outOfService | .shelved => none

/-- The alarm picture is consistent: points, filters, roster, deferred list, groups and shelves tell one story. -/
structure State.PictureLegal (s : State) : Prop where
  /-- R1: a point is OUT exactly when it is in OUT_OF_SERVICE. -/
  service : ∀ p, s.service[p] = .outService ↔ s.alarmOf p = .outOfService
  /-- R36: the states a kind can stand in. -/
  kinds : ∀ p, (s.cfg p).kind.allows (s.alarmOf p) = true
  /-- R10, R33: a point out of service is not qualified. -/
  stopped : ∀ p, s.service[p] = .outService →
    (s.filterOf p).raw = false ∧ (s.filterOf p).qualified = false ∧ (s.filterOf p).onTimer = none ∧
      (s.filterOf p).offTimer = none ∧ (s.filterOf p).frozen = false
  /-- R31: the on-delay runs only towards PRESENT and the off-delay only towards ABSENT. -/
  onTimer : ∀ p, (s.filterOf p).onTimer.isSome → (s.filterOf p).raw = true ∧ (s.filterOf p).qualified = false
  offTimer : ∀ p, (s.filterOf p).offTimer.isSome → (s.filterOf p).raw = false ∧ (s.filterOf p).qualified = true
  /-- R36: the qualified condition of an AUTO or MANUAL point in each state. -/
  qualified : ∀ p v, (s.cfg p).kind ≠ .pulse → (s.alarmOf p).qualified = some v → (s.filterOf p).qualified = v
  /-- R36: a record mirrors its point's state, and a point holds a record exactly in the four record-holding states. -/
  mirror : ∀ r ∈ s.roster, s.alarmOf r.point = r.state.toAlarm
  holders : ∀ p, (s.alarmOf p).holdsRecord = true → ∃ r ∈ s.roster, r.point = p
  /-- R36: no point holds more than one record. -/
  points : (s.roster.map RosterRecord.point).Nodup
  /-- R66: no two records hold one stamp, and none holds 0. -/
  stamps : (s.roster.map RosterRecord.stamp).Nodup
  stampZero : ∀ r ∈ s.roster, r.stamp ≠ 0
  counter : s.stampCounter ≠ 0
  /-- R63: records stand in order of class. -/
  order : s.roster.Pairwise fun x y => s.classOf x ≤ s.classOf y
  /-- R61: the general record count. -/
  count : s.generalCount = s.roster.countP fun r => isGeneral r.point
  places : s.generalCount ≤ Config.generalPlaces
  /-- R62: recurrence and age keep to their ranges. -/
  recurrence : ∀ r ∈ s.roster, r.recurrence ≤ 255
  age : ∀ r ∈ s.roster, r.age ≤ 65535
  /-- R48, R62: exactly an acknowledged record names who acknowledged it. -/
  acknowledged : ∀ r ∈ s.roster, r.ackSource.isSome ↔ r.unacked = false
  /-- R104, R106: silence and its timer belong to unacknowledged records. -/
  silenced : ∀ r ∈ s.roster, r.silenced = true → r.unacked = true
  reannounce : ∀ r ∈ s.roster, r.reannounce.isSome → r.silenced = true
  /-- R69: the deferred list holds exactly the points in DEFERRED, each once, in class order, general points only, and only
  while no general place is free. -/
  deferred : ∀ p, p ∈ s.deferred ↔ s.alarmOf p = .deferred
  deferredOnce : s.deferred.Nodup
  deferredOrder : s.deferred.Pairwise fun p q => (s.cfg p).priority ≤ (s.cfg q).priority
  deferredGeneral : ∀ p ∈ s.deferred, isGeneral p = true
  deferredFull : s.deferred ≠ [] → s.generalCount = Config.generalPlaces
  /-- R94, R95: the shelve list holds exactly the SHELVED points, each once, at most 8, in order of expiry, general points
  only. -/
  shelved : ∀ p, (∃ e ∈ s.shelves, e.point = p) ↔ s.alarmOf p = .shelved
  shelvedOnce : (s.shelves.map ShelveEntry.point).Nodup
  shelvedOrder : s.shelves.Pairwise fun x y => x.timeLeft ≤ y.timeLeft
  shelvedGeneral : ∀ e ∈ s.shelves, isGeneral e.point = true
  shelvedPlaces : s.shelves.length ≤ Config.shelvePlaces
  /-- R87, R88: a record carries the first-out mark exactly when its group's slot names its point, and a slot names a member
  that holds a record. -/
  marks : ∀ r ∈ s.roster, r.firstOut = true ↔
    ∃ g : GroupId, (s.cfg r.point).group = some g ∧ (s.groups[g]).slot = some r.point
  slots : ∀ (g : GroupId) (p : PointId), (s.groups[g]).slot = some p →
    (s.cfg p).group = some g ∧ ∃ r ∈ s.roster, r.point = p
  /-- R86, R88, R89: a group with a holder is enabled and disarmed. -/
  holder : ∀ g : GroupId, (s.groups[g]).slot ≠ none → (s.groups[g]).firstOutEnabled = true ∧ (s.groups[g]).armed = false
  /-- R85: a quiet group is armed. -/
  quiet : ∀ g : GroupId, s.quiet g = true → (s.groups[g]).armed = true

/-- Raw conditions follow their sources (R27 to R30, R75), and the faulted-line set is the one R29 derives. -/
structure State.SourcesFollowed (s : State) : Prop where
  faulted : s.faulted = s.derivedFaulted
  frozen : ∀ p, s.inService p = true → (s.filterOf p).frozen = s.sourceFrozen p
  raw : ∀ p, s.inService p = true → s.sourceFrozen p = false → (s.filterOf p).raw = s.sourceRaw p
  hostRaw : ∀ p, (s.cfg p).source ≠ .host → (s.filterOf p).hostRaw = false

/-- The tone channels serve what is wanted (R148, R152, R153, R158): a disabled channel is IDLE, an IDLE channel wants
nothing, an IMMEDIATE channel without hold serves the wanted demand unless a COMMIT has it finish a step (R160,
notes/assumptions/36.md), and a channel plays READY cues only. A pass is held
exactly when it is one of a FIRM cue, and until a COMMIT has replaced the cue its policy is the cue's (R153, R160). -/
structure State.ChannelsServe (s : State) : Prop where
  disabled : ∀ c, (s.channels.get c).enabled = false → s.playerOf c = none
  idle : ∀ c, s.playerOf c = none → s.wanted c = none
  immediate : ∀ c pl, s.playerOf c = some pl → (s.channels.get c).policy = .immediate → pl.firmHold = false →
    pl.replacementPending = false → s.wanted c = some pl.current
  ready : ∀ c pl, s.playerOf c = some pl → s.ready pl.playedCue = true
  played : ∀ c pl, s.playerOf c = some pl → pl.playedCue = pl.demandedCue ∨ pl.playedCue = fallbackCue
  hold : ∀ c pl, s.playerOf c = some pl → (pl.firmHold = true ↔ pl.passPolicy = .firm)
  pass : ∀ c pl, s.playerOf c = some pl → pl.replacementPending = false →
    pl.passPolicy = (s.contents pl.playedCue).policy

end Sys2Proof.Machine
end

