-- ==== Sys2Proof/WellFormed.lean ====
section
/-!
DEFINITION. Which commands a sender can send: the lengths of the two lists that a host command carries, from the
payload lengths the catalogue of R181 accepts. Every other operand fills its type, and the owning command judges it.
-/

namespace Sys2Proof

/-- A command whose list operands have a length the catalogue accepts: WRITE STEPS carries 0 to 19 steps (a payload
of 1 to 39 bytes, odd) and WRITE TONES 1 to 16 frequencies (3 to 33 bytes, odd), by R181. -/
def Instr.wellFormed : Instr → Bool
  | .writeSteps _ steps => decide (steps.length ≤ 19)
  | .writeTones _ frequencies => decide (1 ≤ frequencies.length ∧ frequencies.length ≤ 16)
  | _ => true

end Sys2Proof
end

