-- ==== Sys2Proof/Certificates/Slice0/Obligations.lean ====
section
/-!
DEFINITION. The statements about the WA640, each a proposition for the provers. A byte that names a numbered thing is written
`byteOf n`; `State.answered` is the state with nothing changed but the answer. Numbers of the manual stand as they are, but
for the priority classes, whose class n is the value n - 1, and for times, which are in REFCLK periods (4000 to the
millisecond).
-/

open Sys2Proof Sys2Proof.Machine

/-! ## The step and the resets -/

/-- A step takes the command at the front of the queue with the queue's rest. The queue is the model's own
(notes/assumptions/1.md). -/
def Obligations.StepTakesFrontCommand : Prop :=
  ∀ (c : Instr) (rest : List Instr) (s : State),
    step { s with pending := c :: rest } = exec c { s with pending := rest }

/-- Every command of the table has a next state, in every state, and leaves the queue alone: nothing stops the part. That
nothing stops it is the model's reading (notes/assumptions/25.md). With no command waiting, a step is one period of REFCLK
(00_scope.md, "Units of time"), which is the model's choice (notes/assumptions/2.md): every running timer counts it, but for
those of a frozen point (R28); the flash phase goes round its frame (R121); and then each timer that stands at zero, and no
other, has the expiry that its row of the table gives, one after another in an order that is a free value
(notes/assumptions/4.md), unless an expiry taken before has stopped or restarted it. -/
def Obligations.CommandsCompleteAndIdleStepCounts : Prop :=
  (∀ (c : Instr) (s : State), ∃ t, exec c s = .next t ∧ t.pending = s.pending) ∧
  (∀ s : State, s.pending = [] →
    let less := fun n : Option Nat => n.map (· - 1)
    let counted := fun ch : ToneChannel =>
      { ch with player := ch.player.map fun pl => { pl with timeLeft := pl.timeLeft - 1 } }
    let u : State :=
      { s with
        filter := s.filter.map fun f =>
          if f.frozen = true then f else { f with onTimer := less f.onTimer, offTimer := less f.offTimer }
        roster := s.roster.map fun r => { r with reannounce := less r.reannounce, ageClock := r.ageClock - 1 }
        shelves := s.shelves.map fun e => { e with timeLeft := e.timeLeft - 1 }
        keys := s.keys.map fun k => { k with timer := less k.timer }
        panelTest := less s.panelTest
        hostTest := less s.hostTest
        flashPhase := (s.flashPhase + 1) % 4000000
        edit := s.edit.map fun e => { e with idleTimer := less e.idleTimer }
        channels := ⟨counted s.channels.a, counted s.channels.b⟩
        link := { s.link with timer := less s.link.timer }
        freeCount := s.freeCount + 1 }
    (∀ d : Due, d ∈ u.dueNow ↔ u.isDue d = true) ∧
    ∃ l : List Due, l.Perm u.dueNow ∧ step s = .next (l.foldl (fun t d => t.takeDue d) u)) ∧
  (∀ (d : Due) (u : State), u.isDue d = false → u.takeDue d = u) ∧
  (∀ (p : PointId) (u : State),
    (u.isDue (.onDelay p) = true ↔ (u.filterOf p).onTimer = some 0 ∧ (u.filterOf p).frozen = false) ∧
    (u.isDue (.onDelay p) = true → exec (.onDelayExpiry p) u = .next (u.takeDue (.onDelay p))) ∧
    (u.isDue (.offDelay p) = true ↔ (u.filterOf p).offTimer = some 0 ∧ (u.filterOf p).frozen = false) ∧
    (u.isDue (.offDelay p) = true → exec (.offDelayExpiry p) u = .next (u.takeDue (.offDelay p))) ∧
    (u.isDue (.age p) = true ↔ ∃ r, u.recordOf p = some r ∧ r.ageClock = 0) ∧
    (u.isDue (.age p) = true → exec (.ageIncrement p) u = .next (u.takeDue (.age p))) ∧
    (∀ st : Stamp,
      (u.isDue (.reannounce p st) = true ↔ ∃ r, u.recordOf p = some r ∧ r.stamp = st ∧ r.reannounce = some 0) ∧
      (u.isDue (.reannounce p st) = true → exec (.reannounceExpiry p st) u = .next (u.takeDue (.reannounce p st))))) ∧
  (∀ u : State,
    (u.isDue .shelve = true ↔ ∃ e, u.shelves.head? = some e ∧ e.timeLeft = 0) ∧
    (∀ e : ShelveEntry, u.shelves.head? = some e → e.timeLeft = 0 →
      exec (.shelveExpiry e.point) u = .next (u.takeDue .shelve)) ∧
    (∀ k : Key, (u.isDue (.debounce k) = true ↔ (u.keys.get k).timer = some 0) ∧
      (u.isDue (.debounce k) = true → exec (.debounceExpiry k) u = .next (u.takeDue (.debounce k)))) ∧
    (u.isDue .panelTest = true ↔ u.panelTest = some 0) ∧
    (u.isDue .panelTest = true → exec .panelTestExpiry u = .next (u.takeDue .panelTest)) ∧
    (u.isDue .hostTest = true ↔ u.hostTest = some 0) ∧
    (u.isDue .hostTest = true → exec .hostTestExpiry u = .next (u.takeDue .hostTest)) ∧
    (∀ c : Chan, (u.isDue (.stepEnd c) = true ↔ ∃ pl, u.playerOf c = some pl ∧ pl.timeLeft = 0) ∧
      (u.isDue (.stepEnd c) = true → exec (.stepEnd c) u = .next (u.takeDue (.stepEnd c)))) ∧
    (u.isDue .editIdle = true ↔ ∃ e, u.edit = some e ∧ e.idleTimer = some 0) ∧
    (u.isDue .editIdle = true → exec .editIdleTimeout u = .next (u.takeDue .editIdle)) ∧
    (u.isDue .linkReset = true ↔ u.link.timer = some 0) ∧
    (u.isDue .linkReset = true → exec .linkReset u = .next (u.takeDue .linkReset)))

/-- R4: the point table and the alarm states after power-on reset. -/
def Obligations.PowerOnResetPoints : Prop :=
  ∀ s : State, ∃ t, exec .powerOnReset s = .next t ∧
    (∀ p : PointId, p.val < 62 →
      t.service[p] = .outService ∧ t.alarmOf p = .outOfService ∧
      t.cfg p =
        { kind := .auto, priority := 3, source := .host, onDelay := 0, offDelay := 0, faultResponse := .alarm,
          group := none, lamp := none, alertCue := none, ringbackCue := none, channel := .a }) ∧
    (t.service[(62 : PointId)] = .inService ∧ t.alarmOf 62 = .normal ∧
      t.cfg 62 =
        { kind := .auto, priority := 1, source := .internal, onDelay := 50, offDelay := 50, faultResponse := .alarm,
          group := none, lamp := none, alertCue := some 4, ringbackCue := none, channel := .b }) ∧
    (t.service[(63 : PointId)] = .inService ∧ t.alarmOf 63 = .normal ∧
      t.cfg 63 =
        { kind := .auto, priority := 0, source := .internal, onDelay := 0, offDelay := 0, faultResponse := .alarm,
          group := none, lamp := none, alertCue := some 1, ringbackCue := none, channel := .a }) ∧
    (∀ p : PointId, 62 ≤ p.val →
      (t.filterOf p).raw = false ∧ (t.filterOf p).qualified = false ∧ (t.filterOf p).onTimer = none ∧
        (t.filterOf p).offTimer = none) ∧
    (∀ n : LineId, (t.lines[n]).classification = .inactive) ∧ t.deferred = []

/-- The other blocks after power-on reset (R14, R18, R22, R65, R83, R94, R111, R112, R119, R121, R129, R132, R148, R149, R167,
R170, R174, R192): no alarm stands, the keys follow their lines, the tone table and the built-in cues hold their contents, the
link is IDLE with nothing in its buffers, a transaction in progress is ignored until SELN rises, only RESTARTED is set, and it
asserts ATTN once its mask bit is enabled. That the key lines and SELN keep their levels is the model's choice
(notes/assumptions/12.md). -/
def Obligations.PowerOnResetBlocks : Prop :=
  ∀ s : State, ∃ t, exec .powerOnReset s = .next t ∧
    (∀ c : PriorityClass, t.classInterval[c] = 0) ∧
    (t.thresholds[(0 : SetId)] = ⟨30, 110, 220⟩ ∧ t.thresholds[(1 : SetId)] = ⟨20, 90, 200⟩ ∧
      t.thresholds[(2 : SetId)] = ⟨40, 128, 235⟩ ∧ t.thresholds[(3 : SetId)] = ⟨10, 60, 180⟩) ∧
    (∀ n : LineId, t.lines[n] = ⟨.unsupervised, .normal, 0, .inactive, none⟩) ∧
    (t.roster = [] ∧ t.generalCount = 0 ∧ t.stampCounter = 1 ∧ t.faulted = [] ∧ t.shelves = []) ∧
    (∀ g : GroupId, t.groups[g] = ⟨false, none, true⟩) ∧
    (∀ k : Key, (t.keys.get k).line = (s.keys.get k).line ∧ (t.keys.get k).timer = none ∧
      ((t.keys.get k).pressed = true ↔ (s.keys.get k).line = .low) ∧ t.keyEnables.get k = true) ∧
    (t.panelTest = none ∧ t.hostTest = none ∧ t.edit = none) ∧
    (∀ c : Chan, t.channels.get c = ⟨true, .step, none⟩ ∧ t.testSounded.get c = false) ∧
    t.tones.toList = [400, 425, 450, 476, 504, 534, 566, 600, 635, 673, 713, 755,
      800, 848, 898, 951, 1008, 1068, 1131, 1198, 1270, 1345, 1425, 1510] ∧
    (t.cues[(0 : CueId)] = some ⟨.repeating, 4, none, [⟨.tone 12, 16⟩], []⟩ ∧
      t.cues[(1 : CueId)] =
        some ⟨.repeating, 4, none, [⟨.tone 8, 2⟩, ⟨.tone 12, 2⟩, ⟨.tone 16, 2⟩, ⟨.tone 20, 2⟩], []⟩ ∧
      t.cues[(2 : CueId)] = some ⟨.repeating, 4, none, [⟨.tone 18, 4⟩, ⟨.tone 10, 4⟩], []⟩ ∧
      t.cues[(3 : CueId)] =
        some ⟨.repeating, 4, none, [⟨.tone 14, 2⟩, ⟨.rest, 2⟩, ⟨.tone 14, 2⟩, ⟨.rest, 6⟩], [⟨0, 1, 2⟩]⟩ ∧
      t.cues[(4 : CueId)] = some ⟨.repeating, 6, none, [⟨.tone 12, 4⟩, ⟨.rest, 12⟩], []⟩ ∧
      t.cues[(5 : CueId)] = some ⟨.single, 4, none, [⟨.tone 16, 4⟩, ⟨.tone 12, 4⟩, ⟨.tone 8, 8⟩], []⟩ ∧
      t.cues[(6 : CueId)] = some ⟨.repeating, 4, none, [⟨.tone 6, 2⟩, ⟨.rest, 14⟩], []⟩ ∧
      t.cues[(7 : CueId)] =
        some ⟨.single, 4, none, [⟨.tone 4, 4⟩, ⟨.tone 8, 4⟩, ⟨.tone 12, 4⟩, ⟨.tone 16, 4⟩, ⟨.tone 20, 4⟩], []⟩) ∧
    (∀ q : CueId, 8 ≤ q.val → t.cues[q] = none) ∧
    t.flashPhase = 0 ∧
    t.link =
      { trans := if s.link.trans = .idle then .idle else .missed
        rx := [], timer := none, inFlight := none, marked := [], response := none } ∧
    (∀ e : Event, t.flag e = true ↔ e = .restarted) ∧ t.mask = 0 ∧ t.attn = false ∧
    (∀ m, ({ t with mask := m } : State).attn = m.getLsbD 10)

/-- RESTART keeps the configuration, sets every other block back and keeps every point out of service there (R57, R180,
R193): it answers OK and RESTARTED stands. Each in-service point starts afresh from its source as it stands (R33), so that
every record, deferred point, slot and pass there is afterwards comes from a condition that stands now, and no flag stands
but those of its coming in. The order in which the points come in is a free value (notes/assumptions/4.md). -/
def Obligations.RestartKeepsConfiguration : Prop :=
  (∀ s : State, ∃ t, exec .restart s = .next t ∧ t.answer = some (.okWith []) ∧
    t.link = s.link.takeUp .restart (some (.okWith [])) ∧
    (t.config = s.config ∧ t.service = s.service ∧ t.classInterval = s.classInterval ∧ t.lines = s.lines ∧
      t.thresholds = s.thresholds ∧ t.faulted = s.faulted ∧ t.keys = s.keys ∧ t.keyEnables = s.keyEnables ∧
      t.flashPhase = s.flashPhase ∧ t.cues = s.cues ∧ t.tones = s.tones ∧ t.mask = s.mask) ∧
    (∀ g : GroupId, (t.groups[g]).firstOutEnabled = (s.groups[g]).firstOutEnabled) ∧
    (∀ c : Chan, (t.channels.get c).enabled = (s.channels.get c).enabled ∧
      (t.channels.get c).policy = (s.channels.get c).policy ∧ t.testSounded.get c = false) ∧
    (t.shelves = [] ∧ t.panelTest = none ∧ t.hostTest = none ∧ t.edit = none) ∧
    (∀ p : PointId, (t.filterOf p).hostRaw = false) ∧
    (∀ p : PointId, s.service[p] = .outService → t.alarmOf p = .outOfService) ∧
    t.flag .restarted = true ∧ t.flag .shelveExpired = false ∧ t.flag .editEnded = false) ∧
  (∀ s t : State, s.ConfigLegal → exec .restart s = .next t →
    let start : Filter :=
      { hostRaw := false, raw := false, qualified := false, onTimer := none, offTimer := none, frozen := false }
    (∀ p : PointId, s.service[p] = .outService → t.filterOf p = start) ∧
    (∀ p : PointId, s.service[p] = .inService → p ≠ 63 →
      (t.sourceFrozen p = true → t.filterOf p = { start with frozen := true } ∧ t.alarmOf p = .normal) ∧
      (t.sourceFrozen p = false → t.sourceRaw p = false → t.filterOf p = start ∧ t.alarmOf p = .normal) ∧
      (t.sourceFrozen p = false → t.sourceRaw p = true → (s.cfg p).onDelay ≠ 0 →
        t.filterOf p = { start with raw := true, onTimer := some ((s.cfg p).onDelay.toNat * 40000) } ∧
          t.alarmOf p = .normal) ∧
      (t.sourceFrozen p = false → t.sourceRaw p = true → (s.cfg p).onDelay = 0 →
        t.filterOf p = { start with raw := true, qualified := true } ∧
          (t.alarmOf p = .alert ∨ t.alarmOf p = .deferred ∧ isGeneral p = true ∧ t.generalCount = 38))) ∧
    (s.service[(63 : PointId)] = .inService →
      (t.deferred = [] → t.filterOf 63 = start ∧ t.alarmOf 63 = .normal) ∧
      (t.deferred ≠ [] → (t.filterOf 63).raw = true)) ∧
    (∀ r ∈ t.roster, s.service[r.point] = .inService ∧ (s.cfg r.point).onDelay = 0 ∧
      r = { point := r.point, stamp := r.stamp, state := .alert, firstOut := r.firstOut, recurrence := 0, silenced := false,
            sounded := false, ackSource := none, reannounce := none, age := 0, ageClock := 4000000 }) ∧
    (∀ p : PointId, (t.alarmOf p = .alert ↔ ∃ r ∈ t.roster, r.point = p) ∧ (t.alarmOf p = .deferred ↔ p ∈ t.deferred)) ∧
    t.generalCount = t.roster.countP (fun r => isGeneral r.point) ∧
    (∀ g : GroupId, (t.groups[g]).slot = none ∧ (t.groups[g]).armed = true ∨
      ∃ r ∈ t.roster, (t.groups[g]).slot = some r.point ∧ r.firstOut = true ∧ (s.cfg r.point).group = some g ∧
        (s.groups[g]).firstOutEnabled = true ∧ (t.groups[g]).armed = false) ∧
    (∀ c : Chan, (t.playerOf c = none → t.wanted c = none) ∧
      ∀ pl, t.playerOf c = some pl → (∃ r ∈ t.roster, pl.owner = .record r.point r.stamp) ∧ pl.stepIndex = 0 ∧
        pl.renewed = false ∧ pl.replacementPending = false) ∧
    (t.flag .newAlert = true ↔ t.roster ≠ []) ∧ (t.flag .deferred = true ↔ t.deferred ≠ []) ∧
    (∀ e : Event, t.flag e = true → e ∈ [.restarted, .newAlert, .deferred, .cueFallback]))

/-- RESTART with no condition standing at a line leaves an empty alarm picture, and the stamp counter as it was (R57, R65,
R165, R193). -/
def Obligations.RestartEmptiesPicture : Prop :=
  ∀ s : State, s.faulted = [] →
    (∀ (p : PointId) (n : LineId), s.inService p = true → (s.cfg p).source = .line n →
      (s.lines[n]).classification = .inactive) →
    ∃ t, exec .restart s = .next t ∧ t.roster = [] ∧ t.generalCount = 0 ∧ t.deferred = [] ∧
      t.stampCounter = s.stampCounter ∧ (∀ p : PointId, s.service[p] = .inService → t.alarmOf p = .normal) ∧
      (∀ g : GroupId, (t.groups[g]).slot = none ∧ (t.groups[g]).armed = true) ∧
      (∀ c : Chan, t.playerOf c = none) ∧ (∀ e : Event, t.flag e = true ↔ e = .restarted)

/-! ## Points, classes and service -/

/-- WRITE POINT (R6): the checks in their order, and when they pass the record is replaced whole, with the eleven bytes
carried (R185), and a source other than HOST makes the host raw condition absent (R30). The records that pass are exactly
those with every field in its range, INTERNAL at no general point, and AUTO with INTERNAL at an internal one (R2, R3, R184,
R185). READ POINT (R7): the eleven bytes of the record, the service state and the alarm state; nothing changes. -/
def Obligations.PointRecordWrittenAndRead : Prop :=
  (∀ (b : Byte) (rec : PointBytes) (s : State), 63 < b.toNat →
    exec (.writePoint b rec) s = .next (s.answered (.writePoint b rec) (.refusal .range))) ∧
  (∀ (p : PointId) (rec : PointBytes) (s : State), s.alarmOf p ≠ .outOfService →
    exec (.writePoint (byteOf p.val) rec) s = .next (s.answered (.writePoint (byteOf p.val) rec) (.refusal .state))) ∧
  (∀ (p : PointId) (rec : PointBytes) (s : State), s.alarmOf p = .outOfService →
    (∀ c, decodePoint rec = some c → c.fits p = false) →
    exec (.writePoint (byteOf p.val) rec) s = .next (s.answered (.writePoint (byteOf p.val) rec) (.refusal .range))) ∧
  (∀ (p : PointId) (rec : PointBytes),
    (∃ c, decodePoint rec = some c ∧ c.fits p = true) ↔
      rec.kind.toNat ≤ 2 ∧ 1 ≤ rec.priority.toNat ∧ rec.priority.toNat ≤ 4 ∧
      (rec.source.toNat ≤ 31 ∨ rec.source = 0x40 ∨ rec.source = 0x41) ∧ rec.faultResponse.toNat ≤ 1 ∧
      (rec.group.toNat ≤ 7 ∨ rec.group = 0xFF) ∧ (rec.lamp.toNat ≤ 31 ∨ rec.lamp = 0xFF) ∧
      (rec.alertCue.toNat ≤ 31 ∨ rec.alertCue = 0xFF) ∧ (rec.ringbackCue.toNat ≤ 31 ∨ rec.ringbackCue = 0xFF) ∧
      rec.channel.toNat ≤ 1 ∧ (p.val < 62 → rec.source ≠ 0x41) ∧ (62 ≤ p.val → rec.kind = 0 ∧ rec.source = 0x41)) ∧
  (∀ (p : PointId) (rec : PointBytes) (c : PointConfig) (s : State), s.alarmOf p = .outOfService →
    decodePoint rec = some c → c.fits p = true →
    c.encode = [rec.kind, rec.priority, rec.source, rec.onDelay, rec.offDelay, rec.faultResponse, rec.group, rec.lamp,
      rec.alertCue, rec.ringbackCue, rec.channel] ∧
    exec (.writePoint (byteOf p.val) rec) s =
      .next (({ s with
          config := s.config.put p c
          filter := s.filter.put p
            { s.filterOf p with hostRaw := if c.source = .host then (s.filterOf p).hostRaw else false } } : State).answered
        (.writePoint (byteOf p.val) rec) (.okWith []))) ∧
  (∀ (b : Byte) (s : State), 63 < b.toNat →
    exec (.readPoint b) s = .next (s.answered (.readPoint b) (.refusal .range))) ∧
  (∀ (p : PointId) (s : State),
    exec (.readPoint (byteOf p.val)) s =
      .next (s.answered (.readPoint (byteOf p.val))
        (.okWith ((s.cfg p).encode ++ [(s.service[p]).code, (s.alarmOf p).code]))))

/-- SET SERVICE IN (R8, R9): a point in service is answered and left alone; a point out of service comes in, with its
qualification started from its source as it stands, and the faulted-line set follows, LINE_FAULT being set exactly when its
membership changes (R29). The order of the point before point 62 is the model's reading (notes/assumptions/5.md). -/
def Obligations.SetServiceInStartsQualification : Prop :=
  (∀ (b : Byte) (s : State), 63 < b.toNat →
    exec (.setServiceIn b) s = .next (s.answered (.setServiceIn b) (.refusal .range))) ∧
  (∀ (p : PointId) (s : State), s.service[p] = .inService →
    exec (.setServiceIn (byteOf p.val)) s = .next (s.answered (.setServiceIn (byteOf p.val)) (.okWith []))) ∧
  (∀ (p : PointId) (s : State), s.ConfigLegal → s.service[p] = .outService →
    ∃ t, exec (.setServiceIn (byteOf p.val)) s = .next t ∧ t.answer = some (.okWith []) ∧
      t.service = s.service.put p .inService ∧ t.config = s.config ∧ t.lines = s.lines ∧ t.shelves = s.shelves ∧
      (t.filterOf p).frozen = s.sourceFrozen p ∧
      (s.sourceFrozen p = true ∨ s.sourceRaw p = false →
        t.alarmOf p = .normal ∧ (t.filterOf p).raw = false ∧ (t.filterOf p).qualified = false ∧
          (t.filterOf p).onTimer = none ∧ (t.filterOf p).offTimer = none) ∧
      (s.sourceFrozen p = false → s.sourceRaw p = true → (s.cfg p).onDelay ≠ 0 →
        t.alarmOf p = .normal ∧ (t.filterOf p).raw = true ∧ (t.filterOf p).qualified = false ∧
          (t.filterOf p).onTimer = some ((s.cfg p).onDelay.toNat * 40000) ∧ (t.filterOf p).offTimer = none) ∧
      (s.sourceFrozen p = false → s.sourceRaw p = true → (s.cfg p).onDelay = 0 →
        (t.filterOf p).raw = true ∧ (t.filterOf p).qualified = true ∧
          t.alarmOf p = if isGeneral p ∧ 38 ≤ s.generalCount then .deferred else .alert) ∧
      (s.faulted = s.derivedFaulted → t.faulted = t.derivedFaulted ∧
        (t.flag .lineFault = true ↔ s.flag .lineFault = true ∨ ∃ n, ¬ (n ∈ t.faulted ↔ n ∈ s.faulted))))

/-- SET SERVICE OUT (R8, R10): a point out of service is answered and left alone; a point in service leaves the alarm
picture from whichever state it stands in, its qualification stops, and its host raw condition is kept; the faulted-line set
follows, LINE_FAULT being set exactly when its membership changes (R29). -/
def Obligations.SetServiceOutClearsPoint : Prop :=
  (∀ (b : Byte) (s : State), 63 < b.toNat →
    exec (.setServiceOut b) s = .next (s.answered (.setServiceOut b) (.refusal .range))) ∧
  (∀ (p : PointId) (s : State), s.service[p] = .outService →
    exec (.setServiceOut (byteOf p.val)) s = .next (s.answered (.setServiceOut (byteOf p.val)) (.okWith []))) ∧
  (∀ (p : PointId) (s : State), s.ConfigLegal → s.PictureLegal → s.service[p] = .inService →
    ∃ t, exec (.setServiceOut (byteOf p.val)) s = .next t ∧ t.answer = some (.okWith []) ∧
      t.service = s.service.put p .outService ∧ t.config = s.config ∧ t.alarmOf p = .outOfService ∧
      t.recordOf p = none ∧ p ∉ t.deferred ∧ (∀ e, e ∈ t.shelves ↔ e ∈ s.shelves ∧ e.point ≠ p) ∧
      t.filterOf p =
        { hostRaw := (s.filterOf p).hostRaw, raw := false, qualified := false, onTimer := none, offTimer := none,
          frozen := false } ∧
      t.flag .shelveExpired = s.flag .shelveExpired ∧
      (s.faulted = s.derivedFaulted → t.faulted = t.derivedFaulted ∧
        (t.flag .lineFault = true ↔ s.flag .lineFault = true ∨ ∃ n, ¬ (n ∈ t.faulted ↔ n ∈ s.faulted))))

/-- R16 and R26, and WRITE CLASS (R15): READ CLASS and READ THRESHOLDS report the class interval and the three levels,
refuse numbers out of range, and change nothing; WRITE CLASS writes the interval of its class, and nothing else. -/
def Obligations.ClassIntervalsAndThresholdReads : Prop :=
  (∀ (b i : Byte) (s : State), b.toNat < 1 ∨ 4 < b.toNat ∨ 240 < i.toNat →
    exec (.writeClass b i) s = .next (s.answered (.writeClass b i) (.refusal .range))) ∧
  (∀ (c : PriorityClass) (i : Byte) (s : State), i.toNat ≤ 240 →
    exec (.writeClass (byteOf (c.val + 1)) i) s =
      .next (({ s with classInterval := s.classInterval.put c i } : State).answered (.writeClass (byteOf (c.val + 1)) i)
        (.okWith []))) ∧
  (∀ (b : Byte) (s : State), b.toNat < 1 ∨ 4 < b.toNat →
    exec (.readClass b) s = .next (s.answered (.readClass b) (.refusal .range))) ∧
  (∀ (c : PriorityClass) (s : State),
    exec (.readClass (byteOf (c.val + 1))) s =
      .next (s.answered (.readClass (byteOf (c.val + 1))) (.okWith [s.classInterval[c]]))) ∧
  (∀ (b : Byte) (s : State), 3 < b.toNat →
    exec (.readThresholds b) s = .next (s.answered (.readThresholds b) (.refusal .range))) ∧
  (∀ (k : SetId) (s : State),
    exec (.readThresholds (byteOf k.val)) s =
      .next (s.answered (.readThresholds (byteOf k.val))
        (.okWith [(s.thresholds[k]).s, (s.thresholds[k]).a, (s.thresholds[k]).o])))

/-! ## Lines and qualification -/

/-- R19 and R20: the bands of a level and their classifications. -/
def Obligations.LevelsClassifyByBand : Prop :=
  ∀ (s : State) (l : LineRecord) (level : Byte),
    let t := s.thresholds[l.set]
    (l.mode = .supervised → level.toNat < t.s.toNat → s.classify l level = .wireShort) ∧
    (l.mode = .supervised → t.s.toNat ≤ level.toNat → level.toNat < t.a.toNat →
      s.classify l level = if l.polarity = .normal then .active else .inactive) ∧
    (l.mode = .supervised → t.s.toNat ≤ level.toNat → t.a.toNat ≤ level.toNat → level.toNat < t.o.toNat →
      s.classify l level = if l.polarity = .normal then .inactive else .active) ∧
    (l.mode = .supervised → t.s.toNat ≤ level.toNat → t.a.toNat ≤ level.toNat → t.o.toNat ≤ level.toNat →
      s.classify l level = .wireOpen) ∧
    (l.mode = .unsupervised → level.toNat < t.a.toNat →
      s.classify l level = if l.polarity = .normal then .active else .inactive) ∧
    (l.mode = .unsupervised → t.a.toNat ≤ level.toNat →
      s.classify l level = if l.polarity = .normal then .inactive else .active)

/-- LINE_SAMPLE (R17, R21, R27): the level becomes the last level; a classification on which it agrees with the last level
is adopted; and an adoption reaches every in-service point on the line, and no other point but 62 and 63, and no other line.
A point it freezes keeps its conditions and the time left of its timer, and one it frees or finds free goes on from the raw
condition it has: the timer resumes where the condition is the same, and else R31's table is taken (R28, R31). The
faulted-line set follows, and LINE_FAULT is set exactly when its membership changes (R29). -/
def Obligations.LineSampleAdopts : Prop :=
  ∀ (n : LineId) (level : Byte) (s : State), ∃ t, exec (.lineSample n level) s = .next t ∧
    t.lines = s.lines.put n
      { s.lines[n] with
        classification :=
          if (s.lines[n]).lastLevel.map (s.classify s.lines[n]) = some (s.classify s.lines[n] level) then
            s.classify s.lines[n] level
          else (s.lines[n]).classification
        lastLevel := some level } ∧
    t.config = s.config ∧ t.service = s.service ∧ t.thresholds = s.thresholds ∧ t.shelves = s.shelves ∧
    ((t.lines[n]).classification = (s.lines[n]).classification →
      t = { s with lines := s.lines.put n { s.lines[n] with lastLevel := some level } }) ∧
    (s.ConfigLegal → (t.lines[n]).classification ≠ (s.lines[n]).classification → ∀ p : PointId,
      (s.inService p = true → (s.cfg p).source = .line n → State.TakesLine s t p ∧
        (t.filterOf p).frozen = t.sourceFrozen p ∧
        (t.sourceFrozen p = false → (t.filterOf p).raw = (t.lines[n]).classification.present) ∧
        (t.sourceFrozen p = true → (t.filterOf p).raw = (s.filterOf p).raw)) ∧
      ((s.cfg p).source ≠ .line n → isGeneral p = true → t.filterOf p = s.filterOf p)) ∧
    (s.faulted = s.derivedFaulted → t.faulted = t.derivedFaulted ∧
      (t.flag .lineFault = true ↔ s.flag .lineFault = true ∨ ∃ m, ¬ (m ∈ t.faulted ↔ m ∈ s.faulted)))

/-- WRITE LINE and READ LINE (R23, R24): the settings are written as one change, the last level is classified under them at
once, each in-service point on the line takes a classification that changes (R27, R28, R31), and the faulted-line set is
derived again; an absent last level is reported as 0xFF (R182). The set holds exactly the SUPERVISED lines classified OPEN
or SHORT that are the source of an in-service point, and LINE_FAULT is set exactly when its membership changes (R29). -/
def Obligations.WriteAndReadLine : Prop :=
  (∀ (n : LineId) (s : State), n ∈ s.derivedFaulted ↔
    (s.lines[n]).mode = .supervised ∧
      ((s.lines[n]).classification = .wireOpen ∨ (s.lines[n]).classification = .wireShort) ∧
      ∃ p : PointId, s.service[p] = .inService ∧ (s.cfg p).source = .line n) ∧
  (∀ (b m q k : Byte) (s : State), 31 < b.toNat ∨ 1 < m.toNat ∨ 1 < q.toNat ∨ 3 < k.toNat →
    exec (.writeLine b m q k) s = .next (s.answered (.writeLine b m q k) (.refusal .range))) ∧
  (∀ (n : LineId) (m : LineMode) (q : Polarity) (k : SetId) (s : State),
    (s.lines[n]).mode = m → (s.lines[n]).polarity = q → (s.lines[n]).set = k →
    exec (.writeLine (byteOf n.val) m.code q.code (byteOf k.val)) s =
      .next (s.answered (.writeLine (byteOf n.val) m.code q.code (byteOf k.val)) (.okWith []))) ∧
  (∀ (n : LineId) (m : LineMode) (q : Polarity) (k : SetId) (s : State),
    ¬ ((s.lines[n]).mode = m ∧ (s.lines[n]).polarity = q ∧ (s.lines[n]).set = k) →
    ∃ t, exec (.writeLine (byteOf n.val) m.code q.code (byteOf k.val)) s = .next t ∧ t.answer = some (.okWith []) ∧
      t.lines = s.lines.put n
        { mode := m, polarity := q, set := k, lastLevel := (s.lines[n]).lastLevel
          classification := ((s.lines[n]).lastLevel.map (s.classify ⟨m, q, k, .inactive, none⟩)).getD
            (s.lines[n]).classification } ∧
      t.faulted = t.derivedFaulted ∧ t.config = s.config ∧ t.service = s.service ∧ t.thresholds = s.thresholds ∧
      (s.ConfigLegal → (t.lines[n]).classification ≠ (s.lines[n]).classification →
        ∀ p : PointId, s.inService p = true → (s.cfg p).source = .line n → State.TakesLine s t p) ∧
      (s.faulted = s.derivedFaulted →
        (t.flag .lineFault = true ↔ s.flag .lineFault = true ∨ ∃ i, ¬ (i ∈ t.faulted ↔ i ∈ s.faulted)))) ∧
  (∀ (b : Byte) (s : State), 31 < b.toNat →
    exec (.readLine b) s = .next (s.answered (.readLine b) (.refusal .range))) ∧
  (∀ (n : LineId) (s : State),
    exec (.readLine (byteOf n.val)) s =
      .next (s.answered (.readLine (byteOf n.val))
        (.okWith [(s.lines[n]).mode.code, (s.lines[n]).polarity.code, byteOf (s.lines[n]).set.val,
          (s.lines[n]).classification.code, yesNo (s.lines[n]).lastLevel.isSome,
          (s.lines[n]).lastLevel.getD 0xFF, yesNo (decide (n ∈ s.faulted))])))

/-- WRITE THRESHOLDS (R25): levels out of order are refused, levels held change nothing, and new levels classify the last
level of every line that names the set, and of no other line; each in-service point takes the classification of its line
that changes (R27, R28, R31); LINE_FAULT is set exactly when the membership of the faulted-line set changes (R29). -/
def Obligations.WriteThresholdsReclassifies : Prop :=
  (∀ (b x a o : Byte) (s : State), 3 < b.toNat ∨ a.toNat ≤ x.toNat ∨ o.toNat ≤ a.toNat →
    exec (.writeThresholds b x a o) s = .next (s.answered (.writeThresholds b x a o) (.refusal .range))) ∧
  (∀ (k : SetId) (x a o : Byte) (s : State), x.toNat < a.toNat → a.toNat < o.toNat → s.thresholds[k] = ⟨x, a, o⟩ →
    exec (.writeThresholds (byteOf k.val) x a o) s =
      .next (s.answered (.writeThresholds (byteOf k.val) x a o) (.okWith []))) ∧
  (∀ (k : SetId) (x a o : Byte) (s : State), x.toNat < a.toNat → a.toNat < o.toNat → s.thresholds[k] ≠ ⟨x, a, o⟩ →
    ∃ t, exec (.writeThresholds (byteOf k.val) x a o) s = .next t ∧ t.answer = some (.okWith []) ∧
      t.thresholds = s.thresholds.put k ⟨x, a, o⟩ ∧ t.config = s.config ∧ t.service = s.service ∧
      (∀ n : LineId, (s.lines[n]).set ≠ k → t.lines[n] = s.lines[n]) ∧
      (∀ n : LineId, (s.lines[n]).set = k →
        t.lines[n] =
          { s.lines[n] with
            classification := ((s.lines[n]).lastLevel.map (t.classify s.lines[n])).getD (s.lines[n]).classification }) ∧
      t.faulted = t.derivedFaulted ∧
      (s.ConfigLegal → ∀ (n : LineId) (p : PointId), (t.lines[n]).classification ≠ (s.lines[n]).classification →
        s.inService p = true → (s.cfg p).source = .line n → State.TakesLine s t p) ∧
      (s.faulted = s.derivedFaulted →
        (t.flag .lineFault = true ↔ s.flag .lineFault = true ∨ ∃ n, ¬ (n ∈ t.faulted ↔ n ∈ s.faulted))))

/-- ASSERT and RELEASE (R30, R31): the refusals, the commands that find the condition as they would set it, a point out of
service, and in service the cells of R31's table: a delay started, cancelled, or, when it is 0, an edge handed over. -/
def Obligations.HostConditionCommands : Prop :=
  (∀ (b : Byte) (s : State), 63 < b.toNat →
    exec (.assertPoint b) s = .next (s.answered (.assertPoint b) (.refusal .range)) ∧
    exec (.releasePoint b) s = .next (s.answered (.releasePoint b) (.refusal .range))) ∧
  (∀ (p : PointId) (s : State), (s.cfg p).source ≠ .host →
    exec (.assertPoint (byteOf p.val)) s = .next (s.answered (.assertPoint (byteOf p.val)) (.refusal .source)) ∧
    exec (.releasePoint (byteOf p.val)) s = .next (s.answered (.releasePoint (byteOf p.val)) (.refusal .source))) ∧
  (∀ (p : PointId) (s : State), (s.cfg p).source = .host →
    let f := s.filterOf p
    let set := fun f' : Filter => (s.setFilter p f').answered (.assertPoint (byteOf p.val)) (.okWith [])
    let clear := fun f' : Filter => (s.setFilter p f').answered (.releasePoint (byteOf p.val)) (.okWith [])
    (f.hostRaw = true →
      exec (.assertPoint (byteOf p.val)) s = .next (s.answered (.assertPoint (byteOf p.val)) (.okWith []))) ∧
    (f.hostRaw = false →
      exec (.releasePoint (byteOf p.val)) s = .next (s.answered (.releasePoint (byteOf p.val)) (.okWith []))) ∧
    (f.hostRaw = false → s.inService p = false →
      exec (.assertPoint (byteOf p.val)) s = .next (set { f with hostRaw := true })) ∧
    (f.hostRaw = true → s.inService p = false →
      exec (.releasePoint (byteOf p.val)) s = .next (clear { f with hostRaw := false })) ∧
    (f.hostRaw = false → s.inService p = true → f.raw = false → f.qualified = false → (s.cfg p).onDelay ≠ 0 →
      exec (.assertPoint (byteOf p.val)) s =
        .next (set { f with hostRaw := true, raw := true, onTimer := some ((s.cfg p).onDelay.toNat * 40000) })) ∧
    (f.hostRaw = false → s.inService p = true → f.raw = false → f.qualified = true →
      exec (.assertPoint (byteOf p.val)) s = .next (set { f with hostRaw := true, raw := true, offTimer := none })) ∧
    (f.hostRaw = true → s.inService p = true → f.raw = true → f.qualified = true → (s.cfg p).offDelay ≠ 0 →
      exec (.releasePoint (byteOf p.val)) s =
        .next (clear { f with hostRaw := false, raw := false, offTimer := some ((s.cfg p).offDelay.toNat * 40000) })) ∧
    (f.hostRaw = true → s.inService p = true → f.raw = true → f.qualified = false →
      exec (.releasePoint (byteOf p.val)) s = .next (clear { f with hostRaw := false, raw := false, onTimer := none })) ∧
    (f.hostRaw = false → s.inService p = true → f.raw = false → f.qualified = false → (s.cfg p).onDelay = 0 →
      exec (.assertPoint (byteOf p.val)) s =
        .next (((s.setFilter p
          { hostRaw := true, raw := true, qualified := true, onTimer := none, offTimer := none,
            frozen := f.frozen }).rise p).answered (.assertPoint (byteOf p.val)) (.okWith []))) ∧
    (f.hostRaw = true → s.inService p = true → f.raw = true → f.qualified = true → (s.cfg p).offDelay = 0 →
      exec (.releasePoint (byteOf p.val)) s =
        .next (((s.setFilter p
          { hostRaw := false, raw := false, qualified := false, onTimer := none, offTimer := none,
            frozen := f.frozen }).fall p).answered (.releasePoint (byteOf p.val)) (.okWith []))))

/-- ON_DELAY_EXPIRY and OFF_DELAY_EXPIRY (R28, R32): a running, unfrozen timer hands its edge over and stops; an idle or
frozen one has no expiry. That an expiry row takes effect whenever its timer runs, and is nothing otherwise, is the model's
choice (notes/assumptions/3.md). -/
def Obligations.DelayExpiriesHandEdges : Prop :=
  ∀ (p : PointId) (s : State),
    ((s.filterOf p).onTimer ≠ none → (s.filterOf p).frozen = false →
      exec (.onDelayExpiry p) s =
        .next ((s.setFilter p { s.filterOf p with qualified := true, onTimer := none }).rise p)) ∧
    ((s.filterOf p).onTimer = none ∨ (s.filterOf p).frozen = true → exec (.onDelayExpiry p) s = .next s) ∧
    ((s.filterOf p).offTimer ≠ none → (s.filterOf p).frozen = false →
      exec (.offDelayExpiry p) s =
        .next ((s.setFilter p { s.filterOf p with qualified := false, offTimer := none }).fall p)) ∧
    ((s.filterOf p).offTimer = none ∨ (s.filterOf p).frozen = true → exec (.offDelayExpiry p) s = .next s)

/-! ## The alarm sequences and the roster -/

/-- A rise that finds NORMAL with room in the roster (R39, R63, R66, R67, R68, R86): the point is admitted in ALERT with a
fresh record, after the records of its class and before the next class, and the group's slot goes to it exactly when the
group is enabled, armed and empty. -/
def Obligations.RiseAdmitsPoint : Prop :=
  ∀ (p : PointId) (s : State), s.alarmOf p = .normal → isInternal p = true ∨ s.generalCount < 38 → s.recordOf p = none →
    (∀ q : PointId, (s.rise p).alarmOf q = if q = p then .alert else s.alarmOf q) ∧
    (∃ l₁ l₂, s.roster = l₁ ++ l₂ ∧
      (s.rise p).roster = l₁ ++
        { point := p, stamp := s.nextStamp, state := .alert, firstOut := (s.slotFor p).isSome, recurrence := 0,
          silenced := false, sounded := false, ackSource := none, reannounce := none, age := 0, ageClock := 4000000 } ::
        l₂ ∧
      (∀ x ∈ l₁, s.classOf x ≤ (s.cfg p).priority) ∧ (∀ x ∈ l₂.head?, (s.cfg p).priority < s.classOf x)) ∧
    (∀ g : GroupId, s.slotFor p = some g ↔ (s.cfg p).group = some g ∧ (s.groups[g]).firstOutEnabled = true ∧
      (s.groups[g]).armed = true ∧ (s.groups[g]).slot = none) ∧
    (∀ g : GroupId, (s.rise p).groups[g] =
      if s.slotFor p = some g then ⟨(s.groups[g]).firstOutEnabled, some p, false⟩ else s.groups[g]) ∧
    (s.rise p).stampCounter = s.nextStamp.next ∧
    (s.rise p).generalCount = (if isGeneral p then s.generalCount + 1 else s.generalCount) ∧
    (s.rise p).deferred = s.deferred ∧ (s.rise p).filter = s.filter ∧ (s.rise p).flag .newAlert = true ∧
    (∀ e : Event, e ∉ [.newAlert, .cueFallback, .channelAIdle, .channelBIdle] → (s.rise p).flag e = s.flag e) ∧
    State.PictureFrame s (s.rise p)

/-- A rise of a general point that finds NORMAL with 38 general records (R39, R67, R70, R75): the point is deferred behind
the entries of its class, without a record, and the first deferral makes point 63's raw condition present. -/
def Obligations.RiseDefersPoint : Prop :=
  ∀ (p : PointId) (s : State), s.alarmOf p = .normal → isGeneral p = true → 38 ≤ s.generalCount →
    (s.rise p).alarmOf p = .deferred ∧
    (∀ q : PointId, q ≠ p → q ≠ 63 → (s.rise p).alarmOf q = s.alarmOf q ∧ (s.rise p).filterOf q = s.filterOf q) ∧
    (∃ l₁ l₂, s.deferred = l₁ ++ l₂ ∧ (s.rise p).deferred = l₁ ++ p :: l₂ ∧
      (∀ q ∈ l₁, (s.cfg q).priority ≤ (s.cfg p).priority) ∧ (∀ q ∈ l₂.head?, (s.cfg p).priority < (s.cfg q).priority)) ∧
    (s.rise p).generalCount = s.generalCount ∧ (s.rise p).flag .deferred = true ∧
    (s.deferred ≠ [] →
      s.rise p = ({ s.setAlarm p .deferred with deferred := (s.rise p).deferred }).raise .deferred) ∧
    (s.deferred = [] → s.inService 63 = true → ((s.rise p).filterOf 63).raw = true) ∧
    State.PictureFrame s (s.rise p)

/-- A rise that finds a standing alarm (R40, R41, R42): in RETURNED (AUTO, MANUAL), AWAIT_RESET (MANUAL) and ALERT (PULSE)
the same record recurs in its place, with no new stamp and no mark taken; in every other state nothing changes. The
recurrence renews a SINGLE or FIRM pass of the record's alert_cue that goes on (R157), whether its sounded flag stood or
not, and by the policy the pass began with: the model's readings (notes/assumptions/18.md, 34.md and 36.md). -/
def Obligations.RiseOnStandingAlarm : Prop :=
  ∀ (p : PointId) (s : State),
    (s.alarmOf p = .returned ∧ (s.cfg p).kind ≠ .pulse ∨ s.alarmOf p = .awaitReset ∧ (s.cfg p).kind = .manual ∨
        s.alarmOf p = .alert ∧ (s.cfg p).kind = .pulse →
      (∀ q : PointId, (s.rise p).alarmOf q = if q = p then .alert else s.alarmOf q) ∧
      (s.rise p).roster = s.roster.map (fun r =>
        if r.point = p then
          { r with state := .alert, recurrence := min (r.recurrence + 1) 255, silenced := false, sounded := false,
                   reannounce := none, ackSource := none }
        else r) ∧
      (s.rise p).stampCounter = s.stampCounter ∧ (s.rise p).groups = s.groups ∧ (s.rise p).deferred = s.deferred ∧
      (s.rise p).generalCount = s.generalCount ∧ (s.rise p).filter = s.filter ∧
      (s.rise p).flag .newAlert = s.flag .newAlert ∧ State.PictureFrame s (s.rise p) ∧
      State.Renews s (s.rise p) (s.PassFor p (s.cfg p).alertCue)) ∧
    (s.alarmOf p = .deferred ∨ s.alarmOf p = .shelved ∨ s.alarmOf p = .acked ∨ s.alarmOf p = .outOfService ∨
        s.alarmOf p = .alert ∧ (s.cfg p).kind ≠ .pulse ∨ s.alarmOf p = .returned ∧ (s.cfg p).kind = .pulse ∨
        s.alarmOf p = .awaitReset ∧ (s.cfg p).kind ≠ .manual →
      s.rise p = s)

/-- A fall (R43 to R46): ALERT goes to RETURNED with its sound freed; an acknowledged AUTO alarm is retired; an acknowledged
MANUAL alarm awaits its reset with only its state written; a deferred point leaves the list; a PULSE point, and any other
state, takes no notice. The return renews a SINGLE or FIRM pass that goes on, where the ringback_cue is the cue the pass was
demanded with (R157), by the model's readings (notes/assumptions/18.md, 34.md and 36.md). -/
def Obligations.FallOnStandingAlarm : Prop :=
  ∀ (p : PointId) (s : State),
    ((s.cfg p).kind = .pulse → s.fall p = s) ∧
    ((s.cfg p).kind ≠ .pulse → s.alarmOf p = .alert →
      (∀ q : PointId, (s.fall p).alarmOf q = if q = p then .returned else s.alarmOf q) ∧
      (s.fall p).roster = s.roster.map (fun r =>
        if r.point = p then { r with state := .returned, silenced := false, sounded := false, reannounce := none } else r) ∧
      (s.fall p).flag .returned = true ∧ (s.fall p).stampCounter = s.stampCounter ∧ (s.fall p).groups = s.groups ∧
      (s.fall p).deferred = s.deferred ∧ (s.fall p).filter = s.filter ∧ State.PictureFrame s (s.fall p) ∧
      State.Renews s (s.fall p) (s.PassFor p (s.cfg p).ringbackCue)) ∧
    ((s.cfg p).kind = .auto → s.alarmOf p = .acked → s.fall p = s.retire State.handOverflow p .normal) ∧
    ((s.cfg p).kind = .manual → s.alarmOf p = .acked →
      s.fall p = { s with
        alarm := s.alarm.put p .awaitReset
        roster := s.roster.map fun r => if r.point = p then { r with state := .awaitReset } else r }) ∧
    ((s.cfg p).kind ≠ .pulse → s.alarmOf p = .deferred →
      (s.fall p).deferred = s.deferred.erase p ∧ (p ≠ 63 → (s.fall p).alarmOf p = .normal) ∧
      (s.fall p).generalCount = s.generalCount ∧ (s.fall p).stampCounter = s.stampCounter ∧
      (s.deferred = [p] → p ≠ 63 → s.inService 63 = true → ((s.fall p).filterOf 63).raw = false) ∧
      State.PictureFrame s (s.fall p)) ∧
    ((s.cfg p).kind ≠ .pulse →
      s.alarmOf p = .normal ∨ s.alarmOf p = .returned ∨ s.alarmOf p = .awaitReset ∨ s.alarmOf p = .shelved ∨
        s.alarmOf p = .outOfService →
      s.fall p = s)

/-- A retirement (R58, R72, R73): the record goes, its first-out slot empties, and when general points wait the head of the
deferred list is admitted within the same claim, as a new alarm that does not take the slot; with nobody waiting, or for an
internal point, nobody is admitted. The order of the consequences is the model's reading (notes/assumptions/5.md). -/
def Obligations.RetirementAdmitsHead : Prop :=
  ∀ (p : PointId) (r : RosterRecord) (a : AlarmState) (s : State), s.ConfigLegal → s.PictureLegal → s.recordOf p = some r →
    a = .normal ∨ a = .shelved ∨ a = .outOfService →
    let t := s.retire State.handOverflow p a
    t.alarmOf p = a ∧ t.recordOf p = none ∧ State.PictureFrame s t ∧
    (∀ g : GroupId, (s.groups[g]).slot = some p → (t.groups[g]).slot = none) ∧
    (s.deferred = [] ∨ isInternal p = true →
      t.roster = s.roster.filter (fun x => x.point ≠ p) ∧ t.deferred = s.deferred ∧ t.stampCounter = s.stampCounter ∧
      t.filter = s.filter ∧ (∀ q : PointId, q ≠ p → t.alarmOf q = s.alarmOf q) ∧
      t.generalCount = if isGeneral p then s.generalCount - 1 else s.generalCount) ∧
    (∀ (h : PointId) (rest : List PointId), s.deferred = h :: rest → isGeneral p = true →
      t.alarmOf h = .alert ∧ t.deferred = rest ∧ t.generalCount = 38 ∧ t.flag .newAlert = true ∧
      (∃ r' ∈ t.roster, r'.point = h ∧ r'.state = .alert ∧ r'.recurrence = 0 ∧ r'.age = 0 ∧ r'.ackSource = none ∧
        ∀ x ∈ s.roster, x.point ≠ p → x.stamp ≠ r'.stamp) ∧
      (∀ q : PointId, q ≠ p → q ≠ h → q ≠ 63 → t.alarmOf q = s.alarmOf q))

/-- Stamps (R66): the stamp the next admission takes is not 0 and no record holds it; when the counter's own value is free,
it is that value, and else the first in counting order, from 2³²−1 to 1, that no record holds. -/
def Obligations.NextStampIsFree : Prop :=
  ∀ s : State, s.roster.length ≤ 40 → s.stampCounter ≠ 0 →
    s.nextStamp ≠ 0 ∧ (∀ r ∈ s.roster, r.stamp ≠ s.nextStamp) ∧
    ((∀ r ∈ s.roster, r.stamp ≠ s.stampCounter) → s.nextStamp = s.stampCounter) ∧
    s.nextStamp.next ≠ 0 ∧
    (∀ st : Stamp, st.next = if st = 0xFFFFFFFF then 1 else st + 1) ∧
    ∃ n : Nat, n ≤ s.roster.length ∧ s.nextStamp = Stamp.next^[n] s.stampCounter ∧
      ∀ m : Nat, m < n → ∃ r ∈ s.roster, r.stamp = Stamp.next^[m] s.stampCounter

/-- ACK (R49): its checks in order, each with its answer; a record that passes them is acknowledged with source HOST and its
stamp is answered with the state it leaves its point in. -/
def Obligations.AckChecksInOrder : Prop :=
  ∀ (e : Byte) (st : Stamp) (s : State),
    (∀ b : Byte, 63 < b.toNat ∨ e ≠ 0 ∧ e ≠ 3 ∧ e ≠ 5 →
      exec (.ack b e st) s = .next (s.answered (.ack b e st) (.refusal .range))) ∧
    (e = 0 ∨ e = 3 ∨ e = 5 → ∀ p : PointId,
      let c := Instr.ack (byteOf p.val) e st
      (s.recordOf p = none → e = 0 → st = 0 → exec c s = .next (s.answered c (.refusal .state))) ∧
      (s.recordOf p = none → e ≠ 0 ∨ st ≠ 0 →
        exec c s = .next (s.answered c ⟨.stale, [0, 0, 0, 0, (s.alarmOf p).code]⟩)) ∧
      (∀ r : RosterRecord, s.recordOf p = some r →
        (st ≠ 0 ∧ st ≠ r.stamp ∨ e = 3 ∧ r.state ≠ .alert ∨ e = 5 ∧ r.state ≠ .returned →
          exec c s = .next (s.answered c ⟨.stale, stampBytes r.stamp ++ [(s.alarmOf p).code]⟩)) ∧
        (st = 0 ∨ st = r.stamp → e = 0 → r.state = .acked ∨ r.state = .awaitReset →
          exec c s = .next (s.answered c (.refusal .state))) ∧
        (st = 0 ∨ st = r.stamp → e = 0 ∧ r.state = .alert ∨ e = 0 ∧ r.state = .returned ∨ e = 3 ∧ r.state = .alert ∨
            e = 5 ∧ r.state = .returned →
          exec c s = .next ((s.acknowledge .host p).answered c
            (.okWith (stampBytes r.stamp ++ [((s.acknowledge .host p).alarmOf p).code]))))))

/-- Acknowledging a record (R48): by kind and state, the record is kept with its source written and its silence ended, or
retired; in every other state nothing changes. -/
def Obligations.AcknowledgementByKind : Prop :=
  ∀ (p : PointId) (src : AckSource) (s : State),
    let t := s.acknowledge src p
    let kept := fun st : RecordState =>
      (∀ q : PointId, t.alarmOf q = if q = p then st.toAlarm else s.alarmOf q) ∧
      t.roster = s.roster.map (fun r =>
        if r.point = p then { r with state := st, ackSource := some src, silenced := false, reannounce := none } else r) ∧
      t.stampCounter = s.stampCounter ∧ t.groups = s.groups ∧ t.deferred = s.deferred ∧ t.filter = s.filter ∧
      State.PictureFrame s t
    ((s.cfg p).kind ≠ .pulse → s.alarmOf p = .alert → kept .acked) ∧
    ((s.cfg p).kind = .manual → s.alarmOf p = .returned → kept .awaitReset) ∧
    ((s.cfg p).kind = .auto → s.alarmOf p = .returned → t = s.retire State.handOverflow p .normal) ∧
    ((s.cfg p).kind = .pulse → s.alarmOf p = .alert → t = s.retire State.handOverflow p .normal) ∧
    (s.alarmOf p ≠ .alert → s.alarmOf p ≠ .returned ∨ (s.cfg p).kind = .pulse → t = s)

/-- ACK ALL and ACK GROUP (R50, R51): each answers the count of the records it finds in ALERT or RETURNED, and afterwards
every one of those is acknowledged or retired; a record admitted meanwhile stands in ALERT, unacknowledged. Until the last
record has been taken no edge reaches any point: no qualification changes, and every other record is as it was; only then
is point 63 handed its condition, if the deferred list has emptied (R75; notes/assumptions/28.md). -/
def Obligations.AckAllAndGroupTakeStanding : Prop :=
  (∀ s : State, exec .ackAll s =
    .next ((s.acknowledgeAll .host fun _ => true).answered .ackAll
      (.okWith [byteOf (s.roster.countP RosterRecord.unacked)]))) ∧
  (∀ (b : Byte) (s : State), 7 < b.toNat →
    exec (.ackGroup b) s = .next (s.answered (.ackGroup b) (.refusal .range))) ∧
  (∀ (g : GroupId) (s : State), exec (.ackGroup (byteOf g.val)) s =
    .next ((s.acknowledgeAll .host (s.inGroup g)).answered (.ackGroup (byteOf g.val))
      (.okWith [byteOf (s.roster.countP fun r => r.unacked && s.inGroup g r)]))) ∧
  (∀ (src : AckSource) (sel : RosterRecord → Bool) (s : State), s.ConfigLegal → s.PictureLegal →
    sel = (fun _ => true) ∨ (∃ g, sel = s.inGroup g) →
    let t := s.acknowledgeAll src sel
    State.PictureFrame s t ∧
    (∀ r ∈ s.roster, r.unacked = true → sel r = true →
      (∃ r' ∈ t.roster, r'.point = r.point ∧ r'.stamp = r.stamp ∧ r'.unacked = false ∧ r'.ackSource = some src) ∨
      (t.recordOf r.point = none ∧ t.alarmOf r.point = .normal)) ∧
    (∀ r ∈ s.roster, r.point ≠ 63 → r.unacked = false ∨ sel r = false → r ∈ t.roster) ∧
    (∀ r' ∈ t.roster, (∀ r ∈ s.roster, r.point ≠ r'.point ∨ r.stamp ≠ r'.stamp) →
      r'.state = .alert ∧ r'.ackSource = none) ∧
    ∃ u : State, u.filter = s.filter ∧ State.PictureFrame s u ∧ u.flag .returned = s.flag .returned ∧
      (∀ r ∈ s.roster, r.unacked = false ∨ sel r = false → r ∈ u.roster) ∧
      (∀ r ∈ s.roster, r.unacked = true → sel r = true →
        let kept := fun st : RecordState => ∃ r' ∈ u.roster, r'.point = r.point ∧ r'.stamp = r.stamp ∧ r'.state = st ∧
          r'.ackSource = some src
        let retired := u.recordOf r.point = none ∧ u.alarmOf r.point = .normal
        (r.state = .alert → (s.cfg r.point).kind ≠ .pulse → kept .acked) ∧
        (r.state = .alert → (s.cfg r.point).kind = .pulse → retired) ∧
        (r.state = .returned → (s.cfg r.point).kind = .manual → kept .awaitReset) ∧
        (r.state = .returned → (s.cfg r.point).kind = .auto → retired)) ∧
      t = if s.deferred ≠ [] ∧ u.deferred = [] then u.handOverflow else u)

/-- RESET and RESET ALL (R52, R53): RESET retires the record of a point in AWAIT_RESET and refuses any other state; RESET
ALL answers the count of the records in AWAIT_RESET and leaves every one of their points in NORMAL; until the last has been
retired no edge reaches any point, and only then is point 63 handed its condition, if the deferred list has emptied (R75;
notes/assumptions/28.md). -/
def Obligations.ResetsRetireAwaiting : Prop :=
  (∀ (b : Byte) (s : State), 63 < b.toNat → exec (.reset b) s = .next (s.answered (.reset b) (.refusal .range))) ∧
  (∀ (p : PointId) (s : State), s.alarmOf p ≠ .awaitReset →
    exec (.reset (byteOf p.val)) s = .next (s.answered (.reset (byteOf p.val)) (.refusal .state))) ∧
  (∀ (p : PointId) (s : State), s.alarmOf p = .awaitReset →
    exec (.reset (byteOf p.val)) s =
      .next ((s.retire State.handOverflow p .normal).answered (.reset (byteOf p.val)) (.okWith []))) ∧
  (∀ s : State, ∃ t, exec .resetAll s =
      .next (t.answered .resetAll (.okWith [byteOf (s.roster.countP fun r => r.state == .awaitReset)])) ∧
    State.PictureFrame s t ∧
    (s.ConfigLegal → s.PictureLegal →
      (∀ p : PointId, s.alarmOf p = .awaitReset → t.alarmOf p = .normal ∧ t.recordOf p = none) ∧
      (∀ r ∈ s.roster, r.point ≠ 63 → r.state ≠ .awaitReset → r ∈ t.roster) ∧
      ∃ u : State, u.filter = s.filter ∧ State.PictureFrame s u ∧ u.flag .returned = s.flag .returned ∧
        (∀ r ∈ s.roster, r.state ≠ .awaitReset → r ∈ u.roster) ∧
        (∀ p : PointId, s.alarmOf p = .awaitReset → u.alarmOf p = .normal ∧ u.recordOf p = none) ∧
        t = if s.deferred ≠ [] ∧ u.deferred = [] then u.handOverflow else u))

/-- READ RECORD and FIRST UNACKED (R76, R78, R186): a point without a record is refused with STATE; otherwise the record's
position and its thirteen bytes are answered; FIRST UNACKED answers the first record in ALERT or RETURNED, or that there is
none. -/
def Obligations.RecordReads : Prop :=
  (∀ (b : Byte) (s : State), 63 < b.toNat →
    exec (.readRecord b) s = .next (s.answered (.readRecord b) (.refusal .range))) ∧
  (∀ (p : PointId) (s : State), (∀ r ∈ s.roster, r.point ≠ p) →
    exec (.readRecord (byteOf p.val)) s = .next (s.answered (.readRecord (byteOf p.val)) (.refusal .state))) ∧
  (∀ (i : Nat) (r : RosterRecord) (s : State), s.roster[i]? = some r → (s.roster.map RosterRecord.point).Nodup →
    exec (.readRecord (byteOf r.point.val)) s =
      .next (s.answered (.readRecord (byteOf r.point.val)) (.okWith (byteOf i :: r.encode))) ∧
    (r.unacked = true → (∀ x ∈ s.roster.take i, x.unacked = false) →
      exec .firstUnacked s = .next (s.answered .firstUnacked (.okWith (1 :: byteOf i :: r.encode))))) ∧
  (∀ s : State, (∀ r ∈ s.roster, r.unacked = false) →
    exec .firstUnacked s = .next (s.answered .firstUnacked (.okWith [0]))) ∧
  (∀ r : RosterRecord, ∃ b₃ b₂ b₁ b₀ h₁ l₁ h₂ l₂ : Byte,
    r.encode = [byteOf r.point.val, b₃, b₂, b₁, b₀, r.state.toAlarm.code,
      byteOf (r.firstOut.toNat + 2 * r.silenced.toNat + 4 * r.sounded.toNat), byteOf r.recurrence,
      ackSourceCode r.ackSource, h₁, l₁, h₂, l₂] ∧
    stampFrom b₃ b₂ b₁ b₀ = r.stamp ∧ halfFrom h₂ l₂ = BitVec.ofNat 16 r.age ∧
    (r.reannounce = none → halfFrom h₁ l₁ = 0) ∧
    (∀ n, r.reannounce = some n → halfFrom h₁ l₁ = BitVec.ofNat 16 ((n + 3999999) / 4000000)))

/-- LIST ROSTER, READ DEFERRED and LIST SHELVED (R77, R80, R101): a count and the entries in list order, the roster four
records at a time, from one moment; nothing changes. That a start position three below the count gives the three records that
exist, where R77 speaks of four, is the model's choice (notes/assumptions/29.md). -/
def Obligations.ListReads : Prop :=
  (∀ (b : Byte) (s : State), ∃ page : List RosterRecord,
    exec (.listRoster b) s =
      .next (s.answered (.listRoster b) (.okWith (byteOf s.roster.length :: page.flatMap RosterRecord.encode))) ∧
    page.length = min 4 (s.roster.length - b.toNat) ∧
    (∀ i, i < page.length → page[i]? = s.roster[b.toNat + i]?)) ∧
  (∀ s : State, exec .readDeferred s =
    .next (s.answered .readDeferred
      (.okWith (byteOf s.deferred.length :: s.deferred.map fun p => byteOf p.val)))) ∧
  (∀ s : State, ∃ entries : List (List Byte),
    exec .listShelved s =
      .next (s.answered .listShelved (.okWith (byteOf s.shelves.length :: entries.flatten))) ∧
    entries.length = s.shelves.length ∧
    (∀ (i : Nat) (e : ShelveEntry), s.shelves[i]? = some e → ∃ h l : Byte, entries[i]? = some [byteOf e.point.val, h, l] ∧
      halfFrom h l = BitVec.ofNat 16 ((e.timeLeft + 3999999) / 4000000)))

/-- READ SUMMARY (R79): eight state counts that sum to 64, four class counts that sum to the roster count, the deferred,
shelve and free-place counts; in a consistent picture the deferred and shelve counts are those of the points in DEFERRED and
SHELVED, the counts of the four record-holding states sum to the roster count, and no place is free while a point waits. -/
def Obligations.SummaryCounts : Prop :=
  ∀ s : State,
    exec .readSummary s = .next (s.answered .readSummary (.okWith
      [byteOf (s.countIn .outOfService), byteOf (s.countIn .normal), byteOf (s.countIn .deferred), byteOf (s.countIn .alert),
        byteOf (s.countIn .acked), byteOf (s.countIn .returned), byteOf (s.countIn .awaitReset), byteOf (s.countIn .shelved),
        byteOf (s.countClass 0), byteOf (s.countClass 1), byteOf (s.countClass 2), byteOf (s.countClass 3),
        byteOf s.deferred.length, byteOf s.shelves.length, byteOf (38 - s.generalCount)])) ∧
    (∀ a : AlarmState, s.countIn a = (List.finRange 64).countP fun p : PointId => decide (s.alarmOf p = a)) ∧
    s.countIn .outOfService + s.countIn .normal + s.countIn .deferred + s.countIn .alert + s.countIn .acked +
      s.countIn .returned + s.countIn .awaitReset + s.countIn .shelved = 64 ∧
    s.countClass 0 + s.countClass 1 + s.countClass 2 + s.countClass 3 = s.roster.length ∧
    (s.PictureLegal → s.countIn .deferred = s.deferred.length ∧ s.countIn .shelved = s.shelves.length ∧
      s.countIn .alert + s.countIn .acked + s.countIn .returned + s.countIn .awaitReset = s.roster.length ∧
      (s.deferred ≠ [] → 38 - s.generalCount = 0))

/-- AGE_INCREMENT and REANNOUNCE_EXPIRY (R64, R74, R107): the age goes up by one and stops at 65535; a running
reannunciation timer ends the record's silence and its sounded flag, and an expiry named by a stamp that does not stand, or
whose timer does not run, is discarded. The expiry renews a SINGLE or FIRM pass for the record that goes on, where the cue
of its state is the one the pass was demanded with (R157), by the model's readings (notes/assumptions/18.md, 34.md and
36.md). That the channels may set their flags within the expiry, where R107 has it set none, is the model's choice
(notes/assumptions/35.md). That the rows take effect whenever their timers run is the model's choice, and so is the record's
clock (notes/assumptions/3.md and 23.md). -/
def Obligations.RecordTimers : Prop :=
  (∀ (p : PointId) (s : State), exec (.ageIncrement p) s =
    .next { s with roster := s.roster.map fun r =>
      if r.point = p then { r with age := min (r.age + 1) 65535, ageClock := 4000000 } else r }) ∧
  (∀ (p : PointId) (st : Stamp) (r : RosterRecord) (s : State), s.recordOf p = some r → r.stamp = st → r.reannounce ≠ none →
    ∃ t, exec (.reannounceExpiry p st) s = .next t ∧
      t.roster = s.roster.map (fun x =>
        if x.point = p ∧ x.stamp = st then { x with silenced := false, sounded := false, reannounce := none } else x) ∧
      State.SoundFrame { s with roster := t.roster } t ∧
      (r.state = .alert → State.Renews s t (s.PassFor p (s.cfg p).alertCue)) ∧
      (r.state = .returned → State.Renews s t (s.PassFor p (s.cfg p).ringbackCue))) ∧
  (∀ (p : PointId) (st : Stamp) (s : State), (∀ r, s.recordOf p = some r → r.stamp ≠ st ∨ r.reannounce = none) →
    exec (.reannounceExpiry p st) s = .next s)

/-! ## Groups, shelving and silencing -/

/-- WRITE GROUP (R89): a value held changes nothing; to no, the slot empties, its mark is cleared and armed stays; to yes,
armed is yes exactly when the group is quiet. -/
def Obligations.WriteGroupSetsFirstOut : Prop :=
  (∀ (b v : Byte) (s : State), 7 < b.toNat ∨ 1 < v.toNat →
    exec (.writeGroup b v) s = .next (s.answered (.writeGroup b v) (.refusal .range))) ∧
  (∀ (g : GroupId) (v : Bool) (s : State), (s.groups[g]).firstOutEnabled = v →
    exec (.writeGroup (byteOf g.val) (yesNo v)) s =
      .next (s.answered (.writeGroup (byteOf g.val) (yesNo v)) (.okWith []))) ∧
  (∀ (g : GroupId) (s : State), (s.groups[g]).firstOutEnabled = true →
    exec (.writeGroup (byteOf g.val) 0) s =
      .next (({ s with
          groups := s.groups.put g ⟨false, none, (s.groups[g]).armed⟩
          roster := s.roster.map fun r =>
            if (s.groups[g]).slot = some r.point then { r with firstOut := false } else r } : State).answered
        (.writeGroup (byteOf g.val) 0) (.okWith []))) ∧
  (∀ (g : GroupId) (s : State), (s.groups[g]).firstOutEnabled = false →
    exec (.writeGroup (byteOf g.val) 1) s =
      .next (({ s with groups := s.groups.put g ⟨true, (s.groups[g]).slot, s.quiet g⟩ } : State).answered
        (.writeGroup (byteOf g.val) 1) (.okWith []))) ∧
  (∀ (g : GroupId) (s : State), s.quiet g = true ↔ ∀ p : PointId, (s.cfg p).group = some g →
    s.alarmOf p = .outOfService ∨ s.alarmOf p = .normal ∨ s.alarmOf p = .shelved)

/-- READ GROUP and CLEAR FIRST-OUT (R90, R91): the four items from one moment; and the slot emptied, its mark cleared, the
former holder answered, the group armed if it is quiet. -/
def Obligations.GroupReadAndClear : Prop :=
  (∀ (b : Byte) (s : State), 7 < b.toNat →
    exec (.readGroup b) s = .next (s.answered (.readGroup b) (.refusal .range)) ∧
    exec (.clearFirstOut b) s = .next (s.answered (.clearFirstOut b) (.refusal .range))) ∧
  (∀ (g : GroupId) (s : State), (s.groups[g]).slot = none →
    exec (.readGroup (byteOf g.val)) s =
      .next (s.answered (.readGroup (byteOf g.val))
        (.okWith [yesNo (s.groups[g]).firstOutEnabled, yesNo (s.groups[g]).armed, yesNo (s.quiet g), 0xFF, 0, 0, 0, 0]))) ∧
  (∀ (g : GroupId) (p : PointId) (r : RosterRecord) (s : State), (s.groups[g]).slot = some p → s.recordOf p = some r →
    exec (.readGroup (byteOf g.val)) s =
      .next (s.answered (.readGroup (byteOf g.val))
        (.okWith ([yesNo (s.groups[g]).firstOutEnabled, yesNo (s.groups[g]).armed, yesNo (s.quiet g), byteOf p.val] ++
          stampBytes r.stamp)))) ∧
  (∀ (g : GroupId) (s : State), ∃ former : Byte,
    exec (.clearFirstOut (byteOf g.val)) s =
      .next (({ s with
          groups := s.groups.put g ⟨(s.groups[g]).firstOutEnabled, none, (s.groups[g]).armed || s.quiet g⟩
          roster := s.roster.map fun r =>
            if (s.groups[g]).slot = some r.point then { r with firstOut := false } else r } : State).answered
        (.clearFirstOut (byteOf g.val)) (.okWith [former])) ∧
    ((s.groups[g]).slot = none → former = 0xFF) ∧
    (∀ p : PointId, (s.groups[g]).slot = some p → former = byteOf p.val))

/-- SHELVE (R54, R95 to R97): its checks in order; a point already SHELVED has its duration replaced and its entry moved;
any other point leaves the alarm picture for SHELVED, its entry standing in order of expiry, and the state and stamp it left
are answered. -/
def Obligations.ShelveTakesPointOut : Prop :=
  ∀ (m : Half) (s : State),
    (∀ b : Byte, 63 < b.toNat ∨ m.toNat < 1 ∨ 480 < m.toNat →
      exec (.shelve b m) s = .next (s.answered (.shelve b m) (.refusal .range))) ∧
    (∀ p : PointId, 1 ≤ m.toNat → m.toNat ≤ 480 →
      let c := Instr.shelve (byteOf p.val) m
      (62 ≤ p.val ∨ s.alarmOf p = .outOfService → exec c s = .next (s.answered c (.refusal .state))) ∧
      (p.val < 62 → s.alarmOf p ≠ .outOfService → s.alarmOf p ≠ .shelved → 8 ≤ s.shelves.length →
        exec c s = .next (s.answered c (.refusal .full))) ∧
      (p.val < 62 → s.alarmOf p = .shelved → ∃ (l₁ l₂ : List ShelveEntry) (h l : Byte),
        s.shelves.filter (fun e => e.point ≠ p) = l₁ ++ l₂ ∧
        exec c s =
          .next (({ s with shelves := l₁ ++ ⟨p, m.toNat * 240000000⟩ :: l₂ } : State).answered c
            (.okWith [7, 0, 0, 0, 0, byteOf l₁.length, h, l])) ∧
        halfFrom h l = BitVec.ofNat 16 (m.toNat * 60) ∧
        (∀ e ∈ l₁, e.timeLeft ≤ m.toNat * 240000000) ∧ (∀ e ∈ l₂.head?, m.toNat * 240000000 < e.timeLeft)) ∧
      (s.ConfigLegal → s.PictureLegal → p.val < 62 → s.alarmOf p ≠ .outOfService → s.alarmOf p ≠ .shelved →
        s.shelves.length < 8 → ∃ (t : State) (l₁ l₂ : List ShelveEntry) (h l : Byte),
        exec c s = .next (t.answered c
          (.okWith ((s.alarmOf p).code :: stampBytes (((s.recordOf p).map RosterRecord.stamp).getD 0) ++
            [byteOf l₁.length, h, l]))) ∧
        s.shelves = l₁ ++ l₂ ∧ t.shelves = l₁ ++ ⟨p, m.toNat * 240000000⟩ :: l₂ ∧
        halfFrom h l = BitVec.ofNat 16 (m.toNat * 60) ∧
        (∀ e ∈ l₁, e.timeLeft ≤ m.toNat * 240000000) ∧ (∀ e ∈ l₂.head?, m.toNat * 240000000 < e.timeLeft) ∧
        t.alarmOf p = .shelved ∧ t.recordOf p = none ∧ p ∉ t.deferred ∧ t.filterOf p = s.filterOf p ∧
        t.config = s.config ∧ t.service = s.service))

/-- UNSHELVE and SHELVE_EXPIRY (R55, R98, R99): the entry goes, the point goes to NORMAL, and a condition that stands
PRESENT is taken as a rise unless the point is PULSE; the expiry alone sets SHELVE_EXPIRED, and without an entry there is
none. That the expiry row takes effect whatever time is left is the model's choice (notes/assumptions/3.md). -/
def Obligations.ShelveEnds : Prop :=
  (∀ (b : Byte) (s : State), 63 < b.toNat → exec (.unshelve b) s = .next (s.answered (.unshelve b) (.refusal .range))) ∧
  (∀ (p : PointId) (s : State), s.alarmOf p ≠ .shelved →
    exec (.unshelve (byteOf p.val)) s = .next (s.answered (.unshelve (byteOf p.val)) (.refusal .state))) ∧
  (∀ (p : PointId) (s : State),
    let cleared := ({ s with shelves := s.shelves.filter fun e => e.point ≠ p } : State).setAlarm p .normal
    let ended := if (s.cfg p).kind ≠ .pulse ∧ (s.filterOf p).qualified = true then cleared.rise p else cleared
    (s.alarmOf p = .shelved →
      exec (.unshelve (byteOf p.val)) s =
        .next (ended.answered (.unshelve (byteOf p.val))
          (.okWith ((ended.alarmOf p).code :: stampBytes (((ended.recordOf p).map RosterRecord.stamp).getD 0))))) ∧
    ((∃ e ∈ s.shelves, e.point = p) → exec (.shelveExpiry p) s = .next (ended.raise .shelveExpired)) ∧
    ((∀ e ∈ s.shelves, e.point ≠ p) → exec (.shelveExpiry p) s = .next s))

/-- SILENCE (R103): every record in ALERT or RETURNED, and no other, is silenced, with a timer of its class's interval or
none; the count is answered, and only the channels and their flags follow, those flags by the model's choice where R103 has
SILENCE set no other event flag (notes/assumptions/35.md). -/
def Obligations.SilenceWritesUnacknowledged : Prop :=
  ∀ s : State, ∃ t,
    exec .silence s = .next (t.answered .silence (.okWith [byteOf (s.roster.countP RosterRecord.unacked)])) ∧
    t.roster = s.roster.map (fun r =>
      if r.state = .alert ∨ r.state = .returned then
        { r with
          silenced := true
          reannounce :=
            if s.classInterval[(s.cfg r.point).priority] = 0 then none
            else some ((s.classInterval[(s.cfg r.point).priority]).toNat * 60000000) }
      else r) ∧
    State.SoundFrame { s with roster := t.roster } t

/-! ## The panel -/

/-- KEY_LINE_CHANGE and DEBOUNCE_EXPIRY (R110 to R113): a change that does not match the debounced state starts the timer at
40 ms and one that does cancels it; at its expiry the debounced state follows the line; an enabled key's press takes its
action and sets PANEL_ACTION, a disabled key's press and a release of any key but KTST do nothing more. The debounced state
follows the line because a running timer means that they differ (StepKeepsLinkAndKeysLegal). A KTST press that starts the
test renews a pass for the test demand that goes on (R157; notes/assumptions/18.md and 36.md). That the channels may set
their flags within an action or a release, beside R103 and R113, is the model's choice (notes/assumptions/35.md). That the
rows are nothing without their occasion is the model's choice (notes/assumptions/3.md and 9.md). -/
def Obligations.KeysDebounceAndAct : Prop :=
  ∀ (k : Key) (s : State),
    (∀ level, exec (.keyLineChange k level) s =
      .next { s with
        keys := s.keys.put k
          { s.keys.get k with
            line := level
            timer :=
              if (s.keys.get k).line = level then (s.keys.get k).timer
              else if ((s.keys.get k).pressed = true ↔ level = .low) then none
              else some 160000 } }) ∧
    ((s.keys.get k).timer = none → exec (.debounceExpiry k) s = .next s) ∧
    (s.KeysLegal → ∃ t, exec (.debounceExpiry k) s = .next t ∧ (t.keys.get k).timer = none ∧
      (t.keys.get k).line = (s.keys.get k).line ∧ ((t.keys.get k).pressed = true ↔ (s.keys.get k).line = .low)) ∧
    ((s.keys.get k).timer ≠ none →
      let u : State :=
        { s with keys := s.keys.put k { s.keys.get k with pressed := !(s.keys.get k).pressed, timer := none } }
      ((s.keys.get k).pressed = true → k ≠ .ktst → exec (.debounceExpiry k) s = .next u) ∧
      ((s.keys.get k).pressed = true → k = .ktst →
        ∃ t, exec (.debounceExpiry k) s = .next t ∧ t.panelTest = none ∧ t.keys = u.keys ∧ t.roster = s.roster ∧
          t.hostTest = s.hostTest ∧ t.flag .panelAction = s.flag .panelAction) ∧
      ((s.keys.get k).pressed = false → s.keyEnables.get k = false → exec (.debounceExpiry k) s = .next u) ∧
      ((s.keys.get k).pressed = false → s.keyEnables.get k = true →
        (k = .kack → exec (.debounceExpiry k) s =
          .next ((u.acknowledgeAll .panel fun _ => true).raise .panelAction)) ∧
        (k = .ksil → exec (.debounceExpiry k) s = .next (u.silenceAll.raise .panelAction)) ∧
        (k = .krst → exec (.debounceExpiry k) s = .next (u.resetEvery.raise .panelAction)) ∧
        (k = .ktst → ∃ t, exec (.debounceExpiry k) s = .next t ∧ t.panelTest = some 60000000 ∧ t.keys = u.keys ∧
          t.roster = s.roster ∧ t.hostTest = s.hostTest ∧ t.flag .panelAction = true ∧
          (s.panelTest = none → s.hostTest = none → State.Renews s t fun pl => pl.owner = .test))))

/-- The lamp test (R115 to R118): LAMP TEST, PANEL_TEST_EXPIRY and HOST_TEST_EXPIRY write one source and leave the other;
only when the test as a whole ends are both test demands unsounded; a test that starts renews a pass for the test demand
that goes on (R157; notes/assumptions/18.md and 36.md); nothing but the channels and their flags follows, those flags by the
model's choice beside R116 (notes/assumptions/35.md). WRITE PANEL (R112): four enables written as one change; a value that
is neither yes nor no writes none; disabling KTST ends a running panel test. That the expiry rows take effect whenever their
test runs is the model's choice (notes/assumptions/3.md). -/
def Obligations.LampTestAndPanelRecord : Prop :=
  (∀ s : State,
    (∀ b : Byte, 15 < b.toNat → exec (.lampTest b) s = .next (s.answered (.lampTest b) (.refusal .range))) ∧
    (∀ b : Byte, b.toNat ≤ 15 → ∃ t,
      exec (.lampTest b) s = .next (t.answered (.lampTest b) (.okWith [yesNo t.testActive])) ∧
      t.hostTest = (if b = 0 then none else some (b.toNat * 4000000)) ∧
      t.testSounded = (if s.testActive = true ∧ t.testActive = false then ⟨false, false⟩ else s.testSounded) ∧
      State.SoundFrame { s with hostTest := t.hostTest, testSounded := t.testSounded } t ∧
      (s.testActive = t.testActive → t.channels = s.channels) ∧
      (s.testActive = false → t.testActive = true → State.Renews s t fun pl => pl.owner = .test)) ∧
    (∃ t, exec .panelTestExpiry s = .next t ∧ t.panelTest = none ∧
      t.testSounded = (if s.testActive = true ∧ s.hostTest = none then ⟨false, false⟩ else s.testSounded) ∧
      State.SoundFrame { s with panelTest := none, testSounded := t.testSounded } t) ∧
    (∃ t, exec .hostTestExpiry s = .next t ∧ t.hostTest = none ∧
      t.testSounded = (if s.testActive = true ∧ s.panelTest = none then ⟨false, false⟩ else s.testSounded) ∧
      State.SoundFrame { s with hostTest := none, testSounded := t.testSounded } t)) ∧
  (∀ (a b c d : Byte) (s : State), 1 < a.toNat ∨ 1 < b.toNat ∨ 1 < c.toNat ∨ 1 < d.toNat →
    exec (.writePanel a b c d) s = .next (s.answered (.writePanel a b c d) (.refusal .range))) ∧
  (∀ (v : PerKey Bool) (s : State),
    let c := Instr.writePanel (yesNo v.kack) (yesNo v.ksil) (yesNo v.krst) (yesNo v.ktst)
    (v.ktst = true ∨ s.panelTest = none →
      exec c s = .next (({ s with keyEnables := v } : State).answered c (.okWith []))) ∧
    (v.ktst = false → ∃ t : State, exec c s = .next (t.answered c (.okWith [])) ∧ t.keyEnables = v ∧ t.panelTest = none ∧
      t.hostTest = s.hostTest ∧ t.keys = s.keys ∧ t.roster = s.roster ∧ t.alarm = s.alarm))

/-- READ LAMPS, the lamp lines and CALM (R117, R121 to R126): 38 bytes from one moment; each state's pattern, and each
pattern's intervals of the flash frame; a lamp line's derived pattern is the highest-ranked of its points'; while the lamp
test is active every line is lit; CALM is asserted exactly while a point is in ALERT, RETURNED or DEFERRED; while RSTN is low
the lamp lines and CALM are low. The codes of CALM and of a PRESSED key in the answer are the model's choice
(notes/assumptions/30.md). -/
def Obligations.LampsAndCalm : Prop :=
  ∀ s : State,
    exec .readLamps s = .next (s.answered .readLamps
      (.okWith ((List.finRange 32).map (fun n => byteOf (s.lampPattern n).rank) ++
        [yesNo s.testActive, yesNo s.panelTest.isSome, byteOf (((s.hostTest.getD 0) + 3999999) / 4000000),
          keySet s.keyEnables, keySet (s.keys.map KeyState.pressed), yesNo s.calm]))) ∧
    (∀ (n : LampId) (p : PointId), (s.cfg p).lamp = some n → (s.pointPattern p).rank ≤ (s.lampPattern n).rank) ∧
    (∀ n : LampId, s.lampPattern n = .off ∨
      ∃ p : PointId, (s.cfg p).lamp = some n ∧ s.pointPattern p = s.lampPattern n) ∧
    (∀ (p : PointId) (r : RosterRecord), s.recordOf p = some r → s.alarmOf p = .alert ∨ s.alarmOf p = .returned →
      s.pointPattern p =
        if r.firstOut = true then .double else if s.alarmOf p = .alert then .fast else .slow) ∧
    (∀ p : PointId,
      (s.alarmOf p = .acked → s.pointPattern p = .steady) ∧ (s.alarmOf p = .awaitReset → s.pointPattern p = .wink) ∧
      (s.alarmOf p = .deferred → s.pointPattern p = .fast) ∧
      (s.alarmOf p = .normal ∨ s.alarmOf p = .shelved ∨ s.alarmOf p = .outOfService → s.pointPattern p = .off)) ∧
    (s.testActive = true → ∀ n : LampId, s.lampLine .high n = true) ∧
    (s.testActive = false → ∀ n : LampId,
      (s.lampPattern n = .off → s.lampLine .high n = false) ∧
      (s.lampPattern n = .steady → s.lampLine .high n = true) ∧
      (s.lampPattern n = .slow → (s.lampLine .high n = true ↔ s.flashPhase < 2000000)) ∧
      (s.lampPattern n = .wink → (s.lampLine .high n = true ↔ s.flashPhase < 400000)) ∧
      (s.lampPattern n = .double → (s.lampLine .high n = true ↔
        s.flashPhase < 400000 ∨ 800000 ≤ s.flashPhase ∧ s.flashPhase < 1200000)) ∧
      (s.lampPattern n = .fast → (s.lampLine .high n = true ↔
        s.flashPhase < 500000 ∨ 1000000 ≤ s.flashPhase ∧ s.flashPhase < 1500000 ∨
          2000000 ≤ s.flashPhase ∧ s.flashPhase < 2500000 ∨ 3000000 ≤ s.flashPhase ∧ s.flashPhase < 3500000))) ∧
    (∀ n : LampId, s.lampLine .low n = false) ∧ s.calmPin .low = false ∧ s.calmPin .high = s.calm ∧
    (s.calm = true ↔ ∃ p : PointId, s.alarmOf p = .alert ∨ s.alarmOf p = .returned ∨ s.alarmOf p = .deferred)

/-! ## The cue library -/

/-- BEGIN EDIT, WRITE CUE HEADER and WRITE STEPS (R136 to R139): the session's creation and its buffers, held as written; in
an OPEN session the idle timer starts afresh at 8 s whether a write is taken or refused. -/
def Obligations.EditSessionWrites : Prop :=
  (∀ (b : Byte) (s : State), b.toNat < 8 ∨ 31 < b.toNat →
    exec (.beginEdit b) s = .next (s.answered (.beginEdit b) (.refusal .range))) ∧
  (∀ (q : CueId) (s : State), 8 ≤ q.val →
    (s.edit ≠ none → exec (.beginEdit (byteOf q.val)) s =
      .next (s.answered (.beginEdit (byteOf q.val)) (.refusal .state))) ∧
    (s.edit = none → exec (.beginEdit (byteOf q.val)) s =
      .next ((s.setEdit (some
          { target := q, phase := .openPhase, steps := Vector.replicate 16 ⟨0x80, 0⟩, stepCount := 0,
            header := ⟨.repeating, 4, none, []⟩, idleTimer := some 32000000 })).answered (.beginEdit (byteOf q.val))
        (.okWith [])))) ∧
  (∀ (h : HeaderBytes) (o : Byte) (l : List StepBytes) (s : State), (∀ e, s.edit = some e → e.phase = .validating) →
    exec (.writeCueHeader h) s = .next (s.answered (.writeCueHeader h) (.refusal .state)) ∧
    exec (.writeSteps o l) s = .next (s.answered (.writeSteps o l) (.refusal .state))) ∧
  (∀ (h : HeaderBytes) (e : EditSession) (s : State), s.edit = some e → e.phase = .openPhase →
    (2 < h.policy.toNat ∨ 2 < h.loopCount.toNat →
      exec (.writeCueHeader h) s =
        .next ((s.setEdit (some { e with idleTimer := some 32000000 })).answered (.writeCueHeader h)
          (.refusal .range))) ∧
    (∀ policy : CuePolicy, h.policy = policy.code → h.loopCount.toNat ≤ 2 →
      exec (.writeCueHeader h) s =
        .next ((s.setEdit (some { e with
            idleTimer := some 32000000
            header :=
              { policy := policy
                tempo := h.tempo
                alt := if h.altFrom = 0 then none else some (h.altFrom, h.altTempo)
                loops := [h.loop0, h.loop1].take h.loopCount.toNat } })).answered (.writeCueHeader h) (.okWith [])))) ∧
  (∀ (o : Byte) (l : List StepBytes) (e : EditSession) (s : State), s.edit = some e → e.phase = .openPhase →
    (l = [] ∨ 16 < o.toNat + l.length →
      exec (.writeSteps o l) s =
        .next ((s.setEdit (some { e with idleTimer := some 32000000 })).answered (.writeSteps o l) (.refusal .range))) ∧
    (l ≠ [] → o.toNat + l.length ≤ 16 → ∃ slots : Table StepBytes 16,
      exec (.writeSteps o l) s =
        .next ((s.setEdit (some { e with
            idleTimer := some 32000000, steps := slots, stepCount := max e.stepCount (o.toNat + l.length) })).answered
          (.writeSteps o l) (.okWith [byteOf (max e.stepCount (o.toNat + l.length))])) ∧
      (∀ i : Fin 16, slots[i] =
        if o.toNat ≤ i.val then (l[i.val - o.toNat]?).getD e.steps[i] else e.steps[i])))

/-- COMMIT and COMMIT_CHECK_END (R140, R141): COMMIT takes an OPEN session to VALIDATING with its timer stopped and has no
answer yet; the end of the check replaces the cue with legal contents read from the buffers, ends the session, answers and
tells the channels, of which each that plays the cue takes replacement pending and lets its step finish, whatever it wants
now (R160); or it returns the session to OPEN with its buffers and answers REJECTED. That COMMIT and the end of its check
are two steps is the table's; that the response is placed by a later step, and that a check's end without a session
VALIDATING is nothing, are the model's choices (notes/assumptions/31.md and 9.md), and that the other channels then compare
is its reading of R150 and R152 (15.md; for one that finishes a step for another COMMIT, 36.md). -/
def Obligations.CommitReplacesOrRejects : Prop :=
  (∀ s : State, (∀ e, s.edit = some e → e.phase = .validating) →
    exec .commit s = .next (s.answered .commit (.refusal .state))) ∧
  (∀ (e : EditSession) (s : State), s.edit = some e → e.phase = .openPhase →
    exec .commit s = .next { s with
      edit := some { e with phase := .validating, idleTimer := none }
      answer := none
      link := s.link.takeUp .commit none }) ∧
  (∀ s : State, (∀ e, s.edit = some e → e.phase = .openPhase) → exec .commitCheckEnd s = .next s) ∧
  (∀ (e : EditSession) (s : State), s.edit = some e → e.phase = .validating → e.stepCount ≤ 16 →
    e.header.loops.length ≤ 2 →
    let told := fun a : Answer =>
      { s.link with
        inFlight := s.link.inFlight.map fun f => if f.work = .checking then { f with work := .done a } else f
        marked := s.link.marked.map fun w => if w = .checking then .done a else w }
    (e.rejection = none → ∃ t, exec .commitCheckEnd s = .next t ∧ t.answer = some (.okWith []) ∧ t.edit = none ∧
      t.flag .editEnded = true ∧ t.cues = s.cues.put e.target (some e.build) ∧ e.build.Legal ∧
      e.build.steps.length = e.stepCount ∧ e.build.policy = e.header.policy ∧
      (∀ (i : Nat) (st : StepBytes), i < e.stepCount → e.steps[i]? = some st →
        (e.build.steps[i]?).map (fun x => (x.tone.code, byteOf x.length)) = some (st.tone, st.length)) ∧
      byteOf e.build.tempo.val = e.header.tempo ∧
      e.build.alt.map (fun a => (byteOf a.fromStep, byteOf a.tempo.val)) = e.header.alt ∧
      e.build.loops.map (fun l => (⟨byteOf l.first, byteOf l.last, byteOf l.count⟩ : LoopBytes)) = e.header.loops ∧
      t.link = told (.okWith []) ∧ t.roster = s.roster ∧ t.alarm = s.alarm ∧ t.tones = s.tones ∧
      (∀ f : Event, f ≠ .editEnded → f.ofChannels = false → t.flag f = s.flag f) ∧
      (∀ (c : Chan) (pl : Player), s.playerOf c = some pl →
        (pl.demandedCue = e.target → t.playerOf c = some { pl with replacementPending := true }) ∧
        (pl.demandedCue ≠ e.target → s.PassGoesOn t c pl → t.playerOf c = some pl)) ∧
      (∀ c : Chan, (∀ pl, s.playerOf c = some pl → pl.demandedCue ≠ e.target ∧ ¬ s.PassGoesOn t c pl) →
        (t.playerOf c).map Player.current = t.wanted c)) ∧
    (∀ why i, e.rejection = some (why, i) →
      exec .commitCheckEnd s = .next { s with
        edit := some { e with phase := .openPhase, idleTimer := some 32000000 }
        answer := some ⟨.rejected, [why.code, i]⟩
        link := told ⟨.rejected, [why.code, i]⟩ }))

/-- The check of COMMIT (R141): it passes exactly the buffers that hold a legal cue, and each of its seven tests, when those
before it pass, gives its reason with its index, that of the lowest step or first loop entry that fails. -/
def Obligations.CommitCheckIsExact : Prop :=
  ∀ e : EditSession, e.stepCount ≤ 16 → e.header.loops.length ≤ 2 →
    let toneGood := fun st : StepBytes => st.tone.toNat ≤ 23 ∨ st.tone = 0x80
    let lengthGood := fun st : StepBytes => 1 ≤ st.length.toNat ∧ st.length.toNat ≤ 16
    let altGood := ∀ a ∈ e.header.alt, 1 ≤ a.1.toNat ∧ a.1.toNat < e.stepCount ∧ a.2.toNat ≤ 11
    let loopGood := fun l : LoopBytes =>
      2 ≤ l.count.toNat ∧ l.count.toNat ≤ 15 ∧ l.first.toNat ≤ l.last.toNat ∧ l.last.toNat < e.stepCount
    let stepsGood := 1 ≤ e.stepCount ∧ ∀ st ∈ e.written, toneGood st ∧ lengthGood st
    (e.rejection = none ↔
      stepsGood ∧ e.header.tempo.toNat ≤ 11 ∧ altGood ∧ (∀ l ∈ e.header.loops, loopGood l) ∧
      e.build.loops.Pairwise LoopEntry.compatible) ∧
    (e.rejection = some (.noSteps, 0xFF) ↔ e.stepCount = 0) ∧
    (∀ i : Nat, i < 16 → (e.rejection = some (.toneRange, byteOf i) ↔
      (∃ st, e.written[i]? = some st ∧ ¬ toneGood st) ∧
      ∀ (j : Nat) (st : StepBytes), j < i → e.written[j]? = some st → toneGood st)) ∧
    (∀ i : Nat, i < 16 → (e.rejection = some (.lengthRange, byteOf i) ↔
      (∀ st ∈ e.written, toneGood st) ∧ (∃ st, e.written[i]? = some st ∧ ¬ lengthGood st) ∧
      ∀ (j : Nat) (st : StepBytes), j < i → e.written[j]? = some st → lengthGood st)) ∧
    (e.rejection = some (.tempoRange, 0xFF) ↔ stepsGood ∧ 11 < e.header.tempo.toNat) ∧
    (e.rejection = some (.altRange, 0xFF) ↔ stepsGood ∧ e.header.tempo.toNat ≤ 11 ∧ ¬ altGood) ∧
    (∀ i : Nat, i < 2 → (e.rejection = some (.loopRange, byteOf i) ↔
      stepsGood ∧ e.header.tempo.toNat ≤ 11 ∧ altGood ∧ (∃ l, e.header.loops[i]? = some l ∧ ¬ loopGood l) ∧
      ∀ (j : Nat) (l : LoopBytes), j < i → e.header.loops[j]? = some l → loopGood l)) ∧
    (e.rejection = some (.loopOverlap, 1) ↔
      stepsGood ∧ e.header.tempo.toNat ≤ 11 ∧ altGood ∧ (∀ l ∈ e.header.loops, loopGood l) ∧
      ¬ e.build.loops.Pairwise LoopEntry.compatible)

/-- R142 and EDIT_IDLE_TIMEOUT (R139): ABORT EDIT with no session or one VALIDATING is refused with STATE; with an OPEN
session it ends it, and so does the expiry of the idle timer: the cue keeps its contents and EDIT_ENDED is set. That the
expiry row takes effect whenever the timer runs is the model's choice (notes/assumptions/3.md). -/
def Obligations.EditSessionEnds : Prop :=
  (∀ s : State, (∀ e, s.edit = some e → e.phase = .validating) →
    exec .abortEdit s = .next (s.answered .abortEdit (.refusal .state))) ∧
  (∀ (e : EditSession) (s : State), s.edit = some e → e.phase = .openPhase →
    exec .abortEdit s = .next (((s.setEdit none).raise .editEnded).answered .abortEdit (.okWith []))) ∧
  (∀ (e : EditSession) (s : State), s.edit = some e → e.phase = .openPhase → e.idleTimer ≠ none →
    exec .editIdleTimeout s = .next ((s.setEdit none).raise .editEnded)) ∧
  (∀ s : State, (∀ e, s.edit = some e → e.phase = .validating ∨ e.idleTimer = none) →
    exec .editIdleTimeout s = .next s)

/-- READ CUE and ERASE CUE (R144, R145, R182): the report of a cue in 48 bytes, its own contents and not the buffers; and a
loadable cue made EMPTY, unless it is being edited or played; one already EMPTY changes nothing. The channels compare once a
cue has been emptied, the model's reading of R150 and R152 (notes/assumptions/15.md and 36.md); that they may set their
flags in doing so, where R145 has ERASE CUE set none, is its choice (35.md). The bytes of an EMPTY cue's policy and tempo,
of an absent alternate tempo and of the tone of a step beyond the count are 0x00 or 0xFF, free values by the model's choice
(notes/assumptions/10.md). -/
def Obligations.CueReadAndErase : Prop :=
  (∀ (b : Byte) (s : State), 31 < b.toNat →
    exec (.readCue b) s = .next (s.answered (.readCue b) (.refusal .range))) ∧
  (∀ (q : CueId) (s : State), s.CuesLegal → ∃ contents : List Byte,
    exec (.readCue (byteOf q.val)) s =
      .next (s.answered (.readCue (byteOf q.val)) (.okWith (contents ++
        (match s.edit with
          | some e => if e.target = q then [if e.phase = .openPhase then 1 else 2, byteOf e.stepCount] else [0, 0]
          | none => [0, 0]) ++
        [byteOf ((s.plays .a q).toNat + 2 * (s.plays .b q).toNat)]))) ∧
    contents.length = 45 ∧
    (s.cues[q] = none → contents[0]? = some 0 ∧ contents[5]? = some 0 ∧
      (∀ i : Nat, 1 ≤ i → i ≤ 4 → contents[i]? = some 0 ∨ contents[i]? = some 0xFF) ∧
      (∀ i : Nat, i < 16 → (contents[6 + 2 * i]? = some 0 ∨ contents[6 + 2 * i]? = some 0xFF) ∧
        contents[7 + 2 * i]? = some 0) ∧
      ∀ i : Nat, 38 ≤ i → i < 45 → contents[i]? = some 0) ∧
    (∀ c, s.cues[q] = some c →
      contents[0]? = some 1 ∧ contents[1]? = some c.policy.code ∧ contents[2]? = some (byteOf c.tempo.val) ∧
      contents[5]? = some (byteOf c.steps.length) ∧
      (∀ (i : Nat) (st : CueStep), c.steps[i]? = some st →
        contents[6 + 2 * i]? = some st.tone.code ∧ contents[7 + 2 * i]? = some (byteOf st.length)) ∧
      (∀ i : Nat, c.steps.length ≤ i → i < 16 →
        (contents[6 + 2 * i]? = some 0 ∨ contents[6 + 2 * i]? = some 0xFF) ∧ contents[7 + 2 * i]? = some 0) ∧
      (∀ a, c.alt = some a → contents[3]? = some (byteOf a.fromStep) ∧ contents[4]? = some (byteOf a.tempo.val)) ∧
      (c.alt = none → (contents[3]? = some 0 ∨ contents[3]? = some 0xFF) ∧
        (contents[4]? = some 0 ∨ contents[4]? = some 0xFF)) ∧
      contents[38]? = some (byteOf c.loops.length) ∧
      (∀ (i : Nat) (l : LoopEntry), c.loops[i]? = some l →
        contents[39 + 3 * i]? = some (byteOf l.first) ∧ contents[40 + 3 * i]? = some (byteOf l.last) ∧
          contents[41 + 3 * i]? = some (byteOf l.count)) ∧
      (∀ i : Nat, 39 + 3 * c.loops.length ≤ i → i < 45 → contents[i]? = some 0))) ∧
  (∀ (b : Byte) (s : State), b.toNat < 8 ∨ 31 < b.toNat →
    exec (.eraseCue b) s = .next (s.answered (.eraseCue b) (.refusal .range))) ∧
  (∀ (q : CueId) (s : State), 8 ≤ q.val →
    ((∃ e, s.edit = some e ∧ e.target = q) ∨ (∃ c pl, s.playerOf c = some pl ∧ pl.playedCue = q) →
      exec (.eraseCue (byteOf q.val)) s = .next (s.answered (.eraseCue (byteOf q.val)) (.refusal .state))) ∧
    ((∀ e, s.edit = some e → e.target ≠ q) → (∀ c pl, s.playerOf c = some pl → pl.playedCue ≠ q) →
      (s.cues[q] = none →
        exec (.eraseCue (byteOf q.val)) s = .next (s.answered (.eraseCue (byteOf q.val)) (.okWith []))) ∧
      ∃ t, exec (.eraseCue (byteOf q.val)) s = .next (t.answered (.eraseCue (byteOf q.val)) (.okWith [])) ∧
        t.cues = s.cues.put q none ∧ State.SoundFrame { s with cues := t.cues } t ∧
        (s.cues[q] ≠ none → State.Compared s t)))

/-- R131, WRITE TONES (R130), and what sounds: the table in tone order; a list written whole or not at all; the tempo table and
the tempo in force for a step (R128); the jump at the end of a step, by the innermost loop that has one left (R134); and the
tone outputs (R161), low in a REST, in IDLE and while RSTN is low, else a square wave that starts high, each half the whole
number of clock periods nearest to half the period, the larger when it falls midway. -/
def Obligations.TonesWrittenAndRead : Prop :=
  (∀ s : State, ∃ bytes : List Byte,
    exec .readTones s = .next (s.answered .readTones (.okWith bytes)) ∧ bytes.length = 48 ∧
    (∀ i : ToneId, ∃ h l : Byte, bytes[2 * i.val]? = some h ∧ bytes[2 * i.val + 1]? = some l ∧
      halfFrom h l = s.tones[i])) ∧
  (∀ (first : Byte) (l : List Half) (s : State), 1 ≤ l.length → l.length ≤ 16 →
    24 < first.toNat + l.length ∨ (∃ f ∈ l, f.toNat < 200 ∨ 5000 < f.toNat) →
    exec (.writeTones first l) s = .next (s.answered (.writeTones first l) (.refusal .range))) ∧
  (∀ (first : Byte) (l : List Half) (s : State), 1 ≤ l.length → l.length ≤ 16 → first.toNat + l.length ≤ 24 →
    (∀ f ∈ l, 200 ≤ f.toNat ∧ f.toNat ≤ 5000) → ∃ table : Table Half 24,
    exec (.writeTones first l) s =
      .next (({ s with tones := table } : State).answered (.writeTones first l) (.okWith [])) ∧
    (∀ i : ToneId, table[i] =
      if first.toNat ≤ i.val then (l[i.val - first.toNat]?).getD s.tones[i] else s.tones[i])) ∧
  (∀ f : Half, f ≠ 0 →
    2 * f.toNat * halfPeriod f ≤ 4000000 + f.toNat ∧ 4000000 + f.toNat < 2 * f.toNat * (halfPeriod f + 1)) ∧
  halfPeriod 1008 = 1984 ∧
  (List.finRange 12).map tempoMs = [15, 20, 25, 30, 40, 50, 60, 75, 90, 110, 135, 160] ∧
  (∀ (q : CueContents) (i : Nat),
    (∀ a, q.alt = some a → a.fromStep ≤ i → q.tempoAt i = a.tempo) ∧
    ((∀ a, q.alt = some a → i < a.fromStep) → q.tempoAt i = q.tempo)) ∧
  (∀ (loops : List LoopEntry) (i : Nat) (counters : List Nat), loops.length ≤ 2 → counters.length = loops.length →
    (loopJump loops i counters = none ↔
      ∀ (k : Nat) (l : LoopEntry) (n : Nat), loops[k]? = some l → counters[k]? = some n → l.last = i → n ≤ 1) ∧
    (∀ after target, loopJump loops i counters = some (after, target) →
      ∃ (k : Nat) (l : LoopEntry) (n : Nat), loops[k]? = some l ∧ counters[k]? = some n ∧ l.last = i ∧ 1 < n ∧
        target = l.first ∧ after = counters.set k (n - 1) ∧
        ∀ (k' : Nat) (l' : LoopEntry) (n' : Nat), loops[k']? = some l' → counters[k']? = some n' → l'.last = i →
          l.first < l'.first → n' ≤ 1)) ∧
  (∀ (c : Chan) (s : State),
    s.toneOutput .low c = false ∧ (s.playerOf c = none → s.toneOutput .high c = false) ∧
    ∀ pl, s.playerOf c = some pl →
      (pl.copy.frequency = none → s.toneOutput .high c = false) ∧
      ∀ (f : Half) (k : Nat), pl.copy.frequency = some f → f ≠ 0 →
        k * halfPeriod f ≤ pl.copy.length * pl.copy.ms * 4000 - pl.timeLeft →
        pl.copy.length * pl.copy.ms * 4000 - pl.timeLeft < (k + 1) * halfPeriod f →
        (s.toneOutput .high c = true ↔ k % 2 = 0))

/-! ## The tone channels -/

/-- STEP_END (R154 to R158, R160, R163): an IDLE channel has none; after a COMMIT of its cue a channel keeps its demand,
held or still wanted, in a new pass of the new contents, or switches; without hold a differing wanted demand is switched to,
or the channel goes IDLE and sets its flag; otherwise the pass goes on by the loop jump, or to the next step with its copy
read then and its loop counters loaded (R133); a REPEAT pass still wanted begins again; a SINGLE or FIRM pass marks its
owner, a record or the test demand (R118), as sounded, unless it was renewed (R157), and the channel then begins what is
wanted at step 0, or goes IDLE and sets its flag (R163). That a pass keeps its policy is the model's own
(notes/assumptions/34.md). That the row takes effect whatever time the step has left is the model's choice
(notes/assumptions/3.md), and so is CUE_FALLBACK at a continuation that finds the cue EMPTY (16.md). -/
def Obligations.StepEndsInOrder : Prop :=
  ∀ (c : Chan) (s : State),
    let goesIdle := exec (.stepEnd c) s = .next ((s.setPlayer c none).raise (idleEvent c))
    let copied := fun (q : CueContents) (np : Player) =>
      ∀ st : CueStep, q.steps[np.stepIndex]? = some st →
        np.copy.tone = st.tone ∧ np.copy.length = st.length ∧ np.copy.ms = tempoMs (q.tempoAt np.stepIndex) ∧
        (∀ i : ToneId, st.tone = .tone i → np.copy.frequency = some s.tones[i]) ∧
        (st.tone = .rest → np.copy.frequency = none) ∧ np.timeLeft = st.length * np.copy.ms * 4000
    let fresh := fun (d : Demand) (np : Player) =>
      let q : CueId := if s.cues[d.cue] ≠ none then d.cue else 0
      np.current = d ∧ np.playedCue = q ∧ np.passPolicy = (s.contents q).policy ∧ np.stepIndex = 0 ∧
      copied (s.contents q) np ∧
      (∀ (k : Nat) (l : LoopEntry), (s.contents q).loops[k]? = some l →
        np.counters[k]? = some (if l.first = 0 then l.count else 0)) ∧
      (np.firmHold = true ↔ (s.contents q).policy = .firm) ∧ np.renewed = false ∧ np.replacementPending = false
    let begins := fun d : Demand =>
      ∃ t np, exec (.stepEnd c) s = .next t ∧ t.playerOf c = some np ∧ fresh d np ∧
        (s.cues[d.cue] = none → t.flag .cueFallback = true) ∧ (s.cues[d.cue] ≠ none → t.events = s.events) ∧
        t.roster = s.roster ∧ t.testSounded = s.testSounded
    (s.playerOf c = none → exec (.stepEnd c) s = .next s) ∧
    (∀ pl : Player, s.playerOf c = some pl → pl.replacementPending = true →
      let held := pl.firmHold = true ∧
        (s.contents (if s.cues[pl.demandedCue] ≠ none then pl.demandedCue else 0)).policy = .firm
      (held ∨ s.wanted c = some pl.current → begins pl.current) ∧
      (¬ held → s.wanted c = none → goesIdle) ∧
      (∀ d : Demand, ¬ held → s.wanted c = some d → begins d)) ∧
    (∀ pl : Player, s.playerOf c = some pl → pl.replacementPending = false →
      let q := s.contents pl.playedCue
      let arrives := fun (np : Player) (counters : List Nat) =>
        np.current = pl.current ∧ np.playedCue = pl.playedCue ∧ np.firmHold = pl.firmHold ∧ np.renewed = pl.renewed ∧
        np.passPolicy = pl.passPolicy ∧ np.replacementPending = false ∧ copied q np ∧
        (counters.length = q.loops.length → ∀ (k : Nat) (l : LoopEntry), q.loops[k]? = some l →
          np.counters[k]? =
            if l.first = np.stepIndex ∧ ¬ (l.first ≤ pl.stepIndex ∧ pl.stepIndex ≤ l.last) then some l.count
            else counters[k]?)
      (pl.firmHold = false → s.wanted c = none → goesIdle) ∧
      (∀ d : Demand, pl.firmHold = false → s.wanted c = some d → d ≠ pl.current → begins d) ∧
      (pl.firmHold = true ∨ s.wanted c = some pl.current →
        (∀ counters target, loopJump q.loops pl.stepIndex pl.counters = some (counters, target) →
          ∃ np, exec (.stepEnd c) s = .next (s.setPlayer c (some np)) ∧ np.stepIndex = target ∧ arrives np counters) ∧
        (loopJump q.loops pl.stepIndex pl.counters = none →
          (pl.stepIndex + 1 < q.steps.length →
            ∃ np, exec (.stepEnd c) s = .next (s.setPlayer c (some np)) ∧ np.stepIndex = pl.stepIndex + 1 ∧
              arrives np pl.counters) ∧
          (q.steps.length ≤ pl.stepIndex + 1 →
            (q.policy = .repeating ∨ pl.renewed = true →
              (s.wanted c = none → goesIdle) ∧ (∀ d : Demand, s.wanted c = some d → begins d)) ∧
            (q.policy ≠ .repeating → pl.renewed = false →
              ∃ t, exec (.stepEnd c) s = .next t ∧ t.alarm = s.alarm ∧
                (t.playerOf c).map Player.current = t.wanted c ∧
                (t.wanted c = none → t.flag (idleEvent c) = true) ∧
                (∀ d : Demand, t.wanted c = some d → (∃ np, t.playerOf c = some np ∧ fresh d np) ∧
                  (s.cues[d.cue] = none → t.flag .cueFallback = true)) ∧
                (∀ p st, pl.owner = .record p st →
                  t.testSounded = s.testSounded ∧
                  t.roster = s.roster.map fun r =>
                    if r.point = p ∧ r.stamp = st then { r with sounded := true } else r) ∧
                (pl.owner = .test → t.roster = s.roster ∧ t.testSounded = s.testSounded.put c true))))))

/-- The demands (R150, R151) and the choice among them (R152); WRITE CHANNEL and READ CHANNEL (R162 to R164): settings held
change nothing; a disable stops a PLAYING channel at once with its idle flag, whatever its hold; an enabled IDLE channel
starts what it wants; the settings of a disabled channel are written and nothing else; the report of a channel, IDLE or
PLAYING, and of its wanted demand. The byte of the step copy's tone in IDLE is a free value, the model's choice
(notes/assumptions/10.md). -/
def Obligations.ChannelCommands : Prop :=
  (∀ (r : RosterRecord) (s : State),
    (r.silenced = true ∨ r.state = .acked ∨ r.state = .awaitReset → s.demandOf r = none) ∧
    (∀ cue : Option CueId, r.silenced = false →
      r.state = .alert ∧ cue = (s.cfg r.point).alertCue ∨ r.state = .returned ∧ cue = (s.cfg r.point).ringbackCue →
      (r.sounded = false → s.demandOf r = cue) ∧ (cue = none → s.demandOf r = none) ∧
      (∀ q : CueId, cue = some q → r.sounded = true →
        (s.cues[q] = none → s.demandOf r = some q) ∧
        (∀ k, s.cues[q] = some k → k.policy = .repeating → s.demandOf r = some q) ∧
        (∀ k, s.cues[q] = some k → k.policy ≠ .repeating → s.demandOf r = none)))) ∧
  (∀ (c : Chan) (s : State),
    ((s.channels.get c).enabled = false → s.wanted c = none) ∧
    ((s.channels.get c).enabled = true →
      (∀ (i : Nat) (r : RosterRecord) (q : CueId), s.roster[i]? = some r → (s.cfg r.point).channel = c →
        s.demandOf r = some q →
        (∀ (j : Nat) (r' : RosterRecord), j < i → s.roster[j]? = some r' → (s.cfg r'.point).channel = c →
          s.demandOf r' = none) →
        s.wanted c = some ⟨.record r.point r.stamp, q⟩) ∧
      ((∀ r ∈ s.roster, (s.cfg r.point).channel = c → s.demandOf r = none) →
        s.wanted c = if (s.panelTest ≠ none ∨ s.hostTest ≠ none) ∧ s.testSounded.get c = false then some ⟨.test, 7⟩
          else none))) ∧
  (∀ (b v w : Byte) (s : State), 1 < b.toNat ∨ 1 < v.toNat ∨ 1 < w.toNat →
    exec (.writeChannel b v w) s = .next (s.answered (.writeChannel b v w) (.refusal .range))) ∧
  (∀ (c : Chan) (w : SwitchPolicy) (s : State),
    let off := Instr.writeChannel (chanCode c) 0 w.code
    let on := Instr.writeChannel (chanCode c) 1 w.code
    ((s.channels.get c).enabled = false → (s.channels.get c).policy = w →
      exec off s = .next (s.answered off (.okWith []))) ∧
    ((s.channels.get c).enabled = true → (s.channels.get c).policy = w →
      exec on s = .next (s.answered on (.okWith []))) ∧
    (¬ ((s.channels.get c).enabled = false ∧ (s.channels.get c).policy = w) → s.playerOf c ≠ none →
      exec off s =
        .next ((({ s with channels := s.channels.put c ⟨false, w, none⟩ } : State).raise (idleEvent c)).answered off
          (.okWith []))) ∧
    (¬ ((s.channels.get c).enabled = false ∧ (s.channels.get c).policy = w) → s.playerOf c = none →
      exec off s =
        .next (({ s with channels := s.channels.put c ⟨false, w, none⟩ } : State).answered off (.okWith []))) ∧
    (¬ ((s.channels.get c).enabled = true ∧ (s.channels.get c).policy = w) →
      ∃ t : State, exec on s = .next (t.answered on (.okWith [])) ∧ (t.channels.get c).enabled = true ∧
        (t.channels.get c).policy = w ∧ (∀ c' : Chan, c' ≠ c → t.channels.get c' = s.channels.get c') ∧
        State.SoundFrame { s with channels := t.channels } t ∧
        ((∀ pl, s.playerOf c = some pl → w = .immediate ∧ pl.firmHold = false) →
          (t.playerOf c).map Player.current = t.wanted c) ∧
        (∀ pl, s.playerOf c = some pl → w = .step ∨ pl.firmHold = true → t.playerOf c = some pl))) ∧
  (∀ (b : Byte) (s : State), 1 < b.toNat →
    exec (.readChannel b) s = .next (s.answered (.readChannel b) (.refusal .range))) ∧
  (∀ (c : Chan) (s : State), ∃ playing wanted : List Byte,
    exec (.readChannel (chanCode c)) s =
      .next (s.answered (.readChannel (chanCode c)) (.okWith
        ([yesNo (s.channels.get c).enabled, (s.channels.get c).policy.code] ++ playing ++ wanted))) ∧
    (s.wanted c = none → wanted = [0, 0xFF, 0, 0, 0, 0, 0xFF]) ∧
    (∀ q, s.wanted c = some ⟨.test, q⟩ → wanted = [2, 0xFF, 0, 0, 0, 0, byteOf q.val]) ∧
    (∀ p st q, s.wanted c = some ⟨.record p st, q⟩ → wanted = [1, byteOf p.val] ++ stampBytes st ++ [byteOf q.val]) ∧
    (s.playerOf c = none → ∃ x : Byte, (x = 0 ∨ x = 0xFF) ∧
      playing = [0, 0, 0xFF, 0, 0, 0, 0, 0xFF, 0xFF, 0xFF, x, 0, 0, 0, 0, 0, 0, 0, 0, 0, 0]) ∧
    (∀ pl : Player, s.playerOf c = some pl → ∃ owner : List Byte, ∃ fh fl th tl : Byte,
      playing = [1] ++ owner ++
        [byteOf pl.demandedCue.val, byteOf pl.playedCue.val, byteOf pl.stepIndex, pl.copy.tone.code,
          byteOf pl.copy.length, fh, fl, byteOf pl.copy.ms, th, tl, byteOf pl.counters.length,
          byteOf ((pl.counters[0]?).getD 0), byteOf ((pl.counters[1]?).getD 0),
          byteOf (pl.firmHold.toNat + 2 * pl.renewed.toNat + 4 * pl.replacementPending.toNat)] ∧
      (pl.owner = .test → owner = [2, 0xFF, 0, 0, 0, 0]) ∧
      (∀ p st, pl.owner = .record p st → owner = [1, byteOf p.val] ++ stampBytes st) ∧
      halfFrom fh fl = pl.copy.frequency.getD 0 ∧ halfFrom th tl = BitVec.ofNat 16 ((pl.timeLeft + 3999) / 4000)))

/-! ## The host link -/

/-- SELN_FALL, BYTE_COMPLETION and SELN_RISE (R167, R168, R176 to R178): a transaction begins with the link reset timer at
25 ms; its first byte decides its kind; a request's bytes enter the receive frame until it is whole; SELN rising stops the
timer, discards a partial frame with LINK_FAULT, and consumes a response clocked out whole. That an event without its
occasion is nothing, and that a whole frame outlives the rise of SELN, are the model's choices (notes/assumptions/8.md and
9.md). -/
def Obligations.TransactionsReceiveBytes : Prop :=
  ∀ s : State,
    (s.link.trans = .idle →
      exec .selnFall s = .next (s.setLink { s.link with trans := .opened, timer := some 100000 }) ∧
      (∀ b : Byte, exec (.byteCompletion b) s = .next s)) ∧
    (s.link.trans ≠ .idle → exec .selnFall s = .next s) ∧
    (s.link.trans = .opened → ∀ b : Byte,
      exec (.byteCompletion b) s =
        .next (s.setLink
          (if b = 0 then { s.link with trans := .collect none, timer := s.link.timer.map fun _ => 100000 }
            else { s.link with trans := .request, rx := [b], timer := s.link.timer.map fun _ => 100000 }))) ∧
    (s.link.trans = .request → ∀ b : Byte,
      exec (.byteCompletion b) s =
        .next (s.setLink { s.link with
          rx := if frameWhole s.link.rx then s.link.rx else s.link.rx ++ [b]
          timer := s.link.timer.map fun _ => 100000 })) ∧
    (s.link.trans = .afterFrame ∨ s.link.trans = .ignored ∨ s.link.trans = .missed ∨ s.link.trans = .collect none → ∀ b : Byte,
      exec (.byteCompletion b) s =
        .next (s.setLink { s.link with timer := s.link.timer.map fun _ => 100000 })) ∧
    (∀ (f : CollectFrame) (b : Byte), s.link.trans = .collect (some f) →
      exec (.byteCompletion b) s =
        .next (s.setLink { s.link with
          trans := .collect (some { f with shifted := f.shifted + 1 })
          timer := s.link.timer.map fun _ => 100000 })) ∧
    (s.link.trans = .request → frameWhole s.link.rx = false →
      exec .selnRise s = .next ((s.setLink { s.link with trans := .idle, timer := none, rx := [] }).raise .linkFault)) ∧
    (s.link.trans = .request → frameWhole s.link.rx = true →
      exec .selnRise s = .next (s.setLink { s.link with trans := .idle, timer := none })) ∧
    (s.link.trans = .opened ∨ s.link.trans = .afterFrame ∨ s.link.trans = .ignored ∨ s.link.trans = .missed ∨
        s.link.trans = .collect none →
      exec .selnRise s = .next (s.setLink { s.link with trans := .idle, timer := none })) ∧
    (∀ f : CollectFrame, s.link.trans = .collect (some f) →
      exec .selnRise s =
        .next (s.setLink { s.link with
          trans := .idle
          timer := none
          response := if f.isResponse = true ∧ f.bytes.length ≤ f.shifted then none else s.link.response }))

/-- REQUEST_FRAME_END (R169, R171, R172, R181): a frame that is not whole has no end; one that finds the link BUSY is
discarded with OVERRUN and LINK_FAULT; one that finds it IDLE drops a held response and is judged: over-long, a wrong check
byte, or what the catalogue makes of it. That the frame end is a step of its own is the model's choice
(notes/assumptions/8.md), and so are that without a whole frame it is nothing (9.md) and that the link itself answers a SET
SERVICE with a third service state with RANGE at the frame end, where R171 hands it to its owner (11.md). -/
def Obligations.RequestFrameEndJudges : Prop :=
  ∀ s : State,
    (frameWhole s.link.rx = false → exec .requestFrameEnd s = .next s) ∧
    (∀ f : InFlight, frameWhole s.link.rx = true → s.link.inFlight = some f →
      ∃ t, exec .requestFrameEnd s = .next t ∧ t.link.inFlight = some { f with overrun := true } ∧ t.link.rx = [] ∧
        t.link.response = s.link.response ∧ t.flag .linkFault = true ∧ t.answer = s.answer) ∧
    (∀ (code tag n : Byte) (payload : List Byte) (check : Byte), s.link.inFlight = none →
      s.link.rx = code :: tag :: n :: payload ++ [check] → payload.length = n.toNat → n.toNat ≤ 40 →
      ∃ t work, exec .requestFrameEnd s = .next t ∧
        t.link.inFlight = some ⟨tag, s.link.response.isSome, false, work⟩ ∧ t.link.response = none ∧ t.link.rx = [] ∧
        t.answer = s.answer ∧ t.alarm = s.alarm ∧ t.roster = s.roster ∧
        (check ≠ crc8 (code :: tag :: n :: payload) →
          work = .done (.refusal .badCheck) ∧ t.flag .linkFault = true) ∧
        (check = crc8 (code :: tag :: n :: payload) →
          t.flag .linkFault = s.flag .linkFault ∧
          (requestOf code payload = .unknown → work = .done (.refusal .unknown)) ∧
          (requestOf code payload = .badLength → work = .done (.refusal .badLength)) ∧
          (requestOf code payload = .badService → work = .done (.refusal .range)) ∧
          (∀ c, requestOf code payload = .command c → work = .awaiting c))) ∧
    (∀ code tag n : Byte, s.link.inFlight = none → s.link.rx = [code, tag, n] → 40 < n.toNat →
      ∃ t, exec .requestFrameEnd s = .next t ∧
        t.link.inFlight = some ⟨tag, s.link.response.isSome, false, .done (.refusal .badLength)⟩ ∧
        t.flag .linkFault = true)

/-- COMMAND_COMPLETION, COLLECT and SDO (R170, R171, R174, R175): the command in flight places its response and frees the link;
a marked command's completion places nothing, its owner carrying it out whole (R178); a COMMIT whose check goes on has no
completion; a collect chooses the held response, a BUSY frame or a NONE frame, with ATTN as it stands, and its check byte
makes the whole frame's remainder 0 (R169); SDO shifts that frame out, and 0x00 otherwise, and is high impedance while SELN is
high or RSTN low (R167, R178). That a completion takes a command not yet taken, as its own row would, is the model's choice
(notes/assumptions/7.md), and so are a completion or collect without its occasion (9.md), the status of a COMMIT whose check a
RESTART has abandoned (33.md), and SDO in a transaction found in progress at reset (32.md). -/
def Obligations.CompletionsAndCollects : Prop :=
  (∀ (c : Instr) (s : State), c.request ≠ none →
    exec c s = .next { (ownerTakes c s).1 with
      answer := (ownerTakes c s).2, link := s.link.takeUp c (ownerTakes c s).2 }) ∧
  (∀ (f : InFlight) (a : Answer) (s : State), s.link.inFlight = some f → f.work = .done a →
    exec (.commandCompletion false) s =
      .next (s.setLink { s.link with
        inFlight := none, response := some ⟨a.status, f.dropped, f.overrun, f.tag, a.payload⟩ })) ∧
  (∀ (f : InFlight) (c : Instr) (a : Answer) (s : State), s.link.inFlight = some f → f.work = .awaiting c →
    (ownerTakes c s).2 = some a →
    exec (.commandCompletion false) s = .next { (ownerTakes c s).1 with
      answer := some a
      link := { s.link with
        inFlight := none, response := some ⟨a.status, f.dropped, f.overrun, f.tag, a.payload⟩ } }) ∧
  (∀ (f : InFlight) (s : State), s.link.inFlight = some f → f.work = .awaiting .commit → (ownerTakes .commit s).2 = none →
    exec (.commandCompletion false) s = .next { (ownerTakes .commit s).1 with
      answer := none, link := { s.link with inFlight := some { f with work := .checking } } }) ∧
  (∀ (f : InFlight) (s : State), s.link.inFlight = some f → f.work = .checking →
    ((∃ e, s.edit = some e ∧ e.phase = .validating) → exec (.commandCompletion false) s = .next s) ∧
    ((∀ e, s.edit = some e → e.phase = .openPhase) →
      exec (.commandCompletion false) s =
        .next (s.setLink { s.link with
          inFlight := none, response := some ⟨Config.abandonedCommit, f.dropped, f.overrun, f.tag, []⟩ }))) ∧
  (∀ s : State, s.link.inFlight = none → exec (.commandCompletion false) s = .next s) ∧
  (∀ (a : Answer) (rest : List Work) (s : State), s.link.marked = .done a :: rest →
    exec (.commandCompletion true) s = .next (s.setLink { s.link with marked := rest })) ∧
  (∀ (c : Instr) (a : Answer) (rest : List Work) (s : State), s.link.marked = .awaiting c :: rest →
    (ownerTakes c s).2 = some a →
    exec (.commandCompletion true) s =
      .next { (ownerTakes c s).1 with answer := some a, link := { s.link with marked := rest } }) ∧
  (∀ (rest : List Work) (s : State), s.link.marked = .awaiting .commit :: rest → (ownerTakes .commit s).2 = none →
    exec (.commandCompletion true) s = .next { (ownerTakes .commit s).1 with
      answer := none, link := { s.link with marked := rest ++ [.checking] } }) ∧
  (∀ (rest : List Work) (s : State), s.link.marked = .checking :: rest → (∀ e, s.edit = some e → e.phase = .openPhase) →
    exec (.commandCompletion true) s = .next (s.setLink { s.link with marked := rest })) ∧
  (∀ s : State, (∀ w ∈ s.link.marked, w = .checking ∧ ∃ e, s.edit = some e ∧ e.phase = .validating) →
    exec (.commandCompletion true) s = .next s) ∧
  (∀ s : State, s.link.trans = .collect none → ∃ r : Response, ∃ held : Bool,
    exec .collect s =
      .next (s.setLink { s.link with
        trans := .collect (some
          { bytes := [r.status.code, byteOf (r.dropped.toNat + 2 * r.overrun.toNat + 4 * s.attn.toNat), r.tag,
              byteOf r.payload.length] ++ r.payload ++
              [crc8 ([r.status.code, byteOf (r.dropped.toNat + 2 * r.overrun.toNat + 4 * s.attn.toNat), r.tag,
                byteOf r.payload.length] ++ r.payload)]
            shifted := 0
            isResponse := held }) }) ∧
    (∀ x, s.link.response = some x → r = x ∧ held = true) ∧
    (∀ f, s.link.response = none → s.link.inFlight = some f → r = ⟨.busy, f.dropped, f.overrun, f.tag, []⟩ ∧ held = false) ∧
    (s.link.response = none → s.link.inFlight = none → r = ⟨.none, false, false, 0, []⟩ ∧ held = false)) ∧
  (∀ s : State, s.link.trans ≠ .collect none → exec .collect s = .next s) ∧
  (∀ s : State, s.sdoPin .low = none ∧
    (s.link.trans = .idle → s.sdoPin .high = none) ∧
    (s.link.trans = .opened ∨ s.link.trans = .request ∨ s.link.trans = .afterFrame ∨ s.link.trans = .ignored ∨
        s.link.trans = .collect none →
      s.sdoPin .high = some 0) ∧
    (s.link.trans = .missed → s.sdoPin .high = Config.ignoredSdo) ∧
    (∀ f : CollectFrame, s.link.trans = .collect (some f) →
      (∀ b : Byte, f.bytes[f.shifted]? = some b → s.sdoPin .high = some b) ∧
      (f.bytes.length ≤ f.shifted → s.sdoPin .high = some 0))) ∧
  (∀ m : List Byte, crc8 (m ++ [crc8 m]) = 0)

/-- LINK_RESET (R178): the receive frame and the response go, a command in flight is marked and goes on, LINK_FAULT is set,
and no other block changes; without a running timer there is none. That a frame being shifted out goes on is the model's
reading (notes/assumptions/19.md), and that the row takes effect whenever its timer runs the model's choice
(notes/assumptions/3.md). -/
def Obligations.LinkResetClearsLink : Prop :=
  ∀ s : State,
    (s.link.timer = none → exec .linkReset s = .next s) ∧
    (s.link.timer ≠ none → ∃ l : Link,
      exec .linkReset s = .next ((s.setLink l).raise .linkFault) ∧ l.rx = [] ∧ l.response = none ∧ l.inFlight = none ∧
      l.timer = none ∧
      (∀ f, s.link.inFlight = some f → l.marked = s.link.marked ++ [f.work]) ∧
      (s.link.inFlight = none → l.marked = s.link.marked) ∧
      (∀ f, s.link.trans = .collect (some f) → l.trans = s.link.trans) ∧
      (s.link.trans = .request ∨ s.link.trans = .opened ∨ s.link.trans = .afterFrame → l.trans = .ignored))

/-! ## Events -/

/-- R190 and R191: READ EVENTS reports flags and mask, CLEAR EVENTS clears exactly the named flags, WRITE EVENT MASK
replaces the mask; bits 12 to 15 are refused; and ATTN is asserted exactly while an enabled flag is set, and released while
RSTN is low (R189). -/
def Obligations.EventFlagsAndMask : Prop :=
  ∀ s : State,
    (∃ h₁ l₁ h₂ l₂ : Byte, exec .readEvents s = .next (s.answered .readEvents (.okWith [h₁, l₁, h₂, l₂])) ∧
      halfFrom h₁ l₁ = s.events.setWidth 16 ∧ halfFrom h₂ l₂ = s.mask.setWidth 16) ∧
    (∀ x : Half, 4095 < x.toNat →
      exec (.clearEvents x) s = .next (s.answered (.clearEvents x) (.refusal .range)) ∧
      exec (.writeEventMask x) s = .next (s.answered (.writeEventMask x) (.refusal .range))) ∧
    (∀ x : Half, x.toNat ≤ 4095 → ∃ e : BitVec 12,
      exec (.clearEvents x) s = .next (({ s with events := e } : State).answered (.clearEvents x) (.okWith [])) ∧
      ∀ n : Fin 12, e.getLsbD n.val = (s.events.getLsbD n.val && !x.getLsbD n.val)) ∧
    (∀ x : Half, x.toNat ≤ 4095 → ∃ m : BitVec 12,
      exec (.writeEventMask x) s = .next (({ s with mask := m } : State).answered (.writeEventMask x) (.okWith [])) ∧
      ∀ n : Fin 12, m.getLsbD n.val = x.getLsbD n.val) ∧
    (s.attn = true ↔ ∃ n : Fin 12, s.events.getLsbD n.val = true ∧ s.mask.getLsbD n.val = true) ∧
    s.attnPin .high = s.attn ∧ s.attnPin .low = false

/-! ## Encoding -/

/-- The catalogue (R181): every command that a host can send has its code and payload, and the link reads from them that
command, with every operand at every value. -/
def Obligations.RequestsDecodeToTheirCommands : Prop :=
  ∀ (c : Instr) (code : Byte) (payload : List Byte), c.wellFormed = true → c.request = some (code, payload) →
    requestOf code payload = .command c ∧ payload.length ≤ 40 ∧ code ≠ 0

/-- A request frame clocked in on an idle port (R167 to R169, R171, R183): after its bytes and its frame end, the command it
carries is in flight, with its tag, and awaits its owner. That the frame end is a step of its own is the model's choice
(notes/assumptions/8.md). -/
def Obligations.FramesReachTheirOwner : Prop :=
  ∀ (c : Instr) (code tag : Byte) (payload : List Byte) (s t : State), c.wellFormed = true →
    c.request = some (code, payload) → s.link.trans = .idle → s.link.inFlight = none →
    runAll (.selnFall :: (requestFrame code tag payload).map .byteCompletion ++ [.requestFrameEnd]) s = .next t →
    t.link.inFlight = some ⟨tag, s.link.response.isSome, false, .awaiting c⟩ ∧ t.link.response = none ∧
      t.link.rx = [] ∧ t.events = s.events

/-! ## Invariants that every step keeps -/

/-- The configuration stays within its ranges (R2, R3, R14, R18, R129). -/
def Obligations.StepKeepsConfigLegal : Prop :=
  ∀ s t : State, s.ConfigLegal → step s = .next t → t.ConfigLegal

/-- The cue library holds legal cues only, and the built-in cues for ever (R127, R132, R135). -/
def Obligations.StepKeepsCuesLegal : Prop :=
  ∀ s t : State, s.CuesLegal → step s = .next t → t.CuesLegal

/-- The receive frame keeps to its length, and the link reset timer to the transaction (R168, R178); and the debounce timer
of a key runs exactly while its line differs from its debounced state (R110, R111). -/
def Obligations.StepKeepsLinkAndKeysLegal : Prop :=
  (∀ s t : State, s.LinkLegal → step s = .next t → t.LinkLegal) ∧
  (∀ s t : State, s.KeysLegal → step s = .next t → t.KeysLegal)

/-- The alarm picture stays consistent (R1, R31, R36, R61, R63, R66, R69, R85, R87, R88, R94, R95). The step includes the
passing of time, the model's choice (notes/assumptions/2.md). -/
def Obligations.StepKeepsPictureLegal : Prop :=
  ∀ s t : State, s.ConfigLegal → s.PictureLegal → step s = .next t → t.PictureLegal

/-- Raw conditions keep following their sources, and the faulted-line set keeps being the one derived (R27 to R30, R75). -/
def Obligations.StepKeepsSourcesFollowed : Prop :=
  ∀ s t : State, s.ConfigLegal → s.PictureLegal → s.SourcesFollowed → step s = .next t → t.SourcesFollowed

/-- The tone channels keep serving what is wanted (R148, R152, R153, R158). The clauses `hold` and `pass` are of the policy
of a pass, the model's own field (notes/assumptions/34.md); that `idle` and `immediate` hold after an ERASE CUE, a COMMIT
and a sounded mark rests on the model's readings of when channels compare (notes/assumptions/15.md, 17.md and 36.md); and
the step includes the passing of time, the model's choice (notes/assumptions/2.md). -/
def Obligations.StepKeepsChannelsServing : Prop :=
  ∀ s t : State, s.CuesLegal → s.PictureLegal → s.ChannelsServe → step s = .next t → t.ChannelsServe

/-- Right after reset every invariant holds. The key lines and SELN stand high there by the model's choice
(notes/assumptions/12.md). -/
def Obligations.ResetMeetsInvariants : Prop :=
  State.reset.ConfigLegal ∧ State.reset.CuesLegal ∧ State.reset.LinkLegal ∧ State.reset.KeysLegal ∧
    State.reset.PictureLegal ∧ State.reset.SourcesFollowed ∧ State.reset.ChannelsServe
end

