-- ==== Sys2Proof/Laws/State.lean ====
section
/-!
SUPPORT. The updates of the state, field by field: what each of them writes and that it leaves every other field as it was.
All hold by unfolding, and all are in the simp set, so that no later proof unfolds a record update.
-/

namespace Sys2Proof.Machine

variable (s : State)

/-! ### setAlarm -/

@[simp] theorem State.setAlarm_config (p : PointId) (a : AlarmState) : (s.setAlarm p a).config = s.config := rfl
@[simp] theorem State.setAlarm_service (p : PointId) (a : AlarmState) : (s.setAlarm p a).service = s.service := rfl
@[simp] theorem State.setAlarm_classInterval (p : PointId) (a : AlarmState) : (s.setAlarm p a).classInterval = s.classInterval := rfl
@[simp] theorem State.setAlarm_lines (p : PointId) (a : AlarmState) : (s.setAlarm p a).lines = s.lines := rfl
@[simp] theorem State.setAlarm_thresholds (p : PointId) (a : AlarmState) : (s.setAlarm p a).thresholds = s.thresholds := rfl
@[simp] theorem State.setAlarm_faulted (p : PointId) (a : AlarmState) : (s.setAlarm p a).faulted = s.faulted := rfl
@[simp] theorem State.setAlarm_filter (p : PointId) (a : AlarmState) : (s.setAlarm p a).filter = s.filter := rfl
@[simp] theorem State.setAlarm_alarm (p : PointId) (a : AlarmState) : (s.setAlarm p a).alarm = s.alarm.put p a := rfl
@[simp] theorem State.setAlarm_roster (p : PointId) (a : AlarmState) : (s.setAlarm p a).roster = s.roster := rfl
@[simp] theorem State.setAlarm_generalCount (p : PointId) (a : AlarmState) : (s.setAlarm p a).generalCount = s.generalCount := rfl
@[simp] theorem State.setAlarm_deferred (p : PointId) (a : AlarmState) : (s.setAlarm p a).deferred = s.deferred := rfl
@[simp] theorem State.setAlarm_stampCounter (p : PointId) (a : AlarmState) : (s.setAlarm p a).stampCounter = s.stampCounter := rfl
@[simp] theorem State.setAlarm_groups (p : PointId) (a : AlarmState) : (s.setAlarm p a).groups = s.groups := rfl
@[simp] theorem State.setAlarm_shelves (p : PointId) (a : AlarmState) : (s.setAlarm p a).shelves = s.shelves := rfl
@[simp] theorem State.setAlarm_keys (p : PointId) (a : AlarmState) : (s.setAlarm p a).keys = s.keys := rfl
@[simp] theorem State.setAlarm_keyEnables (p : PointId) (a : AlarmState) : (s.setAlarm p a).keyEnables = s.keyEnables := rfl
@[simp] theorem State.setAlarm_panelTest (p : PointId) (a : AlarmState) : (s.setAlarm p a).panelTest = s.panelTest := rfl
@[simp] theorem State.setAlarm_hostTest (p : PointId) (a : AlarmState) : (s.setAlarm p a).hostTest = s.hostTest := rfl
@[simp] theorem State.setAlarm_testSounded (p : PointId) (a : AlarmState) : (s.setAlarm p a).testSounded = s.testSounded := rfl
@[simp] theorem State.setAlarm_flashPhase (p : PointId) (a : AlarmState) : (s.setAlarm p a).flashPhase = s.flashPhase := rfl
@[simp] theorem State.setAlarm_cues (p : PointId) (a : AlarmState) : (s.setAlarm p a).cues = s.cues := rfl
@[simp] theorem State.setAlarm_tones (p : PointId) (a : AlarmState) : (s.setAlarm p a).tones = s.tones := rfl
@[simp] theorem State.setAlarm_edit (p : PointId) (a : AlarmState) : (s.setAlarm p a).edit = s.edit := rfl
@[simp] theorem State.setAlarm_channels (p : PointId) (a : AlarmState) : (s.setAlarm p a).channels = s.channels := rfl
@[simp] theorem State.setAlarm_link (p : PointId) (a : AlarmState) : (s.setAlarm p a).link = s.link := rfl
@[simp] theorem State.setAlarm_events (p : PointId) (a : AlarmState) : (s.setAlarm p a).events = s.events := rfl
@[simp] theorem State.setAlarm_mask (p : PointId) (a : AlarmState) : (s.setAlarm p a).mask = s.mask := rfl
@[simp] theorem State.setAlarm_answer (p : PointId) (a : AlarmState) : (s.setAlarm p a).answer = s.answer := rfl
@[simp] theorem State.setAlarm_freeCount (p : PointId) (a : AlarmState) : (s.setAlarm p a).freeCount = s.freeCount := rfl
@[simp] theorem State.setAlarm_pending (p : PointId) (a : AlarmState) : (s.setAlarm p a).pending = s.pending := rfl

/-! ### setService -/

@[simp] theorem State.setService_config (p : PointId) (v : Service) : (s.setService p v).config = s.config := rfl
@[simp] theorem State.setService_service (p : PointId) (v : Service) : (s.setService p v).service = s.service.put p v := rfl
@[simp] theorem State.setService_classInterval (p : PointId) (v : Service) : (s.setService p v).classInterval = s.classInterval := rfl
@[simp] theorem State.setService_lines (p : PointId) (v : Service) : (s.setService p v).lines = s.lines := rfl
@[simp] theorem State.setService_thresholds (p : PointId) (v : Service) : (s.setService p v).thresholds = s.thresholds := rfl
@[simp] theorem State.setService_faulted (p : PointId) (v : Service) : (s.setService p v).faulted = s.faulted := rfl
@[simp] theorem State.setService_filter (p : PointId) (v : Service) : (s.setService p v).filter = s.filter := rfl
@[simp] theorem State.setService_alarm (p : PointId) (v : Service) : (s.setService p v).alarm = s.alarm := rfl
@[simp] theorem State.setService_roster (p : PointId) (v : Service) : (s.setService p v).roster = s.roster := rfl
@[simp] theorem State.setService_generalCount (p : PointId) (v : Service) : (s.setService p v).generalCount = s.generalCount := rfl
@[simp] theorem State.setService_deferred (p : PointId) (v : Service) : (s.setService p v).deferred = s.deferred := rfl
@[simp] theorem State.setService_stampCounter (p : PointId) (v : Service) : (s.setService p v).stampCounter = s.stampCounter := rfl
@[simp] theorem State.setService_groups (p : PointId) (v : Service) : (s.setService p v).groups = s.groups := rfl
@[simp] theorem State.setService_shelves (p : PointId) (v : Service) : (s.setService p v).shelves = s.shelves := rfl
@[simp] theorem State.setService_keys (p : PointId) (v : Service) : (s.setService p v).keys = s.keys := rfl
@[simp] theorem State.setService_keyEnables (p : PointId) (v : Service) : (s.setService p v).keyEnables = s.keyEnables := rfl
@[simp] theorem State.setService_panelTest (p : PointId) (v : Service) : (s.setService p v).panelTest = s.panelTest := rfl
@[simp] theorem State.setService_hostTest (p : PointId) (v : Service) : (s.setService p v).hostTest = s.hostTest := rfl
@[simp] theorem State.setService_testSounded (p : PointId) (v : Service) : (s.setService p v).testSounded = s.testSounded := rfl
@[simp] theorem State.setService_flashPhase (p : PointId) (v : Service) : (s.setService p v).flashPhase = s.flashPhase := rfl
@[simp] theorem State.setService_cues (p : PointId) (v : Service) : (s.setService p v).cues = s.cues := rfl
@[simp] theorem State.setService_tones (p : PointId) (v : Service) : (s.setService p v).tones = s.tones := rfl
@[simp] theorem State.setService_edit (p : PointId) (v : Service) : (s.setService p v).edit = s.edit := rfl
@[simp] theorem State.setService_channels (p : PointId) (v : Service) : (s.setService p v).channels = s.channels := rfl
@[simp] theorem State.setService_link (p : PointId) (v : Service) : (s.setService p v).link = s.link := rfl
@[simp] theorem State.setService_events (p : PointId) (v : Service) : (s.setService p v).events = s.events := rfl
@[simp] theorem State.setService_mask (p : PointId) (v : Service) : (s.setService p v).mask = s.mask := rfl
@[simp] theorem State.setService_answer (p : PointId) (v : Service) : (s.setService p v).answer = s.answer := rfl
@[simp] theorem State.setService_freeCount (p : PointId) (v : Service) : (s.setService p v).freeCount = s.freeCount := rfl
@[simp] theorem State.setService_pending (p : PointId) (v : Service) : (s.setService p v).pending = s.pending := rfl

/-! ### setFilter -/

@[simp] theorem State.setFilter_config (p : PointId) (f : Filter) : (s.setFilter p f).config = s.config := rfl
@[simp] theorem State.setFilter_service (p : PointId) (f : Filter) : (s.setFilter p f).service = s.service := rfl
@[simp] theorem State.setFilter_classInterval (p : PointId) (f : Filter) : (s.setFilter p f).classInterval = s.classInterval := rfl
@[simp] theorem State.setFilter_lines (p : PointId) (f : Filter) : (s.setFilter p f).lines = s.lines := rfl
@[simp] theorem State.setFilter_thresholds (p : PointId) (f : Filter) : (s.setFilter p f).thresholds = s.thresholds := rfl
@[simp] theorem State.setFilter_faulted (p : PointId) (f : Filter) : (s.setFilter p f).faulted = s.faulted := rfl
@[simp] theorem State.setFilter_filter (p : PointId) (f : Filter) : (s.setFilter p f).filter = s.filter.put p f := rfl
@[simp] theorem State.setFilter_alarm (p : PointId) (f : Filter) : (s.setFilter p f).alarm = s.alarm := rfl
@[simp] theorem State.setFilter_roster (p : PointId) (f : Filter) : (s.setFilter p f).roster = s.roster := rfl
@[simp] theorem State.setFilter_generalCount (p : PointId) (f : Filter) : (s.setFilter p f).generalCount = s.generalCount := rfl
@[simp] theorem State.setFilter_deferred (p : PointId) (f : Filter) : (s.setFilter p f).deferred = s.deferred := rfl
@[simp] theorem State.setFilter_stampCounter (p : PointId) (f : Filter) : (s.setFilter p f).stampCounter = s.stampCounter := rfl
@[simp] theorem State.setFilter_groups (p : PointId) (f : Filter) : (s.setFilter p f).groups = s.groups := rfl
@[simp] theorem State.setFilter_shelves (p : PointId) (f : Filter) : (s.setFilter p f).shelves = s.shelves := rfl
@[simp] theorem State.setFilter_keys (p : PointId) (f : Filter) : (s.setFilter p f).keys = s.keys := rfl
@[simp] theorem State.setFilter_keyEnables (p : PointId) (f : Filter) : (s.setFilter p f).keyEnables = s.keyEnables := rfl
@[simp] theorem State.setFilter_panelTest (p : PointId) (f : Filter) : (s.setFilter p f).panelTest = s.panelTest := rfl
@[simp] theorem State.setFilter_hostTest (p : PointId) (f : Filter) : (s.setFilter p f).hostTest = s.hostTest := rfl
@[simp] theorem State.setFilter_testSounded (p : PointId) (f : Filter) : (s.setFilter p f).testSounded = s.testSounded := rfl
@[simp] theorem State.setFilter_flashPhase (p : PointId) (f : Filter) : (s.setFilter p f).flashPhase = s.flashPhase := rfl
@[simp] theorem State.setFilter_cues (p : PointId) (f : Filter) : (s.setFilter p f).cues = s.cues := rfl
@[simp] theorem State.setFilter_tones (p : PointId) (f : Filter) : (s.setFilter p f).tones = s.tones := rfl
@[simp] theorem State.setFilter_edit (p : PointId) (f : Filter) : (s.setFilter p f).edit = s.edit := rfl
@[simp] theorem State.setFilter_channels (p : PointId) (f : Filter) : (s.setFilter p f).channels = s.channels := rfl
@[simp] theorem State.setFilter_link (p : PointId) (f : Filter) : (s.setFilter p f).link = s.link := rfl
@[simp] theorem State.setFilter_events (p : PointId) (f : Filter) : (s.setFilter p f).events = s.events := rfl
@[simp] theorem State.setFilter_mask (p : PointId) (f : Filter) : (s.setFilter p f).mask = s.mask := rfl
@[simp] theorem State.setFilter_answer (p : PointId) (f : Filter) : (s.setFilter p f).answer = s.answer := rfl
@[simp] theorem State.setFilter_freeCount (p : PointId) (f : Filter) : (s.setFilter p f).freeCount = s.freeCount := rfl
@[simp] theorem State.setFilter_pending (p : PointId) (f : Filter) : (s.setFilter p f).pending = s.pending := rfl

/-! ### setGroup -/

@[simp] theorem State.setGroup_config (g : GroupId) (r : GroupRecord) : (s.setGroup g r).config = s.config := rfl
@[simp] theorem State.setGroup_service (g : GroupId) (r : GroupRecord) : (s.setGroup g r).service = s.service := rfl
@[simp] theorem State.setGroup_classInterval (g : GroupId) (r : GroupRecord) : (s.setGroup g r).classInterval = s.classInterval := rfl
@[simp] theorem State.setGroup_lines (g : GroupId) (r : GroupRecord) : (s.setGroup g r).lines = s.lines := rfl
@[simp] theorem State.setGroup_thresholds (g : GroupId) (r : GroupRecord) : (s.setGroup g r).thresholds = s.thresholds := rfl
@[simp] theorem State.setGroup_faulted (g : GroupId) (r : GroupRecord) : (s.setGroup g r).faulted = s.faulted := rfl
@[simp] theorem State.setGroup_filter (g : GroupId) (r : GroupRecord) : (s.setGroup g r).filter = s.filter := rfl
@[simp] theorem State.setGroup_alarm (g : GroupId) (r : GroupRecord) : (s.setGroup g r).alarm = s.alarm := rfl
@[simp] theorem State.setGroup_roster (g : GroupId) (r : GroupRecord) : (s.setGroup g r).roster = s.roster := rfl
@[simp] theorem State.setGroup_generalCount (g : GroupId) (r : GroupRecord) : (s.setGroup g r).generalCount = s.generalCount := rfl
@[simp] theorem State.setGroup_deferred (g : GroupId) (r : GroupRecord) : (s.setGroup g r).deferred = s.deferred := rfl
@[simp] theorem State.setGroup_stampCounter (g : GroupId) (r : GroupRecord) : (s.setGroup g r).stampCounter = s.stampCounter := rfl
@[simp] theorem State.setGroup_groups (g : GroupId) (r : GroupRecord) : (s.setGroup g r).groups = s.groups.put g r := rfl
@[simp] theorem State.setGroup_shelves (g : GroupId) (r : GroupRecord) : (s.setGroup g r).shelves = s.shelves := rfl
@[simp] theorem State.setGroup_keys (g : GroupId) (r : GroupRecord) : (s.setGroup g r).keys = s.keys := rfl
@[simp] theorem State.setGroup_keyEnables (g : GroupId) (r : GroupRecord) : (s.setGroup g r).keyEnables = s.keyEnables := rfl
@[simp] theorem State.setGroup_panelTest (g : GroupId) (r : GroupRecord) : (s.setGroup g r).panelTest = s.panelTest := rfl
@[simp] theorem State.setGroup_hostTest (g : GroupId) (r : GroupRecord) : (s.setGroup g r).hostTest = s.hostTest := rfl
@[simp] theorem State.setGroup_testSounded (g : GroupId) (r : GroupRecord) : (s.setGroup g r).testSounded = s.testSounded := rfl
@[simp] theorem State.setGroup_flashPhase (g : GroupId) (r : GroupRecord) : (s.setGroup g r).flashPhase = s.flashPhase := rfl
@[simp] theorem State.setGroup_cues (g : GroupId) (r : GroupRecord) : (s.setGroup g r).cues = s.cues := rfl
@[simp] theorem State.setGroup_tones (g : GroupId) (r : GroupRecord) : (s.setGroup g r).tones = s.tones := rfl
@[simp] theorem State.setGroup_edit (g : GroupId) (r : GroupRecord) : (s.setGroup g r).edit = s.edit := rfl
@[simp] theorem State.setGroup_channels (g : GroupId) (r : GroupRecord) : (s.setGroup g r).channels = s.channels := rfl
@[simp] theorem State.setGroup_link (g : GroupId) (r : GroupRecord) : (s.setGroup g r).link = s.link := rfl
@[simp] theorem State.setGroup_events (g : GroupId) (r : GroupRecord) : (s.setGroup g r).events = s.events := rfl
@[simp] theorem State.setGroup_mask (g : GroupId) (r : GroupRecord) : (s.setGroup g r).mask = s.mask := rfl
@[simp] theorem State.setGroup_answer (g : GroupId) (r : GroupRecord) : (s.setGroup g r).answer = s.answer := rfl
@[simp] theorem State.setGroup_freeCount (g : GroupId) (r : GroupRecord) : (s.setGroup g r).freeCount = s.freeCount := rfl
@[simp] theorem State.setGroup_pending (g : GroupId) (r : GroupRecord) : (s.setGroup g r).pending = s.pending := rfl

/-! ### setRoster -/

@[simp] theorem State.setRoster_config (l : List RosterRecord) : (s.setRoster l).config = s.config := rfl
@[simp] theorem State.setRoster_service (l : List RosterRecord) : (s.setRoster l).service = s.service := rfl
@[simp] theorem State.setRoster_classInterval (l : List RosterRecord) : (s.setRoster l).classInterval = s.classInterval := rfl
@[simp] theorem State.setRoster_lines (l : List RosterRecord) : (s.setRoster l).lines = s.lines := rfl
@[simp] theorem State.setRoster_thresholds (l : List RosterRecord) : (s.setRoster l).thresholds = s.thresholds := rfl
@[simp] theorem State.setRoster_faulted (l : List RosterRecord) : (s.setRoster l).faulted = s.faulted := rfl
@[simp] theorem State.setRoster_filter (l : List RosterRecord) : (s.setRoster l).filter = s.filter := rfl
@[simp] theorem State.setRoster_alarm (l : List RosterRecord) : (s.setRoster l).alarm = s.alarm := rfl
@[simp] theorem State.setRoster_roster (l : List RosterRecord) : (s.setRoster l).roster = l := rfl
@[simp] theorem State.setRoster_generalCount (l : List RosterRecord) : (s.setRoster l).generalCount = s.generalCount := rfl
@[simp] theorem State.setRoster_deferred (l : List RosterRecord) : (s.setRoster l).deferred = s.deferred := rfl
@[simp] theorem State.setRoster_stampCounter (l : List RosterRecord) : (s.setRoster l).stampCounter = s.stampCounter := rfl
@[simp] theorem State.setRoster_groups (l : List RosterRecord) : (s.setRoster l).groups = s.groups := rfl
@[simp] theorem State.setRoster_shelves (l : List RosterRecord) : (s.setRoster l).shelves = s.shelves := rfl
@[simp] theorem State.setRoster_keys (l : List RosterRecord) : (s.setRoster l).keys = s.keys := rfl
@[simp] theorem State.setRoster_keyEnables (l : List RosterRecord) : (s.setRoster l).keyEnables = s.keyEnables := rfl
@[simp] theorem State.setRoster_panelTest (l : List RosterRecord) : (s.setRoster l).panelTest = s.panelTest := rfl
@[simp] theorem State.setRoster_hostTest (l : List RosterRecord) : (s.setRoster l).hostTest = s.hostTest := rfl
@[simp] theorem State.setRoster_testSounded (l : List RosterRecord) : (s.setRoster l).testSounded = s.testSounded := rfl
@[simp] theorem State.setRoster_flashPhase (l : List RosterRecord) : (s.setRoster l).flashPhase = s.flashPhase := rfl
@[simp] theorem State.setRoster_cues (l : List RosterRecord) : (s.setRoster l).cues = s.cues := rfl
@[simp] theorem State.setRoster_tones (l : List RosterRecord) : (s.setRoster l).tones = s.tones := rfl
@[simp] theorem State.setRoster_edit (l : List RosterRecord) : (s.setRoster l).edit = s.edit := rfl
@[simp] theorem State.setRoster_channels (l : List RosterRecord) : (s.setRoster l).channels = s.channels := rfl
@[simp] theorem State.setRoster_link (l : List RosterRecord) : (s.setRoster l).link = s.link := rfl
@[simp] theorem State.setRoster_events (l : List RosterRecord) : (s.setRoster l).events = s.events := rfl
@[simp] theorem State.setRoster_mask (l : List RosterRecord) : (s.setRoster l).mask = s.mask := rfl
@[simp] theorem State.setRoster_answer (l : List RosterRecord) : (s.setRoster l).answer = s.answer := rfl
@[simp] theorem State.setRoster_freeCount (l : List RosterRecord) : (s.setRoster l).freeCount = s.freeCount := rfl
@[simp] theorem State.setRoster_pending (l : List RosterRecord) : (s.setRoster l).pending = s.pending := rfl

/-! ### setPlayer -/

@[simp] theorem State.setPlayer_config (c : Chan) (p : Option Player) : (s.setPlayer c p).config = s.config := rfl
@[simp] theorem State.setPlayer_service (c : Chan) (p : Option Player) : (s.setPlayer c p).service = s.service := rfl
@[simp] theorem State.setPlayer_classInterval (c : Chan) (p : Option Player) : (s.setPlayer c p).classInterval = s.classInterval := rfl
@[simp] theorem State.setPlayer_lines (c : Chan) (p : Option Player) : (s.setPlayer c p).lines = s.lines := rfl
@[simp] theorem State.setPlayer_thresholds (c : Chan) (p : Option Player) : (s.setPlayer c p).thresholds = s.thresholds := rfl
@[simp] theorem State.setPlayer_faulted (c : Chan) (p : Option Player) : (s.setPlayer c p).faulted = s.faulted := rfl
@[simp] theorem State.setPlayer_filter (c : Chan) (p : Option Player) : (s.setPlayer c p).filter = s.filter := rfl
@[simp] theorem State.setPlayer_alarm (c : Chan) (p : Option Player) : (s.setPlayer c p).alarm = s.alarm := rfl
@[simp] theorem State.setPlayer_roster (c : Chan) (p : Option Player) : (s.setPlayer c p).roster = s.roster := rfl
@[simp] theorem State.setPlayer_generalCount (c : Chan) (p : Option Player) : (s.setPlayer c p).generalCount = s.generalCount := rfl
@[simp] theorem State.setPlayer_deferred (c : Chan) (p : Option Player) : (s.setPlayer c p).deferred = s.deferred := rfl
@[simp] theorem State.setPlayer_stampCounter (c : Chan) (p : Option Player) : (s.setPlayer c p).stampCounter = s.stampCounter := rfl
@[simp] theorem State.setPlayer_groups (c : Chan) (p : Option Player) : (s.setPlayer c p).groups = s.groups := rfl
@[simp] theorem State.setPlayer_shelves (c : Chan) (p : Option Player) : (s.setPlayer c p).shelves = s.shelves := rfl
@[simp] theorem State.setPlayer_keys (c : Chan) (p : Option Player) : (s.setPlayer c p).keys = s.keys := rfl
@[simp] theorem State.setPlayer_keyEnables (c : Chan) (p : Option Player) : (s.setPlayer c p).keyEnables = s.keyEnables := rfl
@[simp] theorem State.setPlayer_panelTest (c : Chan) (p : Option Player) : (s.setPlayer c p).panelTest = s.panelTest := rfl
@[simp] theorem State.setPlayer_hostTest (c : Chan) (p : Option Player) : (s.setPlayer c p).hostTest = s.hostTest := rfl
@[simp] theorem State.setPlayer_testSounded (c : Chan) (p : Option Player) : (s.setPlayer c p).testSounded = s.testSounded := rfl
@[simp] theorem State.setPlayer_flashPhase (c : Chan) (p : Option Player) : (s.setPlayer c p).flashPhase = s.flashPhase := rfl
@[simp] theorem State.setPlayer_cues (c : Chan) (p : Option Player) : (s.setPlayer c p).cues = s.cues := rfl
@[simp] theorem State.setPlayer_tones (c : Chan) (p : Option Player) : (s.setPlayer c p).tones = s.tones := rfl
@[simp] theorem State.setPlayer_edit (c : Chan) (p : Option Player) : (s.setPlayer c p).edit = s.edit := rfl
@[simp] theorem State.setPlayer_channels (c : Chan) (p : Option Player) : (s.setPlayer c p).channels = s.channels.put c { s.channels.get c with player := p } := rfl
@[simp] theorem State.setPlayer_link (c : Chan) (p : Option Player) : (s.setPlayer c p).link = s.link := rfl
@[simp] theorem State.setPlayer_events (c : Chan) (p : Option Player) : (s.setPlayer c p).events = s.events := rfl
@[simp] theorem State.setPlayer_mask (c : Chan) (p : Option Player) : (s.setPlayer c p).mask = s.mask := rfl
@[simp] theorem State.setPlayer_answer (c : Chan) (p : Option Player) : (s.setPlayer c p).answer = s.answer := rfl
@[simp] theorem State.setPlayer_freeCount (c : Chan) (p : Option Player) : (s.setPlayer c p).freeCount = s.freeCount := rfl
@[simp] theorem State.setPlayer_pending (c : Chan) (p : Option Player) : (s.setPlayer c p).pending = s.pending := rfl

/-! ### setLine -/

@[simp] theorem State.setLine_config (n : LineId) (l : LineRecord) : (s.setLine n l).config = s.config := rfl
@[simp] theorem State.setLine_service (n : LineId) (l : LineRecord) : (s.setLine n l).service = s.service := rfl
@[simp] theorem State.setLine_classInterval (n : LineId) (l : LineRecord) : (s.setLine n l).classInterval = s.classInterval := rfl
@[simp] theorem State.setLine_lines (n : LineId) (l : LineRecord) : (s.setLine n l).lines = s.lines.put n l := rfl
@[simp] theorem State.setLine_thresholds (n : LineId) (l : LineRecord) : (s.setLine n l).thresholds = s.thresholds := rfl
@[simp] theorem State.setLine_faulted (n : LineId) (l : LineRecord) : (s.setLine n l).faulted = s.faulted := rfl
@[simp] theorem State.setLine_filter (n : LineId) (l : LineRecord) : (s.setLine n l).filter = s.filter := rfl
@[simp] theorem State.setLine_alarm (n : LineId) (l : LineRecord) : (s.setLine n l).alarm = s.alarm := rfl
@[simp] theorem State.setLine_roster (n : LineId) (l : LineRecord) : (s.setLine n l).roster = s.roster := rfl
@[simp] theorem State.setLine_generalCount (n : LineId) (l : LineRecord) : (s.setLine n l).generalCount = s.generalCount := rfl
@[simp] theorem State.setLine_deferred (n : LineId) (l : LineRecord) : (s.setLine n l).deferred = s.deferred := rfl
@[simp] theorem State.setLine_stampCounter (n : LineId) (l : LineRecord) : (s.setLine n l).stampCounter = s.stampCounter := rfl
@[simp] theorem State.setLine_groups (n : LineId) (l : LineRecord) : (s.setLine n l).groups = s.groups := rfl
@[simp] theorem State.setLine_shelves (n : LineId) (l : LineRecord) : (s.setLine n l).shelves = s.shelves := rfl
@[simp] theorem State.setLine_keys (n : LineId) (l : LineRecord) : (s.setLine n l).keys = s.keys := rfl
@[simp] theorem State.setLine_keyEnables (n : LineId) (l : LineRecord) : (s.setLine n l).keyEnables = s.keyEnables := rfl
@[simp] theorem State.setLine_panelTest (n : LineId) (l : LineRecord) : (s.setLine n l).panelTest = s.panelTest := rfl
@[simp] theorem State.setLine_hostTest (n : LineId) (l : LineRecord) : (s.setLine n l).hostTest = s.hostTest := rfl
@[simp] theorem State.setLine_testSounded (n : LineId) (l : LineRecord) : (s.setLine n l).testSounded = s.testSounded := rfl
@[simp] theorem State.setLine_flashPhase (n : LineId) (l : LineRecord) : (s.setLine n l).flashPhase = s.flashPhase := rfl
@[simp] theorem State.setLine_cues (n : LineId) (l : LineRecord) : (s.setLine n l).cues = s.cues := rfl
@[simp] theorem State.setLine_tones (n : LineId) (l : LineRecord) : (s.setLine n l).tones = s.tones := rfl
@[simp] theorem State.setLine_edit (n : LineId) (l : LineRecord) : (s.setLine n l).edit = s.edit := rfl
@[simp] theorem State.setLine_channels (n : LineId) (l : LineRecord) : (s.setLine n l).channels = s.channels := rfl
@[simp] theorem State.setLine_link (n : LineId) (l : LineRecord) : (s.setLine n l).link = s.link := rfl
@[simp] theorem State.setLine_events (n : LineId) (l : LineRecord) : (s.setLine n l).events = s.events := rfl
@[simp] theorem State.setLine_mask (n : LineId) (l : LineRecord) : (s.setLine n l).mask = s.mask := rfl
@[simp] theorem State.setLine_answer (n : LineId) (l : LineRecord) : (s.setLine n l).answer = s.answer := rfl
@[simp] theorem State.setLine_freeCount (n : LineId) (l : LineRecord) : (s.setLine n l).freeCount = s.freeCount := rfl
@[simp] theorem State.setLine_pending (n : LineId) (l : LineRecord) : (s.setLine n l).pending = s.pending := rfl

/-! ### setLink -/

@[simp] theorem State.setLink_config (l : Link) : (s.setLink l).config = s.config := rfl
@[simp] theorem State.setLink_service (l : Link) : (s.setLink l).service = s.service := rfl
@[simp] theorem State.setLink_classInterval (l : Link) : (s.setLink l).classInterval = s.classInterval := rfl
@[simp] theorem State.setLink_lines (l : Link) : (s.setLink l).lines = s.lines := rfl
@[simp] theorem State.setLink_thresholds (l : Link) : (s.setLink l).thresholds = s.thresholds := rfl
@[simp] theorem State.setLink_faulted (l : Link) : (s.setLink l).faulted = s.faulted := rfl
@[simp] theorem State.setLink_filter (l : Link) : (s.setLink l).filter = s.filter := rfl
@[simp] theorem State.setLink_alarm (l : Link) : (s.setLink l).alarm = s.alarm := rfl
@[simp] theorem State.setLink_roster (l : Link) : (s.setLink l).roster = s.roster := rfl
@[simp] theorem State.setLink_generalCount (l : Link) : (s.setLink l).generalCount = s.generalCount := rfl
@[simp] theorem State.setLink_deferred (l : Link) : (s.setLink l).deferred = s.deferred := rfl
@[simp] theorem State.setLink_stampCounter (l : Link) : (s.setLink l).stampCounter = s.stampCounter := rfl
@[simp] theorem State.setLink_groups (l : Link) : (s.setLink l).groups = s.groups := rfl
@[simp] theorem State.setLink_shelves (l : Link) : (s.setLink l).shelves = s.shelves := rfl
@[simp] theorem State.setLink_keys (l : Link) : (s.setLink l).keys = s.keys := rfl
@[simp] theorem State.setLink_keyEnables (l : Link) : (s.setLink l).keyEnables = s.keyEnables := rfl
@[simp] theorem State.setLink_panelTest (l : Link) : (s.setLink l).panelTest = s.panelTest := rfl
@[simp] theorem State.setLink_hostTest (l : Link) : (s.setLink l).hostTest = s.hostTest := rfl
@[simp] theorem State.setLink_testSounded (l : Link) : (s.setLink l).testSounded = s.testSounded := rfl
@[simp] theorem State.setLink_flashPhase (l : Link) : (s.setLink l).flashPhase = s.flashPhase := rfl
@[simp] theorem State.setLink_cues (l : Link) : (s.setLink l).cues = s.cues := rfl
@[simp] theorem State.setLink_tones (l : Link) : (s.setLink l).tones = s.tones := rfl
@[simp] theorem State.setLink_edit (l : Link) : (s.setLink l).edit = s.edit := rfl
@[simp] theorem State.setLink_channels (l : Link) : (s.setLink l).channels = s.channels := rfl
@[simp] theorem State.setLink_link (l : Link) : (s.setLink l).link = l := rfl
@[simp] theorem State.setLink_events (l : Link) : (s.setLink l).events = s.events := rfl
@[simp] theorem State.setLink_mask (l : Link) : (s.setLink l).mask = s.mask := rfl
@[simp] theorem State.setLink_answer (l : Link) : (s.setLink l).answer = s.answer := rfl
@[simp] theorem State.setLink_freeCount (l : Link) : (s.setLink l).freeCount = s.freeCount := rfl
@[simp] theorem State.setLink_pending (l : Link) : (s.setLink l).pending = s.pending := rfl

/-! ### setEdit -/

@[simp] theorem State.setEdit_config (e : Option EditSession) : (s.setEdit e).config = s.config := rfl
@[simp] theorem State.setEdit_service (e : Option EditSession) : (s.setEdit e).service = s.service := rfl
@[simp] theorem State.setEdit_classInterval (e : Option EditSession) : (s.setEdit e).classInterval = s.classInterval := rfl
@[simp] theorem State.setEdit_lines (e : Option EditSession) : (s.setEdit e).lines = s.lines := rfl
@[simp] theorem State.setEdit_thresholds (e : Option EditSession) : (s.setEdit e).thresholds = s.thresholds := rfl
@[simp] theorem State.setEdit_faulted (e : Option EditSession) : (s.setEdit e).faulted = s.faulted := rfl
@[simp] theorem State.setEdit_filter (e : Option EditSession) : (s.setEdit e).filter = s.filter := rfl
@[simp] theorem State.setEdit_alarm (e : Option EditSession) : (s.setEdit e).alarm = s.alarm := rfl
@[simp] theorem State.setEdit_roster (e : Option EditSession) : (s.setEdit e).roster = s.roster := rfl
@[simp] theorem State.setEdit_generalCount (e : Option EditSession) : (s.setEdit e).generalCount = s.generalCount := rfl
@[simp] theorem State.setEdit_deferred (e : Option EditSession) : (s.setEdit e).deferred = s.deferred := rfl
@[simp] theorem State.setEdit_stampCounter (e : Option EditSession) : (s.setEdit e).stampCounter = s.stampCounter := rfl
@[simp] theorem State.setEdit_groups (e : Option EditSession) : (s.setEdit e).groups = s.groups := rfl
@[simp] theorem State.setEdit_shelves (e : Option EditSession) : (s.setEdit e).shelves = s.shelves := rfl
@[simp] theorem State.setEdit_keys (e : Option EditSession) : (s.setEdit e).keys = s.keys := rfl
@[simp] theorem State.setEdit_keyEnables (e : Option EditSession) : (s.setEdit e).keyEnables = s.keyEnables := rfl
@[simp] theorem State.setEdit_panelTest (e : Option EditSession) : (s.setEdit e).panelTest = s.panelTest := rfl
@[simp] theorem State.setEdit_hostTest (e : Option EditSession) : (s.setEdit e).hostTest = s.hostTest := rfl
@[simp] theorem State.setEdit_testSounded (e : Option EditSession) : (s.setEdit e).testSounded = s.testSounded := rfl
@[simp] theorem State.setEdit_flashPhase (e : Option EditSession) : (s.setEdit e).flashPhase = s.flashPhase := rfl
@[simp] theorem State.setEdit_cues (e : Option EditSession) : (s.setEdit e).cues = s.cues := rfl
@[simp] theorem State.setEdit_tones (e : Option EditSession) : (s.setEdit e).tones = s.tones := rfl
@[simp] theorem State.setEdit_edit (e : Option EditSession) : (s.setEdit e).edit = e := rfl
@[simp] theorem State.setEdit_channels (e : Option EditSession) : (s.setEdit e).channels = s.channels := rfl
@[simp] theorem State.setEdit_link (e : Option EditSession) : (s.setEdit e).link = s.link := rfl
@[simp] theorem State.setEdit_events (e : Option EditSession) : (s.setEdit e).events = s.events := rfl
@[simp] theorem State.setEdit_mask (e : Option EditSession) : (s.setEdit e).mask = s.mask := rfl
@[simp] theorem State.setEdit_answer (e : Option EditSession) : (s.setEdit e).answer = s.answer := rfl
@[simp] theorem State.setEdit_freeCount (e : Option EditSession) : (s.setEdit e).freeCount = s.freeCount := rfl
@[simp] theorem State.setEdit_pending (e : Option EditSession) : (s.setEdit e).pending = s.pending := rfl

/-! ### raise -/

@[simp] theorem State.raise_config (e : Event) : (s.raise e).config = s.config := rfl
@[simp] theorem State.raise_service (e : Event) : (s.raise e).service = s.service := rfl
@[simp] theorem State.raise_classInterval (e : Event) : (s.raise e).classInterval = s.classInterval := rfl
@[simp] theorem State.raise_lines (e : Event) : (s.raise e).lines = s.lines := rfl
@[simp] theorem State.raise_thresholds (e : Event) : (s.raise e).thresholds = s.thresholds := rfl
@[simp] theorem State.raise_faulted (e : Event) : (s.raise e).faulted = s.faulted := rfl
@[simp] theorem State.raise_filter (e : Event) : (s.raise e).filter = s.filter := rfl
@[simp] theorem State.raise_alarm (e : Event) : (s.raise e).alarm = s.alarm := rfl
@[simp] theorem State.raise_roster (e : Event) : (s.raise e).roster = s.roster := rfl
@[simp] theorem State.raise_generalCount (e : Event) : (s.raise e).generalCount = s.generalCount := rfl
@[simp] theorem State.raise_deferred (e : Event) : (s.raise e).deferred = s.deferred := rfl
@[simp] theorem State.raise_stampCounter (e : Event) : (s.raise e).stampCounter = s.stampCounter := rfl
@[simp] theorem State.raise_groups (e : Event) : (s.raise e).groups = s.groups := rfl
@[simp] theorem State.raise_shelves (e : Event) : (s.raise e).shelves = s.shelves := rfl
@[simp] theorem State.raise_keys (e : Event) : (s.raise e).keys = s.keys := rfl
@[simp] theorem State.raise_keyEnables (e : Event) : (s.raise e).keyEnables = s.keyEnables := rfl
@[simp] theorem State.raise_panelTest (e : Event) : (s.raise e).panelTest = s.panelTest := rfl
@[simp] theorem State.raise_hostTest (e : Event) : (s.raise e).hostTest = s.hostTest := rfl
@[simp] theorem State.raise_testSounded (e : Event) : (s.raise e).testSounded = s.testSounded := rfl
@[simp] theorem State.raise_flashPhase (e : Event) : (s.raise e).flashPhase = s.flashPhase := rfl
@[simp] theorem State.raise_cues (e : Event) : (s.raise e).cues = s.cues := rfl
@[simp] theorem State.raise_tones (e : Event) : (s.raise e).tones = s.tones := rfl
@[simp] theorem State.raise_edit (e : Event) : (s.raise e).edit = s.edit := rfl
@[simp] theorem State.raise_channels (e : Event) : (s.raise e).channels = s.channels := rfl
@[simp] theorem State.raise_link (e : Event) : (s.raise e).link = s.link := rfl
@[simp] theorem State.raise_events (e : Event) : (s.raise e).events = s.events ||| e.bit := rfl
@[simp] theorem State.raise_mask (e : Event) : (s.raise e).mask = s.mask := rfl
@[simp] theorem State.raise_answer (e : Event) : (s.raise e).answer = s.answer := rfl
@[simp] theorem State.raise_freeCount (e : Event) : (s.raise e).freeCount = s.freeCount := rfl
@[simp] theorem State.raise_pending (e : Event) : (s.raise e).pending = s.pending := rfl

/-! ### answered -/

@[simp] theorem State.answered_config (c : Instr) (a : Answer) : (s.answered c a).config = s.config := rfl
@[simp] theorem State.answered_service (c : Instr) (a : Answer) : (s.answered c a).service = s.service := rfl
@[simp] theorem State.answered_classInterval (c : Instr) (a : Answer) : (s.answered c a).classInterval = s.classInterval := rfl
@[simp] theorem State.answered_lines (c : Instr) (a : Answer) : (s.answered c a).lines = s.lines := rfl
@[simp] theorem State.answered_thresholds (c : Instr) (a : Answer) : (s.answered c a).thresholds = s.thresholds := rfl
@[simp] theorem State.answered_faulted (c : Instr) (a : Answer) : (s.answered c a).faulted = s.faulted := rfl
@[simp] theorem State.answered_filter (c : Instr) (a : Answer) : (s.answered c a).filter = s.filter := rfl
@[simp] theorem State.answered_alarm (c : Instr) (a : Answer) : (s.answered c a).alarm = s.alarm := rfl
@[simp] theorem State.answered_roster (c : Instr) (a : Answer) : (s.answered c a).roster = s.roster := rfl
@[simp] theorem State.answered_generalCount (c : Instr) (a : Answer) : (s.answered c a).generalCount = s.generalCount := rfl
@[simp] theorem State.answered_deferred (c : Instr) (a : Answer) : (s.answered c a).deferred = s.deferred := rfl
@[simp] theorem State.answered_stampCounter (c : Instr) (a : Answer) : (s.answered c a).stampCounter = s.stampCounter := rfl
@[simp] theorem State.answered_groups (c : Instr) (a : Answer) : (s.answered c a).groups = s.groups := rfl
@[simp] theorem State.answered_shelves (c : Instr) (a : Answer) : (s.answered c a).shelves = s.shelves := rfl
@[simp] theorem State.answered_keys (c : Instr) (a : Answer) : (s.answered c a).keys = s.keys := rfl
@[simp] theorem State.answered_keyEnables (c : Instr) (a : Answer) : (s.answered c a).keyEnables = s.keyEnables := rfl
@[simp] theorem State.answered_panelTest (c : Instr) (a : Answer) : (s.answered c a).panelTest = s.panelTest := rfl
@[simp] theorem State.answered_hostTest (c : Instr) (a : Answer) : (s.answered c a).hostTest = s.hostTest := rfl
@[simp] theorem State.answered_testSounded (c : Instr) (a : Answer) : (s.answered c a).testSounded = s.testSounded := rfl
@[simp] theorem State.answered_flashPhase (c : Instr) (a : Answer) : (s.answered c a).flashPhase = s.flashPhase := rfl
@[simp] theorem State.answered_cues (c : Instr) (a : Answer) : (s.answered c a).cues = s.cues := rfl
@[simp] theorem State.answered_tones (c : Instr) (a : Answer) : (s.answered c a).tones = s.tones := rfl
@[simp] theorem State.answered_edit (c : Instr) (a : Answer) : (s.answered c a).edit = s.edit := rfl
@[simp] theorem State.answered_channels (c : Instr) (a : Answer) : (s.answered c a).channels = s.channels := rfl
@[simp] theorem State.answered_link (c : Instr) (a : Answer) : (s.answered c a).link = s.link.takeUp c (some a) := rfl
@[simp] theorem State.answered_events (c : Instr) (a : Answer) : (s.answered c a).events = s.events := rfl
@[simp] theorem State.answered_mask (c : Instr) (a : Answer) : (s.answered c a).mask = s.mask := rfl
@[simp] theorem State.answered_answer (c : Instr) (a : Answer) : (s.answered c a).answer = some a := rfl
@[simp] theorem State.answered_freeCount (c : Instr) (a : Answer) : (s.answered c a).freeCount = s.freeCount := rfl
@[simp] theorem State.answered_pending (c : Instr) (a : Answer) : (s.answered c a).pending = s.pending := rfl

/-! ### Readings after an update -/

@[simp] theorem State.setAlarm_cfg (p q : PointId) (a : AlarmState) : (s.setAlarm p a).cfg q = s.cfg q := rfl
@[simp] theorem State.setService_cfg (p q : PointId) (v : Service) : (s.setService p v).cfg q = s.cfg q := rfl
@[simp] theorem State.setFilter_cfg (p q : PointId) (f : Filter) : (s.setFilter p f).cfg q = s.cfg q := rfl
@[simp] theorem State.setGroup_cfg (g : GroupId) (q : PointId) (r : GroupRecord) : (s.setGroup g r).cfg q = s.cfg q := rfl
@[simp] theorem State.setRoster_cfg (l : List RosterRecord) (q : PointId) : (s.setRoster l).cfg q = s.cfg q := rfl
@[simp] theorem State.raise_cfg (e : Event) (q : PointId) : (s.raise e).cfg q = s.cfg q := rfl
@[simp] theorem State.setPlayer_cfg (c : Chan) (pl : Option Player) (q : PointId) : (s.setPlayer c pl).cfg q = s.cfg q := rfl

theorem State.alarmOf_setAlarm (p q : PointId) (a : AlarmState) :
    (s.setAlarm p a).alarmOf q = if p = q then a else s.alarmOf q := by
  unfold State.alarmOf
  simp [Table.put, Vector.getElem_set, Fin.val_inj]

@[simp] theorem State.alarmOf_setAlarm_self (p : PointId) (a : AlarmState) : (s.setAlarm p a).alarmOf p = a := by
  simp [State.alarmOf_setAlarm]

theorem State.filterOf_setFilter (p q : PointId) (f : Filter) :
    (s.setFilter p f).filterOf q = if p = q then f else s.filterOf q := by
  unfold State.filterOf
  simp [Table.put, Vector.getElem_set, Fin.val_inj]

@[simp] theorem State.filterOf_setFilter_self (p : PointId) (f : Filter) : (s.setFilter p f).filterOf p = f := by
  simp [State.filterOf_setFilter]

@[simp] theorem State.filterOf_setAlarm (p q : PointId) (a : AlarmState) :
    (s.setAlarm p a).filterOf q = s.filterOf q := rfl
@[simp] theorem State.alarmOf_setFilter (p q : PointId) (f : Filter) : (s.setFilter p f).alarmOf q = s.alarmOf q := rfl
@[simp] theorem State.alarmOf_setRoster (l : List RosterRecord) (q : PointId) :
    (s.setRoster l).alarmOf q = s.alarmOf q := rfl
@[simp] theorem State.alarmOf_raise (e : Event) (q : PointId) : (s.raise e).alarmOf q = s.alarmOf q := rfl

/-- A raised flag is set and every other flag is as it was (R188). -/
theorem State.flag_raise (e f : Event) : (s.raise e).flag f = (s.flag f || decide (e = f)) := by
  unfold State.flag
  cases e <;> cases f <;> simp [State.raise, Event.bit, Event.number]

end Sys2Proof.Machine
end

