-- ==== Sys2Proof/Laws/Host.lean ====
section
/-!
SUPPORT. Host commands: each is its owner's reply handed over to the link, whether the command stands alone or is the command
in flight.
-/

namespace Sys2Proof.Machine

/-- A reply that has its answer, handed over, is the state it left, answered. -/
@[simp] theorem Reply.handOver_some (t : State) (a : Answer) (c : Instr) :
    Reply.handOver (t, some a) c = t.answered c a := rfl

@[simp] theorem State.replyOk_handOver (t : State) (pay : List Byte) (c : Instr) :
    Reply.handOver (t.replyOk pay) c = t.answered c (.okWith pay) := rfl

@[simp] theorem State.refuse_handOver (t : State) (st : Status) (c : Instr) :
    Reply.handOver (t.refuse st) c = t.answered c (.refusal st) := rfl

/-- The commands that a request frame carries (R181). -/
def isHostCommand : Instr → Bool
  | .powerOnReset | .lineSample _ _ | .onDelayExpiry _ | .offDelayExpiry _ | .shelveExpiry _ | .reannounceExpiry _ _
  | .keyLineChange _ _ | .debounceExpiry _ | .panelTestExpiry | .hostTestExpiry | .stepEnd _ | .editIdleTimeout
  | .commitCheckEnd | .selnFall | .requestFrameEnd | .commandCompletion _ | .collect | .selnRise | .linkReset
  | .byteCompletion _ | .ageIncrement _ => false
  | _ => true

/-- A host command is carried out by its owner and handed over to the link (R171). -/
theorem exec_host (c : Instr) (s : State) (h : isHostCommand c = true) :
    exec c s = .next ((ownerTakes c s).handOver c) := by
  cases c <;> first | exact absurd h Bool.false_ne_true | rfl

/-- Every command has a next state: nothing stops the part. -/
theorem exec_next (c : Instr) (s : State) : ∃ t, exec c s = .next t := by
  cases c <;> exact ⟨_, rfl⟩

/-- Every step has a next state. -/
theorem step_next (s : State) : ∃ t, step s = .next t := by
  unfold step
  split
  · exact exec_next _ _
  · exact ⟨_, rfl⟩

end Sys2Proof.Machine
end

