-- ==== Sys2Proof/Laws/Operands.lean ====
section
/-!
SUPPORT. The operand forms read back what was written: numbers, indexes, yes/no bytes, the enumeration codes, two-byte and
four-byte numbers, and the lists of steps and frequencies of a request.
-/

namespace Sys2Proof.Machine

/-- The byte of a number that names a thing reads as that thing. -/
theorem numbered_byteOf {n : Nat} (hn : n ≤ 256) (i : Fin n) : numbered n (byteOf i.val) = some i := by
  have h : (byteOf i.val).toNat = i.val := by
    simp only [byteOf, BitVec.toNat_ofNat]
    exact Nat.mod_eq_of_lt (by omega)
  simp [numbered, h]

@[simp] theorem pointOf_byteOf (p : PointId) : pointOf (byteOf p.val) = some p := numbered_byteOf (by omega) p

/-- A byte from the count of a kind on names nothing of it. -/
theorem numbered_none {n : Nat} {b : Byte} (h : n ≤ b.toNat) : numbered n b = none := by
  simp [numbered, Nat.not_lt.mpr h]

theorem pointOf_none {b : Byte} (h : 63 < b.toNat) : pointOf b = none := numbered_none (by omega)

@[simp] theorem yesNoOf_yesNo (v : Bool) : yesNoOf (yesNo v) = some v := by cases v <;> decide
@[simp] theorem kindOf_code (k : Kind) : kindOf k.code = some k := by cases k <;> decide
@[simp] theorem chanOf_code (c : Chan) : chanOf (chanCode c) = some c := by cases c <;> decide
@[simp] theorem lineModeOf_code (m : LineMode) : lineModeOf m.code = some m := by cases m <;> decide
@[simp] theorem polarityOf_code (q : Polarity) : polarityOf q.code = some q := by cases q <;> decide
@[simp] theorem cuePolicyOf_code (p : CuePolicy) : cuePolicyOf p.code = some p := by cases p <;> decide
@[simp] theorem switchPolicyOf_code (w : SwitchPolicy) : switchPolicyOf w.code = some w := by cases w <;> decide
@[simp] theorem faultResponseOf_code (r : FaultResponse) : faultResponseOf r.code = some r := by cases r <;> decide
@[simp] theorem classNumberOf_byteOf : ∀ c : PriorityClass, classNumberOf (byteOf (c.val + 1)) = some c := by decide

/-- A byte above 1 is neither of two codes 0 and 1. -/
theorem yesNoOf_none {b : Byte} (h : 1 < b.toNat) : yesNoOf b = none := by
  have h₀ : b ≠ 0 := by rintro rfl; simp at h
  have h₁ : b ≠ 1 := by rintro rfl; simp at h
  rw [yesNoOf, if_neg h₀, if_neg h₁]

/-- The record state's code is the code of the alarm state it mirrors (R62, R186). -/
theorem RecordState.code_eq (r : RecordState) : r.code = r.toAlarm.code := by cases r <;> rfl

/-- A two-byte number read back from its bytes (R182). -/
theorem halfFrom_bytes (h : Half) : halfFrom (h.extractLsb' 8 8) (h.extractLsb' 0 8) = h := by
  apply BitVec.eq_of_getLsbD_eq
  intro i hi
  simp only [halfFrom, BitVec.getLsbD_append, BitVec.getLsbD_extractLsb']
  split <;> grind

/-- A four-byte number read back from its bytes (R182). -/
theorem stampFrom_bytes (w : Stamp) :
    stampFrom (w.extractLsb' 24 8) (w.extractLsb' 16 8) (w.extractLsb' 8 8) (w.extractLsb' 0 8) = w := by
  apply BitVec.eq_of_getLsbD_eq
  intro i hi
  simp only [stampFrom, BitVec.getLsbD_append, BitVec.getLsbD_extractLsb']
  split
  · grind
  · split
    · grind
    · split <;> grind

/-- The steps of a WRITE STEPS payload read back. -/
@[simp] theorem stepsOf_flatMap (l : List StepBytes) : stepsOf (l.flatMap fun st => [st.tone, st.length]) = some l := by
  induction l with
  | nil => rfl
  | cons x xs ih => simp [stepsOf, ih]

/-- The frequencies of a WRITE TONES payload read back. -/
@[simp] theorem frequenciesOf_flatMap (l : List Half) : frequenciesOf (l.flatMap halfBytes) = some l := by
  induction l with
  | nil => rfl
  | cons x xs ih => simp [frequenciesOf, ih, halfBytes, halfFrom_bytes]

/-- A receiver that runs the CRC over a whole frame, check byte included, ends with 0 (R169). -/
theorem crcByte_self : ∀ c : Byte, crcByte c c = 0 := by
  intro c
  simp only [crcByte, BitVec.xor_self]
  decide

end Sys2Proof.Machine
end

