-- ==== Sys2Proof/Laws/Sound.lean ====
section
/-!
SUPPORT. What the tone channels can do to the state when demands come and go: they write player contexts and their own
event flags, and nothing else.
-/

namespace Sys2Proof.Machine

/-- The idle flags are flags of the channels (R163). -/
@[simp] theorem idleEvent_ofChannels (c : Chan) : (idleEvent c).ofChannels = true := by cases c <;> rfl

/-! ## Sound frames -/

theorem State.SoundFrame.refl (s : State) : State.SoundFrame s s :=
  ⟨⟨s.channels.a.player, s.channels.b.player, s.events, rfl⟩, fun _ _ => rfl⟩

theorem State.SoundFrame.trans {s t u : State} (h : State.SoundFrame s t) (k : State.SoundFrame t u) :
    State.SoundFrame s u := by
  refine ⟨?_, fun e he => (k.flags e he).trans (h.flags e he)⟩
  obtain ⟨⟨a, b, e, rfl⟩, -⟩ := h
  obtain ⟨⟨c, d, f, rfl⟩, -⟩ := k
  exact ⟨c, d, f, rfl⟩

theorem State.SoundFrame.raise (s : State) {e : Event} (h : e.ofChannels = true) : State.SoundFrame s (s.raise e) := by
  refine ⟨⟨s.channels.a.player, s.channels.b.player, s.events ||| e.bit, rfl⟩, fun f hf => ?_⟩
  have : e ≠ f := by rintro rfl; simp [h] at hf
  simp [State.flag_raise, this]

theorem State.SoundFrame.setPlayer (s : State) (c : Chan) (p : Option Player) : State.SoundFrame s (s.setPlayer c p) := by
  cases c
  · exact ⟨⟨p, s.channels.b.player, s.events, rfl⟩, fun _ _ => rfl⟩
  · exact ⟨⟨s.channels.a.player, p, s.events, rfl⟩, fun _ _ => rfl⟩

theorem State.SoundFrame.noteFallback (s : State) (q : CueId) : State.SoundFrame s (s.noteFallback q) := by
  unfold State.noteFallback
  split
  · exact .refl s
  · exact .raise s rfl

theorem State.SoundFrame.beginPass (s : State) (c : Chan) (d : Demand) : State.SoundFrame s (s.beginPass c d) :=
  (State.SoundFrame.noteFallback s d.cue).trans (.setPlayer _ c _)

theorem State.SoundFrame.goIdle (s : State) (c : Chan) : State.SoundFrame s (s.goIdle c) :=
  (State.SoundFrame.setPlayer s c none).trans (.raise _ (idleEvent_ofChannels c))

theorem State.SoundFrame.switchTo (s : State) (c : Chan) (w : Option Demand) : State.SoundFrame s (s.switchTo c w) := by
  unfold State.switchTo
  split
  · exact .beginPass s c _
  · exact .goIdle s c

/-- One channel's comparison writes player contexts and flags only (R152, R153, R158). -/
theorem State.SoundFrame.compareChannel (s : State) (c : Chan) : State.SoundFrame s (s.compareChannel c) := by
  unfold State.compareChannel
  split
  · split
    · exact .beginPass s c _
    · exact .refl s
  · split
    · exact .refl s
    · split
      · exact .switchTo s c _
      · exact .refl s

/-- Both channels' comparisons write player contexts and flags only. -/
theorem State.SoundFrame.compareChannels (s : State) : State.SoundFrame s s.compareChannels :=
  (State.SoundFrame.compareChannel s .a).trans (.compareChannel _ .b)

/-- A comparison after a change writes player contexts and flags only. -/
theorem State.SoundFrame.compareChannelSince (s before : State) (c : Chan) :
    State.SoundFrame s (s.compareChannelSince before c) := by
  unfold State.compareChannelSince
  split
  · exact .refl s
  · exact .compareChannel s c

/-- Both channels' comparisons after a change write player contexts and flags only. -/
theorem State.SoundFrame.compareSince (s before : State) : State.SoundFrame s (s.compareSince before) :=
  (State.SoundFrame.compareChannelSince s before .a).trans (.compareChannelSince _ before .b)

theorem State.SoundFrame.renewOn (s : State) (p : PointId) (c : Chan) : State.SoundFrame s (s.renewOn p c) := by
  unfold State.renewOn
  split
  · split
    · exact .setPlayer s c _
    · exact .refl s
  · exact .refl s

/-- A renewal writes player contexts only (R157). -/
theorem State.SoundFrame.renewRecord (s : State) (p : PointId) : State.SoundFrame s (s.renewRecord p) :=
  (State.SoundFrame.renewOn s p .a).trans (.renewOn _ p .b)

theorem State.SoundFrame.renewTestOn (s : State) (c : Chan) : State.SoundFrame s (s.renewTestOn c) := by
  unfold State.renewTestOn
  split
  · split
    · exact .setPlayer s c _
    · exact .refl s
  · exact .refl s

/-- A notice of a COMMIT writes player contexts and flags only (R150, R160). -/
theorem State.SoundFrame.noticeReplacement (s before : State) (q : CueId) (c : Chan) :
    State.SoundFrame s (s.noticeReplacement before q c) := by
  unfold State.noticeReplacement
  split
  · split
    · exact .setPlayer s c _
    · exact .compareChannelSince s before c
  · exact .compareChannel s c

/-! ## Demands and comparisons -/

/-- An enabled channel wants the first of its demands (R152). -/
theorem State.wanted_eq (s : State) (c : Chan) :
    s.wanted c = if (s.channels.get c).enabled then (s.demandsOn c).head? else none := by
  unfold State.wanted State.demandsOn
  cases (s.channels.get c).enabled <;> simp [List.head?_append, List.head?_filterMap]
  cases s.roster.findSome? (s.demandOn c) <;> simp
  split <;> rfl

/-- An IDLE channel that wants nothing, or a channel that serves what is wanted, leaves the state as it is at a
comparison. -/
theorem State.compareChannel_idle {s : State} {c : Chan} (h : s.playerOf c = none) (w : s.wanted c = none) :
    s.compareChannel c = s := by
  simp [State.compareChannel, h, w]

theorem State.compareChannel_serving {s : State} {c : Chan} {pl : Player} (h : s.playerOf c = some pl)
    (w : s.wanted c = some pl.current) : s.compareChannel c = s := by
  simp [State.compareChannel, h, w]

/-- Once its demands have changed, a channel compares, replacement pending or not. -/
theorem State.compareChannelSince_changed {s before : State} {c : Chan} (h : before.demandsOn c ≠ s.demandsOn c) :
    s.compareChannelSince before c = s.compareChannel c := by
  simp [State.compareChannelSince, State.finishesStep, h]

/-- A channel without replacement pending compares after every change. -/
theorem State.compareChannelSince_settled {s before : State} {c : Chan}
    (h : ∀ pl, s.playerOf c = some pl → pl.replacementPending = false) :
    s.compareChannelSince before c = s.compareChannel c := by
  unfold State.compareChannelSince State.finishesStep
  cases hp : s.playerOf c with
  | none => rfl
  | some pl => simp [h pl hp]

/-- A channel with replacement pending and the demands it had goes on as it was (R160). -/
theorem State.compareChannelSince_finishing {s before : State} {c : Chan} {pl : Player} (h : s.playerOf c = some pl)
    (pending : pl.replacementPending = true) (same : before.demandsOn c = s.demandsOn c) :
    s.compareChannelSince before c = s := by
  simp [State.compareChannelSince, State.finishesStep, h, pending, same]

end Sys2Proof.Machine
end

