-- ==== Sys2Proof/Laws/Picture.lean ====
section
/-!
SUPPORT. The frame of the alarm picture: edges, admissions, deferrals, retirements, acknowledgements, resets and ends of
shelves touch points' states and filters, the roster, the deferred list, groups, player contexts and event flags, and
nothing of the configuration, the lines, the shelve list, the panel, the cue library, the link or the queue.
-/

namespace Sys2Proof.Machine

theorem State.PictureFrame.refl (s : State) : State.PictureFrame s s := by
  constructor <;> intros <;> rfl

theorem State.PictureFrame.trans {s t u : State} (h : State.PictureFrame s t) (k : State.PictureFrame t u) :
    State.PictureFrame s u where
  config := k.config.trans h.config
  service := k.service.trans h.service
  classInterval := k.classInterval.trans h.classInterval
  lines := k.lines.trans h.lines
  thresholds := k.thresholds.trans h.thresholds
  faulted := k.faulted.trans h.faulted
  shelves := k.shelves.trans h.shelves
  keys := k.keys.trans h.keys
  keyEnables := k.keyEnables.trans h.keyEnables
  panelTest := k.panelTest.trans h.panelTest
  hostTest := k.hostTest.trans h.hostTest
  testSounded := k.testSounded.trans h.testSounded
  flashPhase := k.flashPhase.trans h.flashPhase
  cues := k.cues.trans h.cues
  tones := k.tones.trans h.tones
  edit := k.edit.trans h.edit
  enabled c := (k.enabled c).trans (h.enabled c)
  policy c := (k.policy c).trans (h.policy c)
  link := k.link.trans h.link
  mask := k.mask.trans h.mask
  answer := k.answer.trans h.answer
  freeCount := k.freeCount.trans h.freeCount
  pending := k.pending.trans h.pending

/-- What the tone channels do stays within the frame of the alarm picture. -/
theorem State.SoundFrame.picture {s t : State} (h : State.SoundFrame s t) : State.PictureFrame s t := by
  obtain ⟨⟨a, b, e, rfl⟩, -⟩ := h
  constructor <;> (try intro c; cases c) <;> rfl

/-- Any change of alarm states, filters, roster, count, deferred list, stamp counter, groups and flags stays within the
frame. -/
theorem State.PictureFrame.update (s : State) (al : Table AlarmState 64) (fi : Table Filter 64) (ro : List RosterRecord)
    (n : Nat) (de : List PointId) (st : Stamp) (gr : Table GroupRecord 8) (ev : BitVec 12) :
    State.PictureFrame s
      { s with alarm := al, filter := fi, roster := ro, generalCount := n, deferred := de, stampCounter := st, groups := gr,
               events := ev } := by
  constructor <;> intros <;> rfl

theorem State.PictureFrame.setAlarm (s : State) (p : PointId) (a : AlarmState) : State.PictureFrame s (s.setAlarm p a) :=
  .update s (s.alarm.put p a) s.filter s.roster s.generalCount s.deferred s.stampCounter s.groups s.events

theorem State.PictureFrame.setFilter (s : State) (p : PointId) (f : Filter) : State.PictureFrame s (s.setFilter p f) :=
  .update s s.alarm (s.filter.put p f) s.roster s.generalCount s.deferred s.stampCounter s.groups s.events

theorem State.PictureFrame.setGroup (s : State) (g : GroupId) (r : GroupRecord) : State.PictureFrame s (s.setGroup g r) :=
  .update s s.alarm s.filter s.roster s.generalCount s.deferred s.stampCounter (s.groups.put g r) s.events

theorem State.PictureFrame.setRoster (s : State) (l : List RosterRecord) : State.PictureFrame s (s.setRoster l) :=
  .update s s.alarm s.filter l s.generalCount s.deferred s.stampCounter s.groups s.events

theorem State.PictureFrame.raise (s : State) (e : Event) : State.PictureFrame s (s.raise e) :=
  .update s s.alarm s.filter s.roster s.generalCount s.deferred s.stampCounter s.groups (s.events ||| e.bit)

theorem State.PictureFrame.compareSince (s before : State) : State.PictureFrame s (s.compareSince before) :=
  (State.SoundFrame.compareSince s before).picture

theorem State.PictureFrame.renewRecord (s : State) (p : PointId) : State.PictureFrame s (s.renewRecord p) :=
  (State.SoundFrame.renewRecord s p).picture

theorem State.PictureFrame.modifyRecord (s : State) (p : PointId) (f : RosterRecord → RosterRecord) :
    State.PictureFrame s (s.modifyRecord p f) := .setRoster s _

theorem State.PictureFrame.armQuiet (s : State) : State.PictureFrame s s.armQuiet :=
  .update s s.alarm s.filter s.roster s.generalCount s.deferred s.stampCounter _ s.events

theorem State.PictureFrame.emptySlot (s : State) (g : GroupId) : State.PictureFrame s (s.emptySlot g) := by
  unfold State.emptySlot
  split
  · exact (State.PictureFrame.setGroup s g _).trans (.modifyRecord _ _ _)
  · exact .refl s

theorem State.PictureFrame.decideFirstOut (s : State) (p : PointId) : State.PictureFrame s (s.decideFirstOut p) := by
  unfold State.decideFirstOut
  split
  · exact (State.PictureFrame.setGroup s _ _).trans (.modifyRecord _ _ _)
  · exact .refl s

theorem State.PictureFrame.releaseSlot (s : State) (p : PointId) (v : Bool) :
    State.PictureFrame s (s.releaseSlot p v) := by
  unfold State.releaseSlot
  split
  · split
    · exact .emptySlot s _
    · exact .refl s
  · exact .refl s

/-- An admission stays within the frame (R68). -/
theorem State.PictureFrame.admitPoint (s : State) (p : PointId) : State.PictureFrame s (s.admitPoint p) :=
  ((((State.PictureFrame.update s (s.alarm.put p .alert) s.filter _ _ s.deferred _ s.groups s.events).trans
    (.decideFirstOut _ p)).trans (.raise _ _)).trans (.compareSince _ _))

section Overflow

variable {ovf : State → State} (hovf : ∀ u, State.PictureFrame u (ovf u))
include hovf

/-- A deferral stays within the frame (R70). -/
theorem State.PictureFrame.defer (s : State) (p : PointId) : State.PictureFrame s (State.defer ovf s p) := by
  have h : State.PictureFrame s (({ s.setAlarm p .deferred with deferred := s.insertDeferred p }).raise .deferred) :=
    (State.PictureFrame.update s (s.alarm.put p .deferred) s.filter s.roster s.generalCount _ s.stampCounter s.groups
      s.events).trans (.raise _ _)
  unfold State.defer
  split
  · exact h.trans (hovf _)
  · exact h

theorem State.PictureFrame.handIfEmptied (b : List PointId) (s : State) :
    State.PictureFrame s (handIfEmptied ovf b s) := by
  unfold Sys2Proof.Machine.handIfEmptied
  split
  · exact hovf s
  · exact .refl s

/-- A removal from the deferred list stays within the frame (R71). -/
theorem State.PictureFrame.leaveDeferred (s : State) (p : PointId) (a : AlarmState) :
    State.PictureFrame s (State.leaveDeferred ovf s p a) :=
  ((State.PictureFrame.update s (s.alarm.put p a) s.filter s.roster s.generalCount _ s.stampCounter s.groups s.events).trans
    (.armQuiet _)).trans (.handIfEmptied hovf _ _)

theorem State.PictureFrame.requestAdmission (s : State) (p : PointId) :
    State.PictureFrame s (State.requestAdmission ovf s p) := by
  unfold State.requestAdmission
  split
  · exact .admitPoint s p
  · exact .defer hovf s p

theorem State.PictureFrame.admitHead (s : State) : State.PictureFrame s (State.admitHead ovf s) := by
  unfold State.admitHead
  split
  · exact .refl s
  · exact ((State.PictureFrame.update s s.alarm s.filter s.roster s.generalCount _ s.stampCounter s.groups s.events).trans
      (.admitPoint _ _)).trans (.handIfEmptied hovf _ _)

/-- A retirement stays within the frame (R72). -/
theorem State.PictureFrame.retire (s : State) (p : PointId) (a : AlarmState) :
    State.PictureFrame s (State.retire ovf s p a) := by
  unfold State.retire
  split
  · exact .setAlarm s p a
  · have h : ∀ v, State.PictureFrame s ((((s.leaveRoster p a).releaseSlot p v).armQuiet).compareSince s) := fun v =>
      ((((State.PictureFrame.update s (s.alarm.put p a) s.filter _ _ s.deferred s.stampCounter s.groups s.events).trans
        (.releaseSlot _ p v)).trans (.armQuiet _)).trans (.compareSince _ _))
    dsimp only
    split
    · exact (h _).trans (.admitHead hovf _)
    · exact h _

omit hovf in
theorem State.PictureFrame.moveRecord (s : State) (p : PointId) (st : RecordState) (f : RosterRecord → RosterRecord) :
    State.PictureFrame s (s.moveRecord p st f) :=
  (State.PictureFrame.setAlarm s p _).trans (.modifyRecord _ p _)

omit hovf in
theorem State.PictureFrame.recurrence (s : State) (p : PointId) : State.PictureFrame s (s.recurrence p) :=
  ((State.PictureFrame.moveRecord s p _ _).trans (.renewRecord _ p)).trans (.compareSince _ _)

omit hovf in
theorem State.PictureFrame.returnRecord (s : State) (p : PointId) : State.PictureFrame s (s.returnRecord p) :=
  (((State.PictureFrame.moveRecord s p _ _).trans (.renewRecord _ p)).trans (.raise _ _)).trans (.compareSince _ _)

/-- A rise stays within the frame (R39 to R42). -/
theorem State.PictureFrame.riseWith (s : State) (p : PointId) : State.PictureFrame s (State.riseWith ovf s p) := by
  unfold State.riseWith
  split
  · exact .requestAdmission hovf s p
  all_goals first | exact .recurrence s p | exact .refl s

/-- A fall stays within the frame (R43 to R46). -/
theorem State.PictureFrame.fallWith (s : State) (p : PointId) : State.PictureFrame s (State.fallWith ovf s p) := by
  unfold State.fallWith
  split
  · exact .refl s
  · exact .returnRecord s p
  · exact .retire hovf s p _
  · exact .moveRecord s p _ _
  · exact .leaveDeferred hovf s p _
  · exact .refl s

/-- A raw change stays within the frame (R31). -/
theorem State.PictureFrame.takeRawWith (s : State) (p : PointId) (v : Bool) :
    State.PictureFrame s (State.takeRawWith ovf s p v) := by
  unfold State.takeRawWith
  dsimp only
  split
  · exact .refl s
  · split
    · split
      · exact (State.PictureFrame.setFilter s p _).trans (.riseWith hovf _ p)
      · exact .setFilter s p _
    · exact .setFilter s p _
    · exact .setFilter s p _
    · split
      · exact (State.PictureFrame.setFilter s p _).trans (.fallWith hovf _ p)
      · exact .setFilter s p _

end Overflow

/-- The hand-over of point 63's condition stays within the frame (R75). -/
theorem State.PictureFrame.handOverflow (s : State) : State.PictureFrame s s.handOverflow :=
  .takeRawWith (fun u => .refl u) s _ _

theorem State.PictureFrame.takeRaw (s : State) (p : PointId) (v : Bool) : State.PictureFrame s (s.takeRaw p v) :=
  .takeRawWith State.PictureFrame.handOverflow s p v

theorem State.PictureFrame.rise (s : State) (p : PointId) : State.PictureFrame s (s.rise p) :=
  .riseWith State.PictureFrame.handOverflow s p

theorem State.PictureFrame.fall (s : State) (p : PointId) : State.PictureFrame s (s.fall p) :=
  .fallWith State.PictureFrame.handOverflow s p

/-- An acknowledgement stays within the frame (R48). -/
theorem State.PictureFrame.acknowledgeWith {ovf : State → State} (hovf : ∀ u, State.PictureFrame u (ovf u)) (s : State)
    (src : AckSource) (p : PointId) : State.PictureFrame s (s.acknowledgeWith ovf src p) := by
  unfold State.acknowledgeWith
  split
  all_goals first
    | exact (State.PictureFrame.moveRecord s p _ _).trans (.compareSince _ _)
    | exact .retire hovf s p _
    | exact .refl s

theorem State.PictureFrame.acknowledge (s : State) (src : AckSource) (p : PointId) :
    State.PictureFrame s (s.acknowledge src p) := .acknowledgeWith State.PictureFrame.handOverflow s src p

/-- An action on named records stays within the frame when each single action does. -/
theorem State.PictureFrame.forEachNamed (s : State) (sel : RosterRecord → Bool) (act : PointId → State → State)
    (hact : ∀ p u, State.PictureFrame u (act p u)) : State.PictureFrame s (s.forEachNamed sel act) := by
  unfold State.forEachNamed
  generalize s.named sel = l
  have h : ∀ (l : List (PointId × Stamp)) (u : State), State.PictureFrame s u →
      State.PictureFrame s (l.foldl (fun t n => if t.stillStands sel n then act n.1 t else t) u) := by
    intro l
    induction l with
    | nil => exact fun u hu => hu
    | cons n l ih =>
      intro u hu
      apply ih
      dsimp only
      split
      · exact hu.trans (hact _ _)
      · exact hu
  exact h l s (.refl s)

theorem State.PictureFrame.takeNamed (s : State) (sel : RosterRecord → Bool) (act : PointId → State → State)
    (hact : ∀ p u, State.PictureFrame u (act p u)) : State.PictureFrame s (s.takeNamed sel act) :=
  (State.PictureFrame.forEachNamed s sel act hact).trans (.handIfEmptied State.PictureFrame.handOverflow _ _)

theorem State.PictureFrame.acknowledgeAll (s : State) (src : AckSource) (sel : RosterRecord → Bool) :
    State.PictureFrame s (s.acknowledgeAll src sel) :=
  .takeNamed s _ _ fun p u => .acknowledgeWith (fun v => .refl v) u src p

theorem State.PictureFrame.resetEvery (s : State) : State.PictureFrame s s.resetEvery :=
  .takeNamed s _ _ fun p u => .retire (fun v => .refl v) u p _

/-- A departure from the alarm picture stays within the frame (R10, R54). -/
theorem State.PictureFrame.leavePicture (s : State) (p : PointId) (a : AlarmState) :
    State.PictureFrame s (s.leavePicture p a) := by
  unfold State.leavePicture
  split
  all_goals first
    | exact .retire State.PictureFrame.handOverflow s p a
    | exact .leaveDeferred State.PictureFrame.handOverflow s p a
    | exact .setAlarm s p a

/-- The end of a shelve stays within the frame (R55). -/
theorem State.PictureFrame.endShelve (s : State) (p : PointId) : State.PictureFrame s (s.endShelve p) := by
  unfold State.endShelve
  dsimp only
  split
  · exact (State.PictureFrame.setAlarm s p _).trans (.rise _ p)
  · exact .setAlarm s p _

/-- A hand-over from a line stays within the frame (R27, R28). -/
theorem State.PictureFrame.takeLine (s : State) (p : PointId) (c : Classification) :
    State.PictureFrame s (s.takeLine p c) := by
  unfold State.takeLine
  split
  · exact .refl s
  · split
    · exact .setFilter s p _
    · exact (State.PictureFrame.setFilter s p _).trans (.takeRaw _ p _)

/-- A point that takes its source's condition stays within the frame (R33). -/
theorem State.PictureFrame.takeSource (s : State) (p : PointId) : State.PictureFrame s (s.takeSource p) := by
  unfold State.takeSource
  split
  · exact .takeLine s p _
  · exact .takeRaw s p _
  · split
    · exact .takeRaw s _ _
    · split
      · exact .handOverflow s
      · exact .refl s

/-- A silence stays within the frame (R103). -/
theorem State.PictureFrame.silenceAll (s : State) : State.PictureFrame s s.silenceAll :=
  (State.PictureFrame.setRoster s _).trans (.compareSince _ _)

/-- A reannunciation stays within the frame (R107). -/
theorem State.PictureFrame.expireReannounce (s : State) (p : PointId) (st : Stamp) :
    State.PictureFrame s (s.expireReannounce p st) := by
  unfold State.expireReannounce
  split
  · split
    · exact ((State.PictureFrame.setRoster s _).trans (.renewRecord _ p)).trans (.compareSince _ _)
    · exact .refl s
  · exact .refl s

end Sys2Proof.Machine
end

