-- ==== Sys2Proof/Laws/Order.lean ====
section
/-!
SUPPORT. Claims that the manual leaves unordered: whatever the free order, every claim is taken exactly once, and what each
claim keeps the whole keeps.
-/

namespace Sys2Proof.Machine

variable {α : Type}

theorem insertByKey_perm (key : Nat → Nat) (x : α × Nat) (l : List (α × Nat)) : (insertByKey key x l).Perm (x :: l) := by
  induction l with
  | nil => exact .refl _
  | cons y ys ih =>
    unfold insertByKey
    split
    · exact .refl _
    · exact (ih.cons y).trans (.swap x y ys)

theorem foldr_insertByKey_perm (key : Nat → Nat) (l : List (α × Nat)) : (l.foldr (insertByKey key) []).Perm l := by
  induction l with
  | nil => exact .refl _
  | cons x xs ih => exact (insertByKey_perm key x _).trans (ih.cons x)

/-- The free order is an order of the claims: none is lost and none is taken twice. -/
theorem arrange_perm (occasion : Nat) (l : List α) : (arrange occasion l).Perm l := by
  have h := (foldr_insertByKey_perm (Config.claimKey occasion) l.zipIdx).map Prod.fst
  simpa [arrange] using h

theorem mem_arrange {occasion : Nat} {l : List α} {x : α} : x ∈ arrange occasion l ↔ x ∈ l :=
  (arrange_perm occasion l).mem_iff

@[simp] theorem arrange_nil (occasion : Nat) : arrange occasion ([] : List α) = [] := rfl

@[simp] theorem arrange_singleton (occasion : Nat) (x : α) : arrange occasion [x] = [x] := rfl

/-- What holds when the claims begin and every claim keeps, holds when all have been taken. -/
theorem State.takeAll_induct {P : State → Prop} {s : State} {claims : List α} {take : α → State → State}
    (start : P { s with freeCount := s.freeCount + 1 }) (keep : ∀ x ∈ claims, ∀ u, P u → P (take x u)) :
    P (s.takeAll claims take) := by
  unfold State.takeAll
  have h : ∀ (l : List α), (∀ x ∈ l, x ∈ claims) → ∀ u, P u → P (l.foldl (fun t x => take x t) u) := by
    intro l
    induction l with
    | nil => exact fun _ _ hu => hu
    | cons x xs ih =>
      intro hl u hu
      exact ih (fun y hy => hl y (List.mem_cons_of_mem x hy)) _ (keep x (hl x List.mem_cons_self) u hu)
  exact h _ (fun x hx => mem_arrange.mp hx) _ start

/-- A change of lines stays within the frame of the alarm picture but for the faulted-line set and the count of free
orders. -/
theorem State.linesChanged_frame (s : State) (ns : List LineId) :
    State.PictureFrame { s.rederiveFaulted with freeCount := s.rederiveFaulted.freeCount + 1 } (s.linesChanged ns) :=
  State.takeAll_induct (P := State.PictureFrame { s.rederiveFaulted with freeCount := s.rederiveFaulted.freeCount + 1 })
    (.refl _) fun p _ u hu => hu.trans (.takeSource u p)

end Sys2Proof.Machine
end

