-- ==== Sys2Proof/Laws/Sequence.lean ====
section
/-!
SUPPORT. What a comparison of the channels leaves as it was, field by field, and what each edge of a qualified condition can
do, so that no proof unfolds them again.
-/

namespace Sys2Proof.Machine

variable {s t : State}

/-! ## Fields that a sound frame keeps -/

theorem State.SoundFrame.config_eq (h : State.SoundFrame s t) : t.config = s.config := by
  obtain ⟨⟨_, _, _, rfl⟩, _⟩ := h; rfl

theorem State.SoundFrame.service_eq (h : State.SoundFrame s t) : t.service = s.service := by
  obtain ⟨⟨_, _, _, rfl⟩, _⟩ := h; rfl

theorem State.SoundFrame.classInterval_eq (h : State.SoundFrame s t) : t.classInterval = s.classInterval := by
  obtain ⟨⟨_, _, _, rfl⟩, _⟩ := h; rfl

theorem State.SoundFrame.lines_eq (h : State.SoundFrame s t) : t.lines = s.lines := by
  obtain ⟨⟨_, _, _, rfl⟩, _⟩ := h; rfl

theorem State.SoundFrame.thresholds_eq (h : State.SoundFrame s t) : t.thresholds = s.thresholds := by
  obtain ⟨⟨_, _, _, rfl⟩, _⟩ := h; rfl

theorem State.SoundFrame.faulted_eq (h : State.SoundFrame s t) : t.faulted = s.faulted := by
  obtain ⟨⟨_, _, _, rfl⟩, _⟩ := h; rfl

theorem State.SoundFrame.filter_eq (h : State.SoundFrame s t) : t.filter = s.filter := by
  obtain ⟨⟨_, _, _, rfl⟩, _⟩ := h; rfl

theorem State.SoundFrame.alarm_eq (h : State.SoundFrame s t) : t.alarm = s.alarm := by
  obtain ⟨⟨_, _, _, rfl⟩, _⟩ := h; rfl

theorem State.SoundFrame.roster_eq (h : State.SoundFrame s t) : t.roster = s.roster := by
  obtain ⟨⟨_, _, _, rfl⟩, _⟩ := h; rfl

theorem State.SoundFrame.generalCount_eq (h : State.SoundFrame s t) : t.generalCount = s.generalCount := by
  obtain ⟨⟨_, _, _, rfl⟩, _⟩ := h; rfl

theorem State.SoundFrame.deferred_eq (h : State.SoundFrame s t) : t.deferred = s.deferred := by
  obtain ⟨⟨_, _, _, rfl⟩, _⟩ := h; rfl

theorem State.SoundFrame.stampCounter_eq (h : State.SoundFrame s t) : t.stampCounter = s.stampCounter := by
  obtain ⟨⟨_, _, _, rfl⟩, _⟩ := h; rfl

theorem State.SoundFrame.groups_eq (h : State.SoundFrame s t) : t.groups = s.groups := by
  obtain ⟨⟨_, _, _, rfl⟩, _⟩ := h; rfl

theorem State.SoundFrame.shelves_eq (h : State.SoundFrame s t) : t.shelves = s.shelves := by
  obtain ⟨⟨_, _, _, rfl⟩, _⟩ := h; rfl

theorem State.SoundFrame.keys_eq (h : State.SoundFrame s t) : t.keys = s.keys := by
  obtain ⟨⟨_, _, _, rfl⟩, _⟩ := h; rfl

theorem State.SoundFrame.keyEnables_eq (h : State.SoundFrame s t) : t.keyEnables = s.keyEnables := by
  obtain ⟨⟨_, _, _, rfl⟩, _⟩ := h; rfl

theorem State.SoundFrame.panelTest_eq (h : State.SoundFrame s t) : t.panelTest = s.panelTest := by
  obtain ⟨⟨_, _, _, rfl⟩, _⟩ := h; rfl

theorem State.SoundFrame.hostTest_eq (h : State.SoundFrame s t) : t.hostTest = s.hostTest := by
  obtain ⟨⟨_, _, _, rfl⟩, _⟩ := h; rfl

theorem State.SoundFrame.testSounded_eq (h : State.SoundFrame s t) : t.testSounded = s.testSounded := by
  obtain ⟨⟨_, _, _, rfl⟩, _⟩ := h; rfl

theorem State.SoundFrame.flashPhase_eq (h : State.SoundFrame s t) : t.flashPhase = s.flashPhase := by
  obtain ⟨⟨_, _, _, rfl⟩, _⟩ := h; rfl

theorem State.SoundFrame.cues_eq (h : State.SoundFrame s t) : t.cues = s.cues := by
  obtain ⟨⟨_, _, _, rfl⟩, _⟩ := h; rfl

theorem State.SoundFrame.tones_eq (h : State.SoundFrame s t) : t.tones = s.tones := by
  obtain ⟨⟨_, _, _, rfl⟩, _⟩ := h; rfl

theorem State.SoundFrame.edit_eq (h : State.SoundFrame s t) : t.edit = s.edit := by
  obtain ⟨⟨_, _, _, rfl⟩, _⟩ := h; rfl

theorem State.SoundFrame.link_eq (h : State.SoundFrame s t) : t.link = s.link := by
  obtain ⟨⟨_, _, _, rfl⟩, _⟩ := h; rfl

theorem State.SoundFrame.mask_eq (h : State.SoundFrame s t) : t.mask = s.mask := by
  obtain ⟨⟨_, _, _, rfl⟩, _⟩ := h; rfl

theorem State.SoundFrame.answer_eq (h : State.SoundFrame s t) : t.answer = s.answer := by
  obtain ⟨⟨_, _, _, rfl⟩, _⟩ := h; rfl

theorem State.SoundFrame.freeCount_eq (h : State.SoundFrame s t) : t.freeCount = s.freeCount := by
  obtain ⟨⟨_, _, _, rfl⟩, _⟩ := h; rfl

theorem State.SoundFrame.pending_eq (h : State.SoundFrame s t) : t.pending = s.pending := by
  obtain ⟨⟨_, _, _, rfl⟩, _⟩ := h; rfl

/-! ## The comparison of both channels -/

@[simp] theorem State.compareSince_config (s before : State) : (s.compareSince before).config = s.config :=
  (State.SoundFrame.compareSince s before).config_eq
@[simp] theorem State.compareSince_service (s before : State) : (s.compareSince before).service = s.service :=
  (State.SoundFrame.compareSince s before).service_eq
@[simp] theorem State.compareSince_classInterval (s before : State) : (s.compareSince before).classInterval = s.classInterval :=
  (State.SoundFrame.compareSince s before).classInterval_eq
@[simp] theorem State.compareSince_lines (s before : State) : (s.compareSince before).lines = s.lines :=
  (State.SoundFrame.compareSince s before).lines_eq
@[simp] theorem State.compareSince_thresholds (s before : State) : (s.compareSince before).thresholds = s.thresholds :=
  (State.SoundFrame.compareSince s before).thresholds_eq
@[simp] theorem State.compareSince_faulted (s before : State) : (s.compareSince before).faulted = s.faulted :=
  (State.SoundFrame.compareSince s before).faulted_eq
@[simp] theorem State.compareSince_filter (s before : State) : (s.compareSince before).filter = s.filter :=
  (State.SoundFrame.compareSince s before).filter_eq
@[simp] theorem State.compareSince_alarm (s before : State) : (s.compareSince before).alarm = s.alarm :=
  (State.SoundFrame.compareSince s before).alarm_eq
@[simp] theorem State.compareSince_roster (s before : State) : (s.compareSince before).roster = s.roster :=
  (State.SoundFrame.compareSince s before).roster_eq
@[simp] theorem State.compareSince_generalCount (s before : State) : (s.compareSince before).generalCount = s.generalCount :=
  (State.SoundFrame.compareSince s before).generalCount_eq
@[simp] theorem State.compareSince_deferred (s before : State) : (s.compareSince before).deferred = s.deferred :=
  (State.SoundFrame.compareSince s before).deferred_eq
@[simp] theorem State.compareSince_stampCounter (s before : State) : (s.compareSince before).stampCounter = s.stampCounter :=
  (State.SoundFrame.compareSince s before).stampCounter_eq
@[simp] theorem State.compareSince_groups (s before : State) : (s.compareSince before).groups = s.groups :=
  (State.SoundFrame.compareSince s before).groups_eq
@[simp] theorem State.compareSince_shelves (s before : State) : (s.compareSince before).shelves = s.shelves :=
  (State.SoundFrame.compareSince s before).shelves_eq
@[simp] theorem State.compareSince_keys (s before : State) : (s.compareSince before).keys = s.keys :=
  (State.SoundFrame.compareSince s before).keys_eq
@[simp] theorem State.compareSince_keyEnables (s before : State) : (s.compareSince before).keyEnables = s.keyEnables :=
  (State.SoundFrame.compareSince s before).keyEnables_eq
@[simp] theorem State.compareSince_panelTest (s before : State) : (s.compareSince before).panelTest = s.panelTest :=
  (State.SoundFrame.compareSince s before).panelTest_eq
@[simp] theorem State.compareSince_hostTest (s before : State) : (s.compareSince before).hostTest = s.hostTest :=
  (State.SoundFrame.compareSince s before).hostTest_eq
@[simp] theorem State.compareSince_testSounded (s before : State) : (s.compareSince before).testSounded = s.testSounded :=
  (State.SoundFrame.compareSince s before).testSounded_eq
@[simp] theorem State.compareSince_flashPhase (s before : State) : (s.compareSince before).flashPhase = s.flashPhase :=
  (State.SoundFrame.compareSince s before).flashPhase_eq
@[simp] theorem State.compareSince_cues (s before : State) : (s.compareSince before).cues = s.cues :=
  (State.SoundFrame.compareSince s before).cues_eq
@[simp] theorem State.compareSince_tones (s before : State) : (s.compareSince before).tones = s.tones :=
  (State.SoundFrame.compareSince s before).tones_eq
@[simp] theorem State.compareSince_edit (s before : State) : (s.compareSince before).edit = s.edit :=
  (State.SoundFrame.compareSince s before).edit_eq
@[simp] theorem State.compareSince_link (s before : State) : (s.compareSince before).link = s.link :=
  (State.SoundFrame.compareSince s before).link_eq
@[simp] theorem State.compareSince_mask (s before : State) : (s.compareSince before).mask = s.mask :=
  (State.SoundFrame.compareSince s before).mask_eq
@[simp] theorem State.compareSince_answer (s before : State) : (s.compareSince before).answer = s.answer :=
  (State.SoundFrame.compareSince s before).answer_eq
@[simp] theorem State.compareSince_freeCount (s before : State) : (s.compareSince before).freeCount = s.freeCount :=
  (State.SoundFrame.compareSince s before).freeCount_eq
@[simp] theorem State.compareSince_pending (s before : State) : (s.compareSince before).pending = s.pending :=
  (State.SoundFrame.compareSince s before).pending_eq

/-! ## Edges -/

/-- Everything a rise can do (R39 to R42): ask for admission from NORMAL, recur, or nothing. -/
theorem State.riseWith_cases (ovf : State → State) (s : State) (p : PointId) :
    (s.alarmOf p = .normal ∧ s.riseWith ovf p = s.requestAdmission ovf p) ∨
    ((s.alarmOf p = .returned ∧ (s.cfg p).kind ≠ .pulse ∨ s.alarmOf p = .awaitReset ∧ (s.cfg p).kind = .manual ∨
        s.alarmOf p = .alert ∧ (s.cfg p).kind = .pulse) ∧ s.riseWith ovf p = s.recurrence p) ∨
    s.riseWith ovf p = s := by
  unfold State.riseWith
  cases s.alarmOf p <;> cases (s.cfg p).kind <;> simp

/-- Everything a fall can do (R43 to R46): return, retire, await a reset, leave the deferred list, or nothing. -/
theorem State.fallWith_cases (ovf : State → State) (s : State) (p : PointId) :
    ((s.cfg p).kind ≠ .pulse ∧ s.alarmOf p = .alert ∧ s.fallWith ovf p = s.returnRecord p) ∨
    ((s.cfg p).kind = .auto ∧ s.alarmOf p = .acked ∧ s.fallWith ovf p = s.retire ovf p .normal) ∨
    ((s.cfg p).kind = .manual ∧ s.alarmOf p = .acked ∧ s.fallWith ovf p = s.moveRecord p .awaitReset id) ∨
    ((s.cfg p).kind ≠ .pulse ∧ s.alarmOf p = .deferred ∧ s.fallWith ovf p = s.leaveDeferred ovf p .normal) ∨
    s.fallWith ovf p = s := by
  unfold State.fallWith
  cases s.alarmOf p <;> cases (s.cfg p).kind <;> simp

/-- Everything an acknowledgement can do (R48). -/
theorem State.acknowledgeWith_cases (ovf : State → State) (src : AckSource) (s : State) (p : PointId) :
    ((s.cfg p).kind ≠ .pulse ∧ s.alarmOf p = .alert ∧
      s.acknowledgeWith ovf src p = (s.moveRecord p .acked (RosterRecord.acknowledge src)).compareSince s) ∨
    ((s.cfg p).kind = .manual ∧ s.alarmOf p = .returned ∧
      s.acknowledgeWith ovf src p = (s.moveRecord p .awaitReset (RosterRecord.acknowledge src)).compareSince s) ∨
    ((s.cfg p).kind = .auto ∧ s.alarmOf p = .returned ∧ s.acknowledgeWith ovf src p = s.retire ovf p .normal) ∨
    ((s.cfg p).kind = .pulse ∧ s.alarmOf p = .alert ∧ s.acknowledgeWith ovf src p = s.retire ovf p .normal) ∨
    s.acknowledgeWith ovf src p = s := by
  unfold State.acknowledgeWith
  cases s.alarmOf p <;> cases (s.cfg p).kind <;> simp

/-- Everything a request for admission can do (R67). -/
theorem State.requestAdmission_cases (ovf : State → State) (s : State) (p : PointId) :
    ((isInternal p = true ∨ s.generalCount < Config.generalPlaces) ∧ s.requestAdmission ovf p = s.admitPoint p) ∨
    (isInternal p = false ∧ Config.generalPlaces ≤ s.generalCount ∧ s.requestAdmission ovf p = s.defer ovf p) := by
  unfold State.requestAdmission
  split
  · exact .inl ⟨‹_›, rfl⟩
  · rename_i h
    refine .inr ⟨by simpa using fun k => h (.inl k), ?_, rfl⟩
    exact Nat.le_of_not_lt fun k => h (.inr k)

/-- Everything a raw condition can do to an in-service point (R31): nothing, a timer started or cancelled, or an edge handed
over at once when the delay is 0. -/
theorem State.takeRawWith_cases (ovf : State → State) (s : State) (p : PointId) (v : Bool) :
    ((s.inService p = false ∨ (s.filterOf p).raw = v) ∧ s.takeRawWith ovf p v = s) ∨
    (s.inService p = true ∧ ∃ f : Filter, f.raw = v ∧ f.hostRaw = (s.filterOf p).hostRaw ∧
      f.frozen = (s.filterOf p).frozen ∧
      ((f.qualified = (s.filterOf p).qualified ∧ s.takeRawWith ovf p v = s.setFilter p f) ∨
       (v = true ∧ f.qualified = true ∧ (s.cfg p).onDelay = 0 ∧
         s.takeRawWith ovf p v = (s.setFilter p f).riseWith ovf p) ∨
       (v = false ∧ f.qualified = false ∧ (s.cfg p).offDelay = 0 ∧
         s.takeRawWith ovf p v = (s.setFilter p f).fallWith ovf p))) := by
  unfold State.takeRawWith
  by_cases h : s.inService p = false ∨ (s.filterOf p).raw = v
  · exact .inl ⟨h, if_pos h⟩
  · have service : s.inService p = true := by simpa using fun k => h (.inl k)
    refine .inr ⟨service, ?_⟩
    simp only [if_neg h]
    cases v <;> cases (s.filterOf p).qualified <;> dsimp only
    · refine ⟨_, ?_, ?_, ?_, .inl ⟨?_, rfl⟩⟩ <;> rfl
    · split
      · refine ⟨_, ?_, ?_, ?_, .inr (.inr ⟨rfl, ?_, ‹_›, rfl⟩)⟩ <;> rfl
      · refine ⟨_, ?_, ?_, ?_, .inl ⟨?_, rfl⟩⟩ <;> rfl
    · split
      · refine ⟨_, ?_, ?_, ?_, .inr (.inl ⟨rfl, ?_, ‹_›, rfl⟩)⟩ <;> rfl
      · refine ⟨_, ?_, ?_, ?_, .inl ⟨?_, rfl⟩⟩ <;> rfl
    · refine ⟨_, ?_, ?_, ?_, .inl ⟨?_, rfl⟩⟩ <;> rfl

end Sys2Proof.Machine
end

