-- ==== Sys2Proof/Laws/Table.lean ====
section
/-!
SUPPORT. Reading tables of a fixed number of entries after they are written or mapped. The simp set writes the index of a
numbered entry as a number, so the simp lemmas are stated for numbers.
-/

namespace Sys2Proof

variable {α β : Type} {n : Nat}

/-- Reading an entry after one entry has been replaced. -/
theorem Table.getElem_put (t : Table α n) (i j : Fin n) (x : α) : (t.put i x)[j] = if i = j then x else t[j] := by
  simp [Table.put, Vector.getElem_set, Fin.val_inj]

/-- Reading an entry by its number after one entry has been replaced. -/
theorem Table.getElem_put_nat (t : Table α n) (i : Fin n) (k : Nat) (h : k < n) (x : α) :
    (t.put i x)[k] = if i.val = k then x else t[k] := by
  simp [Table.put, Vector.getElem_set]

/-- Reading the entry replaced. -/
@[simp] theorem Table.getElem_put_self (t : Table α n) (i : Fin n) (x : α) : (t.put i x)[i.val] = x := by
  simp [Table.getElem_put_nat]

/-- Reading another entry than the one replaced. -/
theorem Table.getElem_put_ne (t : Table α n) {i j : Fin n} (x : α) (h : i ≠ j) : (t.put i x)[j] = t[j] := by
  rw [Table.getElem_put, if_neg h]

/-- Reading an entry of a mapped table. -/
@[simp] theorem Table.getElem_map (f : α → β) (t : Table α n) (k : Nat) (h : k < n) : (Table.map f t)[k] = f t[k] := by
  simp [Table.map]

/-- Reading an entry of a table mapped with the entries' numbers. -/
@[simp] theorem Table.getElem_mapIdx (f : Fin n → α → β) (t : Table α n) (k : Nat) (h : k < n) :
    (Table.mapIdx f t)[k] = f ⟨k, h⟩ t[k] := by
  simp [Table.mapIdx]

/-- Writing back the entry that stands changes nothing. -/
@[simp] theorem Table.put_getElem (t : Table α n) (i : Fin n) : t.put i t[i.val] = t := by
  simp [Table.put]

end Sys2Proof
end

