-- ==== Sys2Proof/Tests/Slice0.lean ====
section
/-!
SUPPORT. Tests: ill-formed commands, the manual's worked numbers, single steps on small states, and for every statement of
Certificates/Slice0/Obligations.lean that has hypotheses, states and operands that meet them. Expected values come from the
manual: its examples, its tables, or a calculation by hand from its rules.
-/

namespace Sys2Proof.Tests

set_option maxRecDepth 20000
set_option Elab.async false

open Sys2Proof Sys2Proof.Machine

/-! ## Small states -/

/-- The state a command leaves. -/
def after (c : Instr) (s : State) : State :=
  match exec c s with
  | .next t => t
  | .fault _ | .refused _ => s

/-- A standing record with nothing marked. -/
def standing (p : PointId) (st : Stamp) (state : RecordState) : RosterRecord :=
  { point := p, stamp := st, state := state, firstOut := false, recurrence := 0, silenced := false, sounded := false,
    ackSource := none, reannounce := none, age := 0, ageClock := 4000000 }

/-- A qualification state of a HOST point whose condition has stood at `v` for good. -/
def steady (v : Bool) : Filter :=
  { hostRaw := v, raw := v, qualified := v, onTimer := none, offTimer := none, frozen := false }

/-- The configuration of a HOST point of a kind. -/
def hostPoint (kind : Kind) : PointConfig := { PointConfig.generalReset with kind := kind }

/-- Put a point in service with a configuration, an alarm state and a qualification state. -/
def place (p : PointId) (c : PointConfig) (a : AlarmState) (f : Filter) (s : State) : State :=
  { s with
    config := s.config.put p c
    service := s.service.put p .inService
    alarm := s.alarm.put p a
    filter := s.filter.put p f }

/-- A HOST point of a kind in service in an alarm state, alone, with its record if it holds one. -/
def lone (kind : Kind) (a : AlarmState) (records : List RosterRecord) : State :=
  { place 5 { hostPoint kind with group := some 0 } a (steady true) State.reset with
    roster := records, generalCount := records.length, stampCounter := 9 }

/-- An AUTO point in ALERT that holds its group's first-out slot, a MANUAL point awaiting its reset, a SHELVED point, a HOLD
point on line 2, a delayed point, an edit session and a waiting command; the channels have taken the demand. -/
def mixed : State :=
  let base := place 5 { hostPoint .auto with
      priority := 1, group := some 0, lamp := some 3, alertCue := some 1, ringbackCue := some 5 } .alert (steady true)
    (place 6 { hostPoint .manual with priority := 2, group := some 0, lamp := some 3 } .awaitReset (steady false)
    (place 7 (hostPoint .auto) .shelved (steady false)
    (place 8 { hostPoint .pulse with source := .line 2, faultResponse := .hold } .normal (steady false)
    (place 9 { hostPoint .auto with onDelay := 50, offDelay := 30 } .normal (steady false) State.reset))))
  { base with
    roster := [{ standing 5 3 .alert with firstOut := true }, { standing 6 1 .awaitReset with ackSource := some .host }]
    generalCount := 2
    stampCounter := 4
    groups := base.groups.put 0 ⟨true, some 5, false⟩
    shelves := [⟨7, 240000000⟩]
    edit := some (freshSession 9)
    classInterval := base.classInterval.put 1 240
    pending := [.ackAll] }.compareChannels

/-- Thirty-eight general points in ALERT, and point 38 DEFERRED behind them. -/
def crowded : State :=
  let points := (List.finRange 64).filter fun p => p.val < 38
  { State.reset with
    service := State.reset.service.mapIdx fun p v => if p.val < 39 then .inService else v
    alarm := State.reset.alarm.mapIdx fun p v => if p.val < 38 then .alert else if p.val = 38 then .deferred else v
    filter := State.reset.filter.mapIdx fun p v => if p.val < 39 then steady true else v
    roster := points.map fun p => standing p (BitVec.ofNat 32 (p.val + 1)) .alert
    generalCount := 38
    stampCounter := 39
    deferred := [38] }

/-- The same with point 0 in RETURNED, so that acknowledging its record frees a place. -/
def crowdedReturned : State :=
  { crowded with
    alarm := crowded.alarm.put 0 .returned
    filter := crowded.filter.put 0 (steady false)
    roster := standing 0 1 .returned :: crowded.roster.tail }

/-- The same with a record of point 63 behind all others, so that the deferred list empties before its turn comes. -/
def crowdedOverflow : State :=
  { crowdedReturned with
    config := crowdedReturned.config.put 63 { crowdedReturned.cfg 63 with priority := 3 }
    alarm := crowdedReturned.alarm.put 63 .alert
    filter := crowdedReturned.filter.put 63 { Filter.start with raw := true, qualified := true }
    roster := crowdedReturned.roster ++ [standing 63 40 .alert]
    stampCounter := 41 }

/-- Thirty-eight general records and point 38 DEFERRED behind them, point 0 being a MANUAL point that awaits its reset. -/
def crowdedAwaiting : State :=
  { crowdedReturned with
    config := crowdedReturned.config.put 0 (hostPoint .manual)
    alarm := crowdedReturned.alarm.put 0 .awaitReset
    roster := { standing 0 1 .awaitReset with ackSource := some .host } :: crowdedReturned.roster.tail }

/-- In-service points whose lines give them a condition: point 0 held on line 31, which is OPEN, point 1 with the longest
delay and point 2 without one on line 30, which is ACTIVE, and point 3 on line 29, which is INACTIVE. -/
def waking : State :=
  let on := fun (n : LineId) (delay : Byte) => { hostPoint .auto with source := .line n, onDelay := delay, group := some 0 }
  let base := place 0 { on 31 0 with faultResponse := .hold } .normal { Filter.start with frozen := true }
    (place 1 (on 30 255) .normal Filter.start (place 2 (on 30 0) .normal Filter.start
    (place 3 (on 29 0) .normal Filter.start State.reset)))
  { base with
    lines := (State.reset.lines.put 31 ⟨.supervised, .normal, 0, .wireOpen, some 255⟩).put 30
      ⟨.supervised, .normal, 0, .active, some 100⟩
    groups := base.groups.put 0 ⟨true, none, true⟩ }

/-- Point 8, a HOLD point on the supervised line 2, whose levels have been classified as `c`, with a qualification state. -/
def onLine (c : Classification) (level : Byte) (f : Filter) : State :=
  let s := place 8 { hostPoint .auto with source := .line 2, faultResponse := .hold, onDelay := 1, offDelay := 1 } .normal f
    State.reset
  { s with lines := s.lines.put 2 ⟨.supervised, .normal, 0, c, some level⟩ }

/-- Points out of service whose conditions stand: point 0 without a delay, point 1 with the longest, and point 2 held on
line 31, which is OPEN. -/
def dormant : State :=
  { State.reset with
    config := ((State.reset.config.put 0 (hostPoint .auto)).put 1 { hostPoint .auto with onDelay := 255 }).put 2
      { hostPoint .auto with source := .line 31, faultResponse := .hold }
    filter := (State.reset.filter.put 0 { Filter.start with hostRaw := true }).put 1 { Filter.start with hostRaw := true }
    lines := State.reset.lines.put 31 ⟨.supervised, .normal, 0, .wireOpen, some 255⟩ }

/-- One HOST point, number 63 or below, in service with a qualification state and delays. -/
def qualifying (f : Filter) (on off : Byte) : State :=
  place 61 { hostPoint .auto with onDelay := on, offDelay := off } .normal f State.reset

/-- A step copy that sounds nothing. -/
def silentCopy : StepCopy := ⟨.rest, 1, none, 60⟩

/-- A player context for the record of point 5 with stamp 3. -/
def player (q : CueId) (step : Nat) (counters : List Nat) : Player :=
  { owner := .record 5 3, demandedCue := q, playedCue := q, stepIndex := step, passPolicy := .repeating,
    copy := silentCopy, timeLeft := 0, counters := counters, firmHold := false, renewed := false,
    replacementPending := false }

/-- A player context for the lamp test. -/
def testPlayer (step : Nat) : Player := { player 7 step [] with owner := .test, passPolicy := .single }

/-- Point 5 in ALERT asking for a cue, and a player context on channel A. -/
def sounding (alertCue : Option CueId) (pl : Option Player) : State :=
  { place 5 { hostPoint .auto with alertCue := alertCue } .alert (steady true) State.reset with
    roster := [standing 5 3 .alert], generalCount := 1, stampCounter := 4,
    channels := ⟨⟨true, .step, pl⟩, .atReset⟩ }

/-- Point 5 in a state, with cue 5 for both its cues, and a SINGLE pass of it on channel A for its record. -/
def repeated (a : AlarmState) (r : RosterRecord) : State :=
  let pl := { player 5 1 [] with passPolicy := .single }
  let s := place 5 { hostPoint .auto with alertCue := some 5, ringbackCue := some 5 } a (steady true) (sounding none (some pl))
  { s with roster := [r] }

/-- A SINGLE pass ends for the record of point 5 while the record of point 6 asks for the EMPTY cue 31. -/
def passEnding : State :=
  let pl := { player 5 2 [] with passPolicy := .single }
  let s := place 6 { hostPoint .auto with alertCue := some 31 } .alert (steady true) (sounding (some 5) (some pl))
  { s with roster := [standing 5 3 .alert, standing 6 4 .alert], generalCount := 2, stampCounter := 5 }

/-- An edit session of cue 9 with two written steps. -/
def session (phase : EditPhase) : EditSession :=
  { freshSession 9 with
    phase := phase, steps := Table.put (Table.put (Vector.replicate 16 ⟨0x80, 0⟩) 0 ⟨23, 16⟩) 1 ⟨0x80, 1⟩,
    stepCount := 2, idleTimer := if phase = .openPhase then some 32000000 else none }

/-- IMMEDIATE channel A plays REPEAT cue 9 for the sounded record of point 5, and the check of a COMMIT that makes cue 9 SINGLE
is about to end; point 6, in service, names cue 0. -/
def recut : State :=
  let pl := player 9 0 []
  let s := place 6 { hostPoint .auto with alertCue := some 0 } .normal (steady false) (sounding (some 9) (some pl))
  { s with
    roster := [{ standing 5 3 .alert with sounded := true }]
    cues := cuesAtReset.put 9 (some ⟨.repeating, 4, none, [⟨.rest, 1⟩], []⟩)
    channels := ⟨⟨true, .immediate, some pl⟩, .atReset⟩
    edit := some { session .validating with header := ⟨.single, 4, none, []⟩ } }

/-- The state after reset with an edit session. -/
def editing (e : EditSession) : State := { State.reset with edit := some e }

/-- The state after reset with the link in some state. -/
def linked (l : Link) : State := { State.reset with link := l }

/-- The link with SELN low and a transaction under way. -/
def opened (t : Transaction) (rx : List Byte) : Link := { Link.atReset with trans := t, rx := rx, timer := some 7 }

/-- A frame of 40 payload bytes under way, and the next byte waiting. -/
def midFrame : State := { mixed with link := opened .request [0x43, 1, 40], pending := [.byteCompletion 9] }

/-- KTST has gone low a moment ago, while channel B still plays a pass for a lamp test that has ended. -/
def running : State :=
  { State.reset with
    keys := State.reset.keys.put .ktst ⟨.low, false, some 7⟩
    channels := ⟨.atReset, ⟨true, .step, some (testPlayer 0)⟩⟩ }

/-! ## Ill-formed commands -/

theorem test_nineteen_steps_wellFormed : (Instr.writeSteps 0 (List.replicate 19 ⟨0, 1⟩)).wellFormed = true := by decide +kernel
theorem test_twenty_steps_illFormed : (Instr.writeSteps 0 (List.replicate 20 ⟨0, 1⟩)).wellFormed = false := by decide +kernel
theorem test_sixteen_tones_wellFormed : (Instr.writeTones 0 (List.replicate 16 440)).wellFormed = true := by decide +kernel
theorem test_seventeen_tones_illFormed : (Instr.writeTones 0 (List.replicate 17 440)).wellFormed = false := by decide +kernel
theorem test_no_tones_illFormed : (Instr.writeTones 0 []).wellFormed = false := by decide +kernel

/-! ## The reading of words and frames -/

/-- The table gives no row bits. -/
theorem test_no_word_spells_a_command : decodeTableWord 16 0x1234 = none := by decide +kernel
/-- R169's first example: the check byte of FIRST UNACKED with tag 0x07. -/
theorem test_check_byte_of_request : crc8 [0x43, 0x07, 0x00] = 0x50 := by decide +kernel
/-- R169's second example: the check byte of an OK response. -/
theorem test_check_byte_of_response : crc8 [0x01, 0x00, 0x07, 0x01, 0x00] = 0x61 := by decide +kernel
/-- R181: SET SERVICE carries a point and a service state. -/
theorem test_frame_set_service : requestOf 0x13 [62, 0x00] = .command (.setServiceOut 62) := by decide +kernel
theorem test_frame_bad_service : requestOf 0x13 [62, 0x02] = .badService := by decide +kernel
/-- R181, R182: the duration of a SHELVE is sent most significant byte first. -/
theorem test_frame_shelve : requestOf 0x61 [7, 0x01, 0xE0] = .command (.shelve 7 480) := by decide +kernel
/-- R181: the stamp of an ACK is sent most significant byte first. -/
theorem test_frame_ack : requestOf 0x31 [5, 3, 0x00, 0x00, 0x01, 0x02] = .command (.ack 5 3 258) := by decide +kernel
theorem test_frame_unknown : requestOf 0x16 [] = .unknown := by decide +kernel
theorem test_frame_bad_length : requestOf 0x44 [0] = .badLength := by decide +kernel
/-- R181: 40 payload bytes are one too many for WRITE STEPS, whose payload is odd. -/
theorem test_frame_steps_even : requestOf 0x83 (List.replicate 40 0) = .badLength := by decide +kernel
/-- R185: the source byte 0x41 is INTERNAL, and 0x20 names no line. -/
theorem test_source_codes : sourceOf 0x41 = some .internal ∧ sourceOf 0x1F = some (.line 31) ∧ sourceOf 0x20 = none := by
  decide +kernel

/-! ## Numbers of the manual -/

/-- R66: the stamp counter goes from 2³²−1 on to 1. -/
theorem test_stamp_wraps : Stamp.next 0xFFFFFFFF = 1 := by decide +kernel
/-- R161's example: 1008 Hz has a half period of 1984 periods of REFCLK. -/
theorem test_half_period : halfPeriod 1008 = 1984 := by decide +kernel
/-- R14, R103: the longest reannunciation interval is 240 units of 15 s, an hour. -/
theorem test_longest_interval : silenceTimer 240 = some (3600 * 4000000) := by decide +kernel
/-- R128: tempo 11 is 160 ms per sixteenth, so that a step of 16 sixteenths lasts 2560 ms. -/
theorem test_step_duration : (StepCopy.duration ⟨.rest, 16, none, tempoMs 11⟩) = 2560 * 4000 := by decide +kernel
/-- R134: at the end of a loop whose counter stands at 2 the player jumps back; with 1 it goes on. -/
theorem test_loop_jump : loopJump [⟨0, 1, 2⟩] 1 [2] = some ([1], 0) ∧ loopJump [⟨0, 1, 2⟩] 1 [1] = none := by decide +kernel
/-- R95: a shelve of 480 minutes is 28 800 seconds. -/
theorem test_longest_shelve : secondsLeft (shelveTime 480) = 28800 := by decide +kernel
/-- R121: DOUBLE is dark from 100 ms to 200 ms and FAST from 125 ms to 250 ms. -/
theorem test_flash_edges : Pattern.onAt (100 * 4000) .double = false ∧ Pattern.onAt (200 * 4000) .double = true ∧
    Pattern.onAt (125 * 4000 - 1) .fast = true ∧ Pattern.onAt (125 * 4000) .fast = false := by decide +kernel

/-! ## Single steps -/

/-- R4, R6: after reset the internal points are in service, and WRITE POINT is refused for them. -/
theorem test_write_point_in_service :
    (after (.writePoint 63 ⟨0, 1, 0x41, 0, 0, 0, 0xFF, 0xFF, 1, 0xFF, 0⟩) State.reset).answer = some ⟨.state, []⟩ := by
  decide +kernel
/-- R7, R185: READ POINT 62 after reset. -/
theorem test_read_point_62 : (after (.readPoint 62) State.reset).answer =
    some ⟨.ok, [0, 2, 0x41, 50, 50, 0, 0xFF, 0xFF, 4, 0xFF, 1, 1, 1]⟩ := by decide +kernel
/-- R9: a point whose host condition stands comes into service in ALERT. -/
theorem test_set_service_in_admits : (after (.setServiceIn 0) dormant).alarmOf 0 = .alert := by decide +kernel
/-- R28: a HOLD point on an OPEN line comes into service frozen and NORMAL. -/
theorem test_set_service_in_frozen : (after (.setServiceIn 2) { dormant with faulted := [31] }).filterOf 2 =
    { Filter.start with frozen := true } := by decide +kernel
/-- R10: the record of a point put out of service is retired. -/
theorem test_set_service_out_retires : (after (.setServiceOut 5) mixed).roster.length = 1 := by decide +kernel
/-- R15: the longest interval is taken for the lowest class. -/
theorem test_write_class : (after (.writeClass 4 240) State.reset).classInterval[(3 : PriorityClass)] = 240 := by
  decide +kernel
/-- R21: a first sample is stored, and adopts nothing. -/
theorem test_first_sample : ((after (.lineSample 2 0) State.reset).lines[(2 : LineId)]).classification = .inactive := by
  decide +kernel
/-- R18, R26: the levels of set 1 after reset. -/
theorem test_read_thresholds : (after (.readThresholds 1) State.reset).answer = some ⟨.ok, [20, 90, 200]⟩ := by
  decide +kernel
/-- R31: ASSERT with a delay of 50 units starts the on-delay at 500 ms. -/
theorem test_assert_starts_delay : ((after (.assertPoint 9) mixed).filterOf 9).onTimer = some (500 * 4000) := by
  decide +kernel
/-- R43: a point in ALERT whose condition ends is RETURNED. -/
theorem test_release_returns : (after (.releasePoint 5) mixed).alarmOf 5 = .returned := by decide +kernel
/-- R32: the expiry of a running on-delay is a rise. -/
theorem test_on_delay_expiry : (after (.onDelayExpiry 61)
    (qualifying { steady false with hostRaw := true, raw := true, onTimer := some 0 } 1 1)).alarmOf 61 = .alert := by
  decide +kernel
/-- R49: a guarded ACK with another stamp is STALE and tells the record's. -/
theorem test_ack_stale : (after (.ack 5 0 2) mixed).answer = some ⟨.stale, [0, 0, 0, 3, 3]⟩ := by decide +kernel
/-- R48, R49: a guarded ACK that matches acknowledges with source HOST. -/
theorem test_ack_names_host :
    ((after (.ack 5 3 3) mixed).recordOf 5).map RosterRecord.ackSource = some (some .host) := by decide +kernel
/-- R52: RESET retires a record in AWAIT_RESET. -/
theorem test_reset : (after (.reset 6) mixed).recordOf 6 = none := by decide +kernel
/-- R53: RESET ALL counts the records it resets. -/
theorem test_reset_all : (after .resetAll mixed).answer = some ⟨.ok, [1]⟩ := by decide +kernel
/-- R70, R73, R75: the retirement of one of 38 general records admits the head of the deferred list. -/
theorem test_head_admitted : (after (.setServiceOut 0) crowded).alarmOf 38 = .alert := by decide +kernel
/-- R70: the next rise is deferred. -/
theorem test_next_is_deferred :
    (after (.assertPoint 61) { place 61 (hostPoint .auto) .normal (steady false) crowded with deferred := [38] }).deferred =
      [38, 61] := by decide +kernel
/-- R51, R75: a retirement among those of ACK ALL empties the deferred list; no edge reaches point 63 before its own record
has been acknowledged, so that it never goes to RETURNED. -/
theorem test_overflow_falls_after_ack_all :
    let t := after .ackAll crowdedOverflow
    t.deferred = [] ∧ t.alarmOf 38 = .alert ∧ t.recordOf 63 = none ∧ t.alarmOf 63 = .normal ∧
      t.flag .returned = false := by decide +kernel
/-- R78, R186: FIRST UNACKED finds the record of point 5 at position 0. -/
theorem test_first_unacked : (after .firstUnacked mixed).answer =
    some ⟨.ok, [1, 0, 5, 0, 0, 0, 3, 3, 1, 0, 0, 0, 0, 0, 0]⟩ := by decide +kernel
/-- R79: eight state counts, four class counts, and the three lists. -/
theorem test_summary : (after .readSummary mixed).answer =
    some ⟨.ok, [57, 4, 0, 1, 0, 0, 1, 1, 0, 1, 1, 0, 0, 1, 36]⟩ := by decide +kernel
/-- R90: CLEAR FIRST-OUT answers the former holder. -/
theorem test_clear_first_out : (after (.clearFirstOut 0) mixed).answer = some ⟨.ok, [5]⟩ := by decide +kernel
/-- R96, R97: SHELVE answers the state left, the stamp retired, the position and the seconds. -/
theorem test_shelve : (after (.shelve 5 2) mixed).answer = some ⟨.ok, [3, 0, 0, 0, 3, 1, 0, 120]⟩ := by decide +kernel
/-- R99: the expiry of a shelve entry sets SHELVE_EXPIRED. -/
theorem test_shelve_expiry : (after (.shelveExpiry 7) mixed).flag .shelveExpired = true := by decide +kernel
/-- R103: SILENCE writes the record in ALERT, and not the one awaiting its reset. -/
theorem test_silence : (after .silence mixed).roster.map RosterRecord.silenced = [true, false] := by decide +kernel
/-- R104: a silenced record demands nothing. -/
theorem test_silence_ends_demand : (after .silence mixed).wanted .a = none := by decide +kernel
/-- R116, R118: a lamp test asks channel B for cue 7. -/
theorem test_lamp_test_sounds : ((after (.lampTest 15) mixed).playerOf .b).map Player.playedCue = some 7 := by
  decide +kernel
/-- R110: a falling key line starts the debounce timer at 40 ms. -/
theorem test_key_falls : ((after (.keyLineChange .kack .low) State.reset).keys.get .kack).timer = some 160000 := by
  decide +kernel
/-- R123: the lamp of points 5 and 6 shows DOUBLE over WINK. -/
theorem test_shared_lamp : mixed.lampPattern 3 = .double := by decide +kernel
/-- R136: a session stands, so that a second is refused. -/
theorem test_second_session : (after (.beginEdit 31) mixed).answer = some ⟨.state, []⟩ := by decide +kernel
/-- R138: WRITE STEPS answers the step count. -/
theorem test_write_steps : (after (.writeSteps 15 [⟨1, 1⟩]) mixed).answer = some ⟨.ok, [16]⟩ := by decide +kernel
/-- R141: the end of a check that passes makes the cue READY. -/
theorem test_commit_passes : (after .commitCheckEnd (editing (session .validating))).ready 9 = true := by decide +kernel
/-- R140, R160: the COMMIT withdraws the demand that an IMMEDIATE channel serves, and the step in progress finishes all the
same; the channel goes IDLE at its end. -/
theorem test_commit_lets_step_finish :
    let t := after .commitCheckEnd recut
    recut.wanted .a = some (player 9 0 []).current ∧ t.wanted .a = none ∧
      t.playerOf .a = some { player 9 0 [] with replacementPending := true } ∧ t.flag .channelAIdle = false ∧
      (after .silence t).playerOf .a = t.playerOf .a ∧
      (after (.stepEnd .a) t).playerOf .a = none ∧ (after (.stepEnd .a) t).flag .channelAIdle = true := by decide +kernel
/-- R158: a new alarm on the channel cuts that step at once under IMMEDIATE. -/
theorem test_alarm_cuts_finishing_step :
    ((after (.assertPoint 6) (after .commitCheckEnd recut)).playerOf .a).map Player.current = some ⟨.record 6 4, 0⟩ := by
  decide +kernel
/-- R141: a check of no steps is REJECTED with NO_STEPS. -/
theorem test_commit_rejects :
    (after .commitCheckEnd (editing { freshSession 9 with phase := .validating, idleTimer := none })).answer =
      some ⟨.rejected, [1, 0xFF]⟩ := by decide +kernel
/-- R145: a built-in cue is never erased. -/
theorem test_erase_built_in : (after (.eraseCue 7) State.reset).answer = some ⟨.range, []⟩ := by decide +kernel
/-- R130: one frequency out of range and nothing is written. -/
theorem test_write_tones_whole : (after (.writeTones 0 [440, 5001]) State.reset).tones[(0 : ToneId)] = 400 := by
  decide +kernel
/-- R134: at the end of step 1 of cue 3 the player jumps back to step 0. -/
theorem test_step_end_jumps : ((after (.stepEnd .a) (sounding (some 3) (some (player 3 1 [2])))).playerOf .a).map
    Player.stepIndex = some 0 := by decide +kernel
/-- R162: disabling a PLAYING channel sets its idle flag. -/
theorem test_disable_channel : (after (.writeChannel 0 0 0) mixed).flag .channelAIdle = true := by decide +kernel
/-- R167: a first byte of 0x00 begins a collect. -/
theorem test_first_byte_zero : (after (.byteCompletion 0) (linked (opened .opened []))).link.trans = .collect none := by
  decide +kernel
/-- R169, R171: a whole frame with a right check byte is handed on. -/
theorem test_frame_end :
    (after .requestFrameEnd (linked (opened .request [0x43, 0x07, 0x00, 0x50]))).link.inFlight =
      some ⟨0x07, false, false, .awaiting .firstUnacked⟩ := by decide +kernel
/-- R175, R183: with nothing held and nothing in flight a collect finds a NONE frame, here with ATTN released. -/
theorem test_collect_none : (after .collect (linked (opened (.collect none) []))).link.trans =
    .collect (some ⟨[0x02, 0, 0, 0, crc8 [0x02, 0, 0, 0]], 0, false⟩) := by decide +kernel
/-- R178: a link reset empties the receive frame and sets LINK_FAULT. -/
theorem test_link_reset : (after .linkReset (linked (opened .request [0x43]))).link.rx = [] := by decide +kernel
/-- R191: CLEAR EVENTS clears RESTARTED. -/
theorem test_clear_events : (after (.clearEvents 0x400) State.reset).events = 0 := by decide +kernel
/-- R24, R182: before its first sample a line reports the absent last level as 0xFF. -/
theorem test_read_line_unsampled : (after (.readLine 31) State.reset).answer = some ⟨.ok, [0, 0, 0, 0, 0, 0xFF, 0]⟩ := by
  decide +kernel
/-- R157, R160: after a COMMIT that changed its cue's policy a pass stays what it was: a SINGLE pass of a cue now REPEAT is
renewed by the rise of its owner, and a REPEAT pass of a cue now SINGLE is not. -/
theorem test_renewed_after_commit :
    let renewed := fun (policy now : CuePolicy) =>
      let pl := { player 31 0 [] with passPolicy := policy, replacementPending := true }
      let s := { sounding (some 31) (some pl) with cues := cuesAtReset.put 31 (some ⟨now, 4, none, [⟨.rest, 1⟩], []⟩) }
      ((s.renewRecord 5).playerOf .a).map Player.renewed
    renewed .single .repeating = some true ∧ renewed .repeating .single = some false := by decide +kernel
/-- R157: a recurrence, a return with the same cue and a reannunciation renew the pass of their record. -/
theorem test_renewed_by_record :
    let renewed := fun s : State => (s.playerOf .a).map Player.renewed
    renewed ((repeated .returned (standing 5 3 .returned)).rise 5) = some true ∧
      renewed ((repeated .alert (standing 5 3 .alert)).fall 5) = some true ∧
      renewed (after (.reannounceExpiry 5 3)
        (repeated .alert { standing 5 3 .alert with silenced := true, reannounce := some 0 })) = some true := by
  decide +kernel
/-- R124, R161, R189: while RSTN is low the lamp lines, CALM and the tone outputs are low and ATTN is released. -/
theorem test_outputs_under_reset :
    let s := { mixed with hostTest := some 1, mask := 0x400, events := 0x400 }
    s.lampLine .low 3 = false ∧ s.lampLine .high 3 = true ∧ s.calmPin .low = false ∧ s.calmPin .high = true ∧
      s.attnPin .low = false ∧ s.attnPin .high = true ∧ s.sdoPin .low = none := by decide +kernel
/-- R29: LINE_FAULT is set when a line joins the faulted-line set. -/
theorem test_line_fault_set : (after (.setServiceIn 2) dormant).faulted = [31] ∧
    (after (.setServiceIn 2) dormant).flag .lineFault = true := by decide +kernel
/-- R64: the age goes up by one. -/
theorem test_age : ((after (.ageIncrement 5) mixed).recordOf 5).map RosterRecord.age = some 1 := by decide +kernel

/-! ## Legal states that are not the reset state -/

theorem mixed_configLegal : mixed.ConfigLegal := by constructor <;> decide +kernel
theorem mixed_pictureLegal : mixed.PictureLegal := by constructor <;> decide +kernel
theorem crowded_configLegal : crowded.ConfigLegal := by constructor <;> decide +kernel
theorem crowded_pictureLegal : crowded.PictureLegal := by constructor <;> decide +kernel
theorem crowdedReturned_configLegal : crowdedReturned.ConfigLegal := by constructor <;> decide +kernel
theorem crowdedReturned_pictureLegal : crowdedReturned.PictureLegal := by constructor <;> decide +kernel
theorem crowdedOverflow_configLegal : crowdedOverflow.ConfigLegal := by constructor <;> decide +kernel
theorem crowdedOverflow_pictureLegal : crowdedOverflow.PictureLegal := by constructor <;> decide +kernel
theorem crowdedAwaiting_configLegal : crowdedAwaiting.ConfigLegal := by constructor <;> decide +kernel
theorem crowdedAwaiting_pictureLegal : crowdedAwaiting.PictureLegal := by constructor <;> decide +kernel
theorem dormant_configLegal : dormant.ConfigLegal := by constructor <;> decide +kernel
theorem waking_configLegal : waking.ConfigLegal := by constructor <;> decide +kernel

/-- RESTART keeps the configuration, the service states and the lines. -/
theorem restart_keeps (s : State) :
    ∃ t, exec .restart s = .next t ∧ t.config = s.config ∧ t.service = s.service ∧ t.lines = s.lines :=
  have h : State.PictureFrame { s.restartBlocks with freeCount := s.restartBlocks.freeCount + 1 } s.restartAll :=
    State.takeAll_induct (P := State.PictureFrame { s.restartBlocks with freeCount := s.restartBlocks.freeCount + 1 })
      (.refl _) fun p _ u hu => hu.trans (.takeSource u p)
  ⟨_, rfl, h.config, h.service, h.lines⟩

/-- What holds of the value an option holds holds of every value it holds. -/
theorem only_one {α : Type} {o : Option α} {x : α} {P : α → Prop} (h : o = some x) (k : P x) : ∀ e, o = some e → P e := by
  intro e he
  rw [h] at he
  exact Option.some.inj he ▸ k

/-- Nothing is held by an absent option. -/
theorem held_by_none {α : Type} {o : Option α} {P : α → Prop} (h : o = none) : ∀ e, o = some e → P e := by
  intro e he
  rw [h] at he
  exact nomatch he

/-- What `CueContents.Legal` asks, for one cue of the reset table. -/
def legalCue (c : CueContents) : Bool :=
  decide (1 ≤ c.steps.length ∧ c.steps.length ≤ 16 ∧ (∀ st ∈ c.steps, 1 ≤ st.length ∧ st.length ≤ 16) ∧ c.alt = none ∧
    c.loops.length ≤ 1 ∧
    ∀ l ∈ c.loops, 2 ≤ l.count ∧ l.count ≤ 15 ∧ l.first ≤ l.last ∧ l.last < c.steps.length)

theorem legalCue_legal {c : CueContents} (h : legalCue c = true) : c.Legal := by
  simp only [legalCue, decide_eq_true_eq] at h
  obtain ⟨h₁, h₂, h₃, h₄, h₅, h₆⟩ := h
  refine ⟨⟨h₁, h₂⟩, h₃, by simp [h₄], by omega, h₆, ?_⟩
  match c.loops, h₅ with
  | [], _ => exact .nil
  | [x], _ => exact List.pairwise_singleton _ x

theorem mixed_cuesLegal : mixed.CuesLegal := by
  constructor
  · decide +kernel
  · intro q c h
    have all : ∀ q : CueId, (mixed.cues[q]).all legalCue = true := by decide +kernel
    have := all q
    rw [h] at this
    exact legalCue_legal this
  all_goals exact only_one (x := freshSession 9) (by decide +kernel) (by decide +kernel)

theorem midFrame_linkLegal : midFrame.LinkLegal := by
  constructor
  · exact only_one (o := [(0x43 : Byte), 1, 40][2]?) (x := 40)
      (P := fun n => if 40 < n.toNat then [(0x43 : Byte), 1, 40].length = 3 else [(0x43 : Byte), 1, 40].length ≤ n.toNat + 4)
      rfl (by decide +kernel)
  all_goals decide +kernel

theorem running_keysLegal : running.KeysLegal := by
  intro k
  cases k <;> decide +kernel

theorem mixed_sourcesFollowed : mixed.SourcesFollowed := by constructor <;> decide +kernel

theorem mixed_channelsServe : mixed.ChannelsServe := by
  constructor <;> intro c <;> cases c
  all_goals decide +kernel

/-! ## Witnesses: states and operands that meet the hypotheses of the statements, at the edges of their ranges -/

/-- With no timer at zero, and with timers of every kind at zero; a frozen point's timer at zero is not one of them. -/
theorem witness_CommandsCompleteAndIdleStepCounts :
    (State.reset.pending = [] ∧ State.reset.isDue .shelve = false) ∧
    (let s := { qualifying { steady false with raw := true, onTimer := some 0 } 1 1 with
       roster := [{ standing 5 3 .alert with silenced := true, reannounce := some 0, ageClock := 0 }]
       shelves := [⟨7, 0⟩]
       keys := State.reset.keys.put .krst ⟨.low, false, some 0⟩
       panelTest := some 0
       hostTest := some 0
       edit := some { session .openPhase with idleTimer := some 0 }
       channels := ⟨⟨true, .step, some (player 0 0 [])⟩, .atReset⟩
       link := { opened .request [0x43] with timer := some 0 } }
     s.pending = [] ∧ s.isDue (.onDelay 61) = true ∧ s.isDue (.age 5) = true ∧ s.isDue (.reannounce 5 3) = true ∧
       s.shelves.head? = some ⟨7, 0⟩ ∧ s.isDue (.debounce .krst) = true ∧ s.isDue .panelTest = true ∧
       s.isDue .hostTest = true ∧ s.isDue (.stepEnd .a) = true ∧ s.isDue .editIdle = true ∧ s.isDue .linkReset = true) ∧
    (qualifying { steady true with raw := false, offTimer := some 0 } 1 1).isDue (.offDelay 61) = true ∧
    (qualifying { steady true with offTimer := some 0, frozen := true } 1 1).isDue (.offDelay 61) = false := by
  decide +kernel

theorem witness_RestartKeepsConfiguration :
    waking.ConfigLegal ∧
    (mixed.service[(61 : PointId)] = .outService ∧ waking.service[(4 : PointId)] = .outService ∧
      (∀ p : PointId, p.val < 4 → waking.service[p] = .inService ∧ p ≠ 63) ∧
      waking.service[(63 : PointId)] = .inService) ∧
    ∃ t, exec .restart waking = .next t ∧ t.sourceFrozen 0 = true ∧
      (t.sourceFrozen 1 = false ∧ t.sourceRaw 1 = true ∧ (waking.cfg 1).onDelay = 255) ∧
      (t.sourceFrozen 2 = false ∧ t.sourceRaw 2 = true ∧ (waking.cfg 2).onDelay = 0) ∧
      (t.sourceFrozen 3 = false ∧ t.sourceRaw 3 = false) := by
  obtain ⟨t, run, config, -, lines⟩ := restart_keeps waking
  refine ⟨waking_configLegal, by decide +kernel, t, run, ?_⟩
  simp only [State.sourceFrozen, State.sourceRaw, State.cfg, config, lines]
  exact ⟨rfl, ⟨rfl, rfl, rfl⟩, ⟨rfl, rfl, rfl⟩, rfl, rfl⟩

/-- A line that gives its point no condition, and a set of faulted lines that is empty. -/
theorem witness_RestartEmptiesPicture : mixed.faulted = [] ∧ mixed.inService 8 = true ∧ (mixed.cfg 8).source = .line 2 ∧
    ∀ (p : PointId) (n : LineId), mixed.inService p = true → (mixed.cfg p).source = .line n →
      (mixed.lines[n]).classification = .inactive := by decide +kernel

/-- Bytes that name the source INTERNAL, and bytes that name no group. -/
theorem witness_PointRecordWrittenAndRead :
    (63 < (64 : Byte).toNat ∧ mixed.alarmOf 5 ≠ .outOfService ∧ State.reset.alarmOf 61 = .outOfService ∧
      decodePoint ⟨0, 4, 0x40, 0, 0, 0, 0xFF, 0xFF, 0xFF, 0xFF, 0⟩ = some .generalReset ∧
      PointConfig.generalReset.fits 61 = true) ∧
    (∀ c, decodePoint ⟨0, 4, 0x41, 0, 0, 0, 0xFF, 0xFF, 0xFF, 0xFF, 0⟩ = some c → c.fits 61 = false) ∧
    (∀ c, decodePoint ⟨0, 4, 0x40, 0, 0, 0, 8, 0xFF, 0xFF, 0xFF, 0⟩ = some c → c.fits 61 = false) := by
  refine ⟨by decide +kernel, ?_, held_by_none (by decide +kernel)⟩
  exact only_one (x := { PointConfig.generalReset with source := .internal }) (by decide +kernel) (by decide +kernel)

theorem witness_SetServiceInStartsQualification :
    dormant.ConfigLegal ∧ 63 < (64 : Byte).toNat ∧ mixed.service[(5 : PointId)] = .inService ∧
    (∀ p : PointId, p.val < 3 → dormant.service[p] = .outService) ∧
    (dormant.sourceFrozen 2 = true ∧ dormant.sourceRaw 3 = false) ∧
    (dormant.sourceFrozen 1 = false ∧ dormant.sourceRaw 1 = true ∧ (dormant.cfg 1).onDelay = 255) ∧
    (dormant.sourceFrozen 0 = false ∧ dormant.sourceRaw 0 = true ∧ (dormant.cfg 0).onDelay = 0) ∧
    dormant.faulted = dormant.derivedFaulted :=
  ⟨dormant_configLegal, by decide +kernel⟩

theorem witness_SetServiceOutClearsPoint :
    (mixed.ConfigLegal ∧ mixed.PictureLegal) ∧ (crowded.ConfigLegal ∧ crowded.PictureLegal) ∧
    63 < (64 : Byte).toNat ∧ mixed.service[(0 : PointId)] = .outService ∧ mixed.service[(5 : PointId)] = .inService ∧
    mixed.alarmOf 7 = .shelved ∧ crowded.service[(38 : PointId)] = .inService ∧ crowded.alarmOf 38 = .deferred ∧
    mixed.faulted = mixed.derivedFaulted :=
  ⟨⟨mixed_configLegal, mixed_pictureLegal⟩, ⟨crowded_configLegal, crowded_pictureLegal⟩, by decide +kernel⟩

theorem witness_ClassIntervalsAndThresholdReads :
    (0 : Byte).toNat < 1 ∧ 4 < (5 : Byte).toNat ∧ 240 < (241 : Byte).toNat ∧ (240 : Byte).toNat ≤ 240 ∧
    3 < (4 : Byte).toNat := by decide +kernel

/-- The edges of set 0 on a supervised and on an unsupervised line. -/
theorem witness_LevelsClassifyByBand :
    let t := State.reset.thresholds[(0 : SetId)]
    (29 : Byte).toNat < t.s.toNat ∧ t.s.toNat ≤ (30 : Byte).toNat ∧ (109 : Byte).toNat < t.a.toNat ∧
    t.a.toNat ≤ (110 : Byte).toNat ∧ (219 : Byte).toNat < t.o.toNat ∧ t.o.toNat ≤ (220 : Byte).toNat := by decide +kernel

/-- A classification change that freezes a point with a running timer, and two that free one with a timer kept: its raw
condition is the one kept, or the other. -/
theorem witness_LineSampleAdopts_held :
    let takes := fun (s : State) (level : Byte) (c : Classification) =>
      let t := s.setLine 2 { s.lines[(2 : LineId)] with classification := c, lastLevel := some level }
      (s.adopts s.lines[(2 : LineId)] level = some c ∧ s.inService 8 = true ∧ (s.cfg 8).source = .line 2 ∧
        c ≠ (s.lines[(2 : LineId)]).classification) ∧ t.sourceFrozen 8 = c.isFault ∧ t.sourceRaw 8 = c.present
    takes (onLine .active 255 { Filter.start with raw := true, onTimer := some 9 }) 255 .wireOpen ∧
    takes (onLine .wireOpen 150 { Filter.start with qualified := true, offTimer := some 9, frozen := true }) 150 .inactive ∧
    takes (onLine .wireShort 100 { Filter.start with qualified := true, offTimer := some 9, frozen := true }) 100
      .active := by
  decide +kernel

/-- Line 2 after a first sample at 0: a second one is adopted, and point 8 is on the line. A first sample on line 31, and a
faulted-line set as it is derived. -/
theorem witness_LineSampleAdopts :
    ((mixed.lines[(31 : LineId)]).lastLevel = none ∧ mixed.faulted = mixed.derivedFaulted) ∧
    let s := { mixed with lines := mixed.lines.put 2 { LineRecord.atReset with lastLevel := some 0 } }
    s.ConfigLegal ∧ s.inService 8 = true ∧ (s.cfg 8).source = .line 2 ∧ s.adopts s.lines[(2 : LineId)] 0 = some .active ∧
    ((s.sampleLine 2 0).lines[(2 : LineId)]).classification ≠ (s.lines[(2 : LineId)]).classification := by
  refine ⟨by decide +kernel, ?_⟩
  intro s
  have adopts : s.adopts s.lines[(2 : LineId)] 0 = some .active := by decide +kernel
  refine ⟨?_, by decide +kernel, by decide +kernel, adopts, ?_⟩
  · constructor <;> decide +kernel
  · have lines : (s.sampleLine 2 0).lines =
        (s.setLine 2 { s.lines[(2 : LineId)] with classification := .active, lastLevel := some 0 }).lines := by
      simp only [State.sampleLine, adopts]
      exact (State.linesChanged_frame _ _).lines
    rw [lines]
    decide +kernel

theorem witness_WriteAndReadLine :
    waking.ConfigLegal ∧ 31 < (32 : Byte).toNat ∧ 1 < (2 : Byte).toNat ∧ 3 < (4 : Byte).toNat ∧
    ((mixed.lines[(31 : LineId)]).mode = .unsupervised ∧ (mixed.lines[(31 : LineId)]).polarity = .normal ∧
      (mixed.lines[(31 : LineId)]).set = 0) ∧
    ¬ ((mixed.lines[(31 : LineId)]).mode = .unsupervised ∧ (mixed.lines[(31 : LineId)]).polarity = .normal ∧
      (mixed.lines[(31 : LineId)]).set = 3) ∧
    mixed.faulted = mixed.derivedFaulted ∧
    (let s := { dormant with service := dormant.service.put 2 .inService }
     (31 : LineId) ∈ s.derivedFaulted ∧ (s.lines[(31 : LineId)]).mode = .supervised ∧
       (s.lines[(31 : LineId)]).classification = .wireOpen ∧ s.service[(2 : PointId)] = .inService ∧
       (s.cfg 2).source = .line 31) ∧
    ((waking.lines[(30 : LineId)]).classification = .active ∧
      (waking.lines[(30 : LineId)]).lastLevel.map (waking.classify ⟨.supervised, .inverted, 0, .inactive, none⟩) =
        some .inactive ∧
      waking.inService 1 = true ∧ (waking.cfg 1).source = .line 30) :=
  ⟨waking_configLegal, by decide +kernel⟩

/-- Levels out of order, levels held, and levels under which line 30 goes from ACTIVE to INACTIVE. -/
theorem witness_WriteThresholdsReclassifies :
    (3 < (4 : Byte).toNat ∧ (7 : Byte).toNat ≤ (7 : Byte).toNat ∧ (0 : Byte).toNat < (1 : Byte).toNat ∧
      (1 : Byte).toNat < (2 : Byte).toNat ∧ mixed.thresholds[(3 : SetId)] = ⟨10, 60, 180⟩ ∧
      mixed.thresholds[(3 : SetId)] ≠ ⟨0, 1, 2⟩ ∧ (mixed.lines[(31 : LineId)]).set ≠ 3 ∧
      (mixed.lines[(31 : LineId)]).set = 0 ∧ mixed.faulted = mixed.derivedFaulted) ∧
    (waking.ConfigLegal ∧ waking.thresholds[(0 : SetId)] ≠ ⟨30, 80, 220⟩ ∧ (waking.lines[(30 : LineId)]).set = 0 ∧
      (waking.lines[(30 : LineId)]).classification = .active ∧ (waking.lines[(30 : LineId)]).lastLevel = some 100 ∧
      ({ waking with thresholds := waking.thresholds.put 0 ⟨30, 80, 220⟩ } : State).classify
        waking.lines[(30 : LineId)] 100 = .inactive ∧
      waking.inService 2 = true ∧ (waking.cfg 2).source = .line 30) :=
  ⟨by decide +kernel, waking_configLegal, by decide +kernel⟩

/-- Every cell of R31's table, and the refusals and the points out of service before it. -/
theorem witness_HostConditionCommands :
    63 < (64 : Byte).toNat ∧ (mixed.cfg 8).source ≠ .host ∧ (mixed.cfg 61).source = .host ∧
    ((mixed.filterOf 5).hostRaw = true ∧ (mixed.filterOf 9).hostRaw = false) ∧
    ((mixed.filterOf 61).hostRaw = false ∧ mixed.inService 61 = false) ∧
    ((dormant.filterOf 1).hostRaw = true ∧ dormant.inService 1 = false ∧ (dormant.cfg 1).source = .host) ∧
    (let s := qualifying (steady false) 1 0
     (s.filterOf 61).hostRaw = false ∧ s.inService 61 = true ∧ (s.filterOf 61).raw = false ∧
       (s.filterOf 61).qualified = false ∧ (s.cfg 61).onDelay ≠ 0) ∧
    (let s := qualifying { steady true with hostRaw := false, raw := false, offTimer := some 9 } 1 1
     (s.filterOf 61).hostRaw = false ∧ s.inService 61 = true ∧ (s.filterOf 61).raw = false ∧
       (s.filterOf 61).qualified = true) ∧
    (let s := qualifying (steady true) 0 255
     (s.filterOf 61).hostRaw = true ∧ s.inService 61 = true ∧ (s.filterOf 61).raw = true ∧
       (s.filterOf 61).qualified = true ∧ (s.cfg 61).offDelay ≠ 0) ∧
    (let s := qualifying { steady false with hostRaw := true, raw := true, onTimer := some 9 } 1 1
     (s.filterOf 61).hostRaw = true ∧ s.inService 61 = true ∧ (s.filterOf 61).raw = true ∧
       (s.filterOf 61).qualified = false) ∧
    (let s := qualifying (steady false) 0 0
     (s.filterOf 61).hostRaw = false ∧ s.inService 61 = true ∧ (s.filterOf 61).raw = false ∧
       (s.filterOf 61).qualified = false ∧ (s.cfg 61).onDelay = 0) ∧
    (let s := qualifying (steady true) 0 0
     (s.filterOf 61).hostRaw = true ∧ s.inService 61 = true ∧ (s.filterOf 61).raw = true ∧
       (s.filterOf 61).qualified = true ∧ (s.cfg 61).offDelay = 0) := by decide +kernel

theorem witness_DelayExpiriesHandEdges :
    (let f := (qualifying { steady false with raw := true, onTimer := some 0 } 1 1).filterOf 61
     f.onTimer ≠ none ∧ f.frozen = false ∧ f.offTimer = none) ∧
    (let f := (qualifying { steady true with raw := false, offTimer := some 0 } 1 1).filterOf 61
     f.offTimer ≠ none ∧ f.frozen = false ∧ f.onTimer = none) ∧
    ((qualifying { steady true with offTimer := some 0, frozen := true } 1 1).filterOf 61).frozen = true := by decide +kernel

/-- The last general place, and an internal point over a full roster. -/
theorem witness_RiseAdmitsPoint :
    (let s := { mixed with generalCount := 37 }
     s.alarmOf 9 = .normal ∧ s.generalCount < 38 ∧ s.recordOf 9 = none) ∧
    (crowded.alarmOf 63 = .normal ∧ isInternal 63 = true ∧ crowded.recordOf 63 = none) := by decide +kernel

/-- Behind an entry of the list, and as its first entry. -/
theorem witness_RiseDefersPoint :
    (let s := place 61 (hostPoint .auto) .normal (steady true) crowded
     s.alarmOf 61 = .normal ∧ isGeneral 61 = true ∧ 38 ≤ s.generalCount ∧ s.deferred ≠ []) ∧
    (let s := { place 61 (hostPoint .auto) .normal (steady true) crowded with deferred := [] }
     s.alarmOf 61 = .normal ∧ isGeneral 61 = true ∧ 38 ≤ s.generalCount ∧ s.deferred = [] ∧ s.inService 63 = true) := by
  decide +kernel

theorem witness_RiseOnStandingAlarm :
    (let s := lone .auto .returned [standing 5 1 .returned]
     s.alarmOf 5 = .returned ∧ (s.cfg 5).kind ≠ .pulse) ∧
    (let s := lone .manual .awaitReset [standing 5 1 .awaitReset]
     s.alarmOf 5 = .awaitReset ∧ (s.cfg 5).kind = .manual) ∧
    (let s := lone .pulse .alert [standing 5 1 .alert]
     s.alarmOf 5 = .alert ∧ (s.cfg 5).kind = .pulse) ∧
    (let s := lone .auto .alert [standing 5 1 .alert]
     s.alarmOf 5 = .alert ∧ (s.cfg 5).kind ≠ .pulse) ∧
    (mixed.alarmOf 7 = .shelved ∧ mixed.alarmOf 0 = .outOfService ∧ crowded.alarmOf 38 = .deferred) := by decide +kernel

/-- A recurrence, a return and a reannunciation in each state, of the record of point 5; its SINGLE pass goes on whatever
follows, and is one for the record's demand for cue 5. -/
theorem witness_passRenewed :
    ((let s := repeated .returned (standing 5 3 .returned)
      s.alarmOf 5 = .returned ∧ (s.cfg 5).kind ≠ .pulse ∧ (s.cfg 5).alertCue = some 5) ∧
     (let s := repeated .alert (standing 5 3 .alert)
      s.alarmOf 5 = .alert ∧ (s.cfg 5).kind ≠ .pulse ∧ (s.cfg 5).ringbackCue = some 5) ∧
     (let r := { standing 5 3 .alert with silenced := true, reannounce := some 0 }
      (repeated .alert r).recordOf 5 = some r ∧ r.reannounce ≠ none ∧ r.state = .alert) ∧
     (let r := { standing 5 3 .returned with silenced := true, reannounce := some 0 }
      (repeated .returned r).recordOf 5 = some r ∧ r.reannounce ≠ none ∧ r.state = .returned)) ∧
    ∀ (a : AlarmState) (r : RosterRecord), r.point = 5 → r.stamp = 3 →
      let pl := { player 5 1 [] with passPolicy := .single }
      let s := repeated a r
      s.playerOf .a = some pl ∧ (∀ t, s.PassGoesOn t .a pl) ∧ s.PassFor 5 (some 5) pl := by
  refine ⟨by decide +kernel, fun a r point stamp => ?_⟩
  have held : (repeated a r).recordOf 5 = some r := by simp [repeated, State.recordOf, point]
  exact ⟨rfl, fun _ => .inl rfl, ⟨r, held, stamp ▸ rfl⟩, rfl, nofun⟩

theorem witness_FallOnStandingAlarm :
    (mixed.cfg 8).kind = .pulse ∧ ((mixed.cfg 5).kind ≠ .pulse ∧ mixed.alarmOf 5 = .alert) ∧
    (let s := lone .auto .acked [standing 5 1 .acked]
     (s.cfg 5).kind = .auto ∧ s.alarmOf 5 = .acked) ∧
    (let s := lone .manual .acked [standing 5 1 .acked]
     (s.cfg 5).kind = .manual ∧ s.alarmOf 5 = .acked) ∧
    ((crowded.cfg 38).kind ≠ .pulse ∧ crowded.alarmOf 38 = .deferred ∧ crowded.deferred = [38] ∧
      crowded.inService 63 = true) ∧
    ((mixed.cfg 9).kind ≠ .pulse ∧ mixed.alarmOf 9 = .normal ∧ mixed.alarmOf 6 = .awaitReset) := by decide +kernel

/-- With point 38 deferred behind 38 records, and with nobody waiting and a slot held. -/
theorem witness_RetirementAdmitsHead :
    (crowded.ConfigLegal ∧ crowded.PictureLegal ∧ crowded.recordOf 0 = some (standing 0 1 .alert) ∧
      crowded.deferred = [38] ∧ isGeneral 0 = true) ∧
    (mixed.ConfigLegal ∧ mixed.PictureLegal ∧ mixed.recordOf 5 = some { standing 5 3 .alert with firstOut := true } ∧
      mixed.deferred = [] ∧ (mixed.groups[(0 : GroupId)]).slot = some 5) :=
  ⟨⟨crowded_configLegal, crowded_pictureLegal, by decide +kernel⟩, mixed_configLegal, mixed_pictureLegal, by decide +kernel⟩

/-- Forty records that hold the counter's own value and those after it. -/
theorem witness_NextStampIsFree :
    let s := { State.reset with
      roster := ((List.finRange 64).take 40).map fun p => standing p (BitVec.ofNat 32 (p.val + 1)) .alert }
    s.roster.length = 40 ∧ s.stampCounter ≠ 0 ∧ (∃ r ∈ s.roster, r.stamp = s.stampCounter) ∧
    ∀ r ∈ mixed.roster, r.stamp ≠ mixed.stampCounter := by decide +kernel

theorem witness_AckChecksInOrder :
    (63 < (64 : Byte).toNat ∧ (1 : Byte) ≠ 0 ∧ (1 : Byte) ≠ 3 ∧ (1 : Byte) ≠ 5) ∧ mixed.recordOf 63 = none ∧
    (let r : RosterRecord := { standing 5 3 .alert with firstOut := true }
     mixed.recordOf 5 = some r ∧ (2 : Stamp) ≠ 0 ∧ (2 : Stamp) ≠ r.stamp ∧ (3 : Stamp) = r.stamp ∧ r.state = .alert ∧
       r.state ≠ .returned) ∧
    (let r : RosterRecord := { standing 6 1 .awaitReset with ackSource := some .host }
     mixed.recordOf 6 = some r ∧ (1 : Stamp) = r.stamp ∧ r.state = .awaitReset ∧ r.state ≠ .alert) := by decide +kernel

theorem witness_AcknowledgementByKind :
    ((mixed.cfg 5).kind ≠ .pulse ∧ mixed.alarmOf 5 = .alert) ∧
    (let s := lone .manual .returned [standing 5 1 .returned]
     (s.cfg 5).kind = .manual ∧ s.alarmOf 5 = .returned) ∧
    (let s := lone .auto .returned [standing 5 1 .returned]
     (s.cfg 5).kind = .auto ∧ s.alarmOf 5 = .returned) ∧
    (let s := lone .pulse .alert [standing 5 1 .alert]
     (s.cfg 5).kind = .pulse ∧ s.alarmOf 5 = .alert) ∧
    (mixed.alarmOf 6 ≠ .alert ∧ mixed.alarmOf 6 ≠ .returned) := by decide +kernel

theorem witness_AckAllAndGroupTakeStanding :
    (crowded.ConfigLegal ∧ crowded.PictureLegal ∧ mixed.ConfigLegal ∧ mixed.PictureLegal) ∧
    (crowdedReturned.ConfigLegal ∧ crowdedReturned.PictureLegal ∧ crowdedOverflow.ConfigLegal ∧
      crowdedOverflow.PictureLegal) ∧
    7 < (8 : Byte).toNat ∧ (∃ r ∈ crowded.roster, r.unacked = true) ∧
    (∃ r ∈ mixed.roster, r.unacked = true ∧ mixed.inGroup 0 r = true) ∧
    (∃ r ∈ mixed.roster, r.point ≠ 63 ∧ r.unacked = false) ∧
    (∃ r' ∈ (crowdedReturned.acknowledgeAll .host fun _ => true).roster, r'.point = 38) ∧
    (∀ r ∈ crowdedReturned.roster, r.point ≠ 38) ∧
    (crowdedOverflow.deferred = [38] ∧ (crowdedOverflow.acknowledgeAll .host fun _ => true).deferred = []) :=
  ⟨⟨crowded_configLegal, crowded_pictureLegal, mixed_configLegal, mixed_pictureLegal⟩,
    ⟨crowdedReturned_configLegal, crowdedReturned_pictureLegal, crowdedOverflow_configLegal,
      crowdedOverflow_pictureLegal⟩, by decide +kernel⟩

theorem witness_ResetsRetireAwaiting :
    (mixed.ConfigLegal ∧ mixed.PictureLegal) ∧ (crowdedAwaiting.ConfigLegal ∧ crowdedAwaiting.PictureLegal) ∧
    63 < (64 : Byte).toNat ∧ mixed.alarmOf 5 ≠ .awaitReset ∧ mixed.alarmOf 6 = .awaitReset ∧
    crowdedAwaiting.alarmOf 0 = .awaitReset ∧ crowdedAwaiting.deferred = [38] ∧ crowdedAwaiting.resetEvery.deferred = [] :=
  ⟨⟨mixed_configLegal, mixed_pictureLegal⟩, ⟨crowdedAwaiting_configLegal, crowdedAwaiting_pictureLegal⟩,
    by decide +kernel⟩

theorem witness_RecordReads :
    63 < (64 : Byte).toNat ∧ (∀ r ∈ mixed.roster, r.point ≠ 63) ∧
    (let r : RosterRecord := { standing 5 3 .alert with firstOut := true }
     mixed.roster[0]? = some r ∧ (mixed.roster.map RosterRecord.point).Nodup ∧ r.unacked = true ∧
       ∀ x ∈ mixed.roster.take 0, x.unacked = false) ∧
    (∀ r ∈ (lone .manual .awaitReset [standing 5 1 .awaitReset]).roster, r.unacked = false) ∧
    ({ standing 5 1 .alert with reannounce := some 14400000000 } : RosterRecord).reannounce = some 14400000000 := by
  decide +kernel

theorem witness_ListReads : mixed.shelves[0]? = some ⟨7, 240000000⟩ ∧
    (mixed.roster.drop (1 : Byte).toNat).length = 1 := by decide +kernel

theorem witness_SummaryCounts : crowded.PictureLegal ∧ crowded.deferred.length = 1 :=
  ⟨crowded_pictureLegal, by decide +kernel⟩

theorem witness_RecordTimers :
    (let r := { standing 5 1 .alert with silenced := true, reannounce := some 0 }
     (lone .auto .alert [r]).recordOf 5 = some r ∧ r.stamp = 1 ∧ r.reannounce ≠ none) ∧
    (∀ r, (lone .auto .alert [standing 5 1 .alert]).recordOf 5 = some r → r.stamp ≠ 1 ∨ r.reannounce = none) ∧
    (∀ r, State.reset.recordOf 5 = some r → r.stamp ≠ 1 ∨ r.reannounce = none) :=
  ⟨by decide +kernel, only_one (x := standing 5 1 .alert) (by decide +kernel) (by decide +kernel),
    held_by_none (by decide +kernel)⟩

theorem witness_WriteGroupSetsFirstOut :
    7 < (8 : Byte).toNat ∧ 1 < (2 : Byte).toNat ∧ (mixed.groups[(0 : GroupId)]).firstOutEnabled = true ∧
    (mixed.groups[(7 : GroupId)]).firstOutEnabled = false := by decide +kernel

theorem witness_GroupReadAndClear :
    7 < (8 : Byte).toNat ∧ (mixed.groups[(7 : GroupId)]).slot = none ∧ (mixed.groups[(0 : GroupId)]).slot = some 5 ∧
    mixed.recordOf 5 = some { standing 5 3 .alert with firstOut := true } := by decide +kernel

theorem witness_ShelveTakesPointOut :
    (mixed.ConfigLegal ∧ mixed.PictureLegal) ∧
    (63 < (64 : Byte).toNat ∧ (0 : Half).toNat < 1 ∧ 480 < (481 : Half).toNat) ∧
    (1 ≤ (1 : Half).toNat ∧ (480 : Half).toNat ≤ 480) ∧ (62 ≤ (62 : PointId).val ∧ mixed.alarmOf 0 = .outOfService) ∧
    (let s := { mixed with shelves := List.replicate 8 ⟨7, 1⟩ }
     (5 : PointId).val < 62 ∧ s.alarmOf 5 ≠ .outOfService ∧ s.alarmOf 5 ≠ .shelved ∧ 8 ≤ s.shelves.length) ∧
    ((7 : PointId).val < 62 ∧ mixed.alarmOf 7 = .shelved) ∧ mixed.shelves.length < 8 :=
  ⟨⟨mixed_configLegal, mixed_pictureLegal⟩, by decide +kernel⟩

/-- A shelved point whose condition stands, and one whose condition does not. -/
theorem witness_ShelveEnds :
    63 < (64 : Byte).toNat ∧ mixed.alarmOf 5 ≠ .shelved ∧ mixed.alarmOf 7 = .shelved ∧
    (∃ e ∈ mixed.shelves, e.point = 7) ∧ (∀ e ∈ mixed.shelves, e.point ≠ 5) ∧
    (let s := lone .auto .shelved []
     s.alarmOf 5 = .shelved ∧ (s.cfg 5).kind ≠ .pulse ∧ (s.filterOf 5).qualified = true) := by decide +kernel

theorem witness_KeysDebounceAndAct :
    (State.reset.keys.get .kack).timer = none ∧ running.KeysLegal ∧ (running.keys.get .ktst).timer = some 7 ∧
    (let s := running
     s.panelTest = none ∧ s.hostTest = none ∧ (s.keys.get .ktst).pressed = false ∧ s.keyEnables.get .ktst = true ∧
       s.playerOf .b = some (testPlayer 0) ∧ (testPlayer 0).owner = .test ∧ (s.channels.get .b).policy = .step) ∧
    (let s := { State.reset with
       keys := ⟨⟨.low, false, some 0⟩, ⟨.high, true, some 0⟩, ⟨.low, false, some 0⟩, ⟨.high, true, some 0⟩⟩
       keyEnables := ⟨true, true, false, true⟩ }
     ((s.keys.get .ksil).timer ≠ none ∧ (s.keys.get .ksil).pressed = true ∧ Key.ksil ≠ .ktst) ∧
     ((s.keys.get .ktst).timer ≠ none ∧ (s.keys.get .ktst).pressed = true) ∧
     ((s.keys.get .krst).timer ≠ none ∧ (s.keys.get .krst).pressed = false ∧ s.keyEnables.get .krst = false) ∧
     ((s.keys.get .kack).timer ≠ none ∧ (s.keys.get .kack).pressed = false ∧ s.keyEnables.get .kack = true)) :=
  ⟨by decide +kernel, running_keysLegal, by decide +kernel⟩

theorem witness_LampTestAndPanelRecord :
    15 < (16 : Byte).toNat ∧ (15 : Byte).toNat ≤ 15 ∧ 1 < (2 : Byte).toNat ∧
    (⟨true, false, true, true⟩ : PerKey Bool).ktst = true ∧ (⟨true, true, true, false⟩ : PerKey Bool).ktst = false ∧
    State.reset.panelTest = none ∧
    (running.testActive = false ∧ (after (.lampTest 1) running).testActive = true ∧
      running.playerOf .b = some (testPlayer 0) ∧ (testPlayer 0).owner = .test) := by decide +kernel

theorem witness_LampsAndCalm :
    (mixed.cfg 5).lamp = some 3 ∧ mixed.recordOf 5 = some { standing 5 3 .alert with firstOut := true } ∧
    mixed.alarmOf 5 = .alert ∧ mixed.testActive = false ∧ ({ mixed with hostTest := some 1 } : State).testActive = true ∧
    mixed.lampPattern 0 = .off ∧ (lone .auto .returned [standing 5 1 .returned]).alarmOf 5 = .returned ∧
    ((lone .auto .acked [standing 5 1 .acked]).alarmOf 5 = .acked ∧ mixed.alarmOf 6 = .awaitReset ∧
      crowded.alarmOf 38 = .deferred ∧ mixed.alarmOf 8 = .normal ∧ mixed.alarmOf 7 = .shelved ∧
      mixed.alarmOf 0 = .outOfService) := by decide +kernel

/-- Each pattern on a lamp line: those of one point in each of its states, and DOUBLE from a first-out mark. -/
theorem witness_LampsAndCalm_patterns :
    let lit := fun (a : AlarmState) (records : List RosterRecord) =>
      ({ place 5 { hostPoint .manual with lamp := some 31 } a (steady true) State.reset with roster := records } : State)
    (lit .acked [standing 5 1 .acked]).lampPattern 31 = .steady ∧
    (lit .awaitReset [standing 5 1 .awaitReset]).lampPattern 31 = .wink ∧
    (lit .returned [standing 5 1 .returned]).lampPattern 31 = .slow ∧
    (lit .alert [standing 5 1 .alert]).lampPattern 31 = .fast ∧
    (lit .alert [{ standing 5 1 .alert with firstOut := true }]).lampPattern 31 = .double ∧
    (lit .acked [standing 5 1 .acked]).testActive = false := by decide +kernel

theorem witness_EditSessionWrites :
    (∀ e, (editing (session .validating)).edit = some e → e.phase = .validating) ∧
    ((7 : Byte).toNat < 8 ∧ 31 < (32 : Byte).toNat ∧ 8 ≤ (8 : CueId).val ∧ 8 ≤ (31 : CueId).val) ∧
    (mixed.edit ≠ none ∧ State.reset.edit = none) ∧
    ((editing (session .openPhase)).edit = some (session .openPhase) ∧ (session .openPhase).phase = .openPhase) ∧
    (2 < (3 : Byte).toNat ∧ (2 : Byte) = CuePolicy.firm.code ∧ (2 : Byte).toNat ≤ 2) ∧
    (16 < (15 : Byte).toNat + [(⟨1, 1⟩ : StepBytes), ⟨1, 1⟩].length ∧
      (15 : Byte).toNat + [(⟨1, 1⟩ : StepBytes)].length ≤ 16) :=
  ⟨only_one rfl (by decide +kernel), by decide +kernel⟩

theorem witness_CommitReplacesOrRejects :
    (∀ e, State.reset.edit = some e → e.phase = .validating) ∧
    (∀ e, (editing (session .openPhase)).edit = some e → e.phase = .openPhase) ∧
    ((editing (session .openPhase)).edit = some (session .openPhase) ∧ (session .openPhase).phase = .openPhase) ∧
    (let e := session .validating
     (editing e).edit = some e ∧ e.phase = .validating ∧ e.stepCount ≤ 16 ∧ e.header.loops.length ≤ 2 ∧
       e.rejection = none ∧ e.steps[1]? = some ⟨0x80, 1⟩) ∧
    (let e : EditSession := { session .validating with stepCount := 3 }
     (editing e).edit = some e ∧ e.phase = .validating ∧ e.rejection = some (.lengthRange, 2)) ∧
    (let pl := { player 9 0 [] with firmHold := true, passPolicy := .firm }
     let s := { sounding (some 9) (some pl) with edit := some (session .validating) }
     s.playerOf .a = some pl ∧ pl.demandedCue = 9 ∧ s.playerOf .b = none) ∧
    (recut.playerOf .a = some (player 9 0 []) ∧ (player 9 0 []).demandedCue = 9 ∧
      (recut.channels.get .a).policy = .immediate) ∧
    (let s := { sounding (some 0) (some (player 0 0 [])) with edit := some (session .validating) }
     s.playerOf .a = some (player 0 0 []) ∧ (player 0 0 []).demandedCue ≠ 9 ∧ (s.channels.get .a).policy = .step) :=
  ⟨held_by_none rfl, only_one rfl (by decide +kernel), by decide +kernel⟩

/-- A session that passes the check, and one that fails each of its seven tests, with the others before it passed. -/
theorem witness_CommitCheckIsExact :
    (let e := session .validating
     e.stepCount ≤ 16 ∧ e.header.loops.length ≤ 2 ∧ e.rejection = none) ∧
    (let e := freshSession 9
     e.stepCount = 0 ∧ e.header.loops.length ≤ 2) ∧
    (let e : EditSession := { session .validating with steps := Table.put (session .validating).steps 1 ⟨24, 1⟩ }
     e.stepCount ≤ 16 ∧ e.rejection = some (.toneRange, byteOf 1)) ∧
    (let e : EditSession := { session .validating with stepCount := 3 }
     e.rejection = some (.lengthRange, byteOf 2)) ∧
    (let fails := fun (h : HeaderBuffer) => ({ session .validating with header := h } : EditSession).rejection
     fails ⟨.firm, 12, none, []⟩ = some (.tempoRange, 0xFF) ∧
       fails ⟨.firm, 11, some (2, 0), []⟩ = some (.altRange, 0xFF) ∧
       fails ⟨.firm, 11, some (1, 11), [⟨0, 0, 2⟩, ⟨1, 1, 16⟩]⟩ = some (.loopRange, byteOf 1) ∧
       fails ⟨.firm, 11, some (1, 11), [⟨0, 1, 2⟩, ⟨0, 1, 15⟩]⟩ = some (.loopOverlap, 1)) := by decide +kernel

theorem witness_EditSessionEnds :
    (∀ e, (editing (session .validating)).edit = some e → e.phase = .validating) ∧
    ((editing (session .openPhase)).edit = some (session .openPhase) ∧ (session .openPhase).phase = .openPhase ∧
      (session .openPhase).idleTimer ≠ none) ∧
    (∀ e, (editing (session .validating)).edit = some e → e.phase = .validating ∨ e.idleTimer = none) :=
  ⟨only_one rfl (by decide +kernel), by decide +kernel, only_one rfl (by decide +kernel)⟩

theorem witness_CueReadAndErase :
    mixed.CuesLegal ∧ (∃ e, mixed.edit = some e ∧ e.target = 9) ∧
    (∀ e, mixed.edit = some e → e.target ≠ 8) ∧ (∀ c pl, mixed.playerOf c = some pl → pl.playedCue ≠ 8) ∧
    (31 < (32 : Byte).toNat ∧ (7 : Byte).toNat < 8 ∧ 8 ≤ (9 : CueId).val) ∧ mixed.cues[(31 : CueId)] = none ∧
    mixed.cues[(0 : CueId)] = some fallbackContents ∧
    (let s := { sounding (some 31) (some (player 31 0 [])) with cues := cuesAtReset.put 31 (some fallbackContents) }
     s.playerOf .a = some (player 31 0 []) ∧ (player 31 0 []).playedCue = 31) ∧
    (let c : CueContents := ⟨.firm, 11, some ⟨1, 0⟩, [⟨.rest, 1⟩, ⟨.tone 23, 16⟩], [⟨0, 0, 2⟩, ⟨0, 1, 15⟩]⟩
     ({ mixed with cues := mixed.cues.put 31 (some c) } : State).cues[(31 : CueId)] = some c ∧ c.alt = some ⟨1, 0⟩ ∧
       c.loops[1]? = some ⟨0, 1, 15⟩) ∧
    mixed.cues[(8 : CueId)] = none ∧
    ({ mixed with cues := mixed.cues.put 8 (some fallbackContents) } : State).cues[(8 : CueId)] ≠ none := by
  refine ⟨mixed_cuesLegal, ⟨freshSession 9, by decide +kernel⟩, ?_, ?_, by decide +kernel⟩
  · exact only_one (x := freshSession 9) (by decide +kernel) (by decide +kernel)
  · intro c
    cases c
    · exact only_one (x := mixed.passStart (.record 5 3) 1) (by decide +kernel) (by decide +kernel)
    · exact held_by_none (by decide +kernel)

theorem witness_TonesWrittenAndRead :
    24 < (24 : Byte).toNat + [(200 : Half)].length ∧ (∃ f ∈ [(199 : Half)], f.toNat < 200 ∨ 5000 < f.toNat) ∧
    (∃ f ∈ [(5001 : Half)], f.toNat < 200 ∨ 5000 < f.toNat) ∧
    (8 : Byte).toNat + (List.replicate 16 (5000 : Half)).length ≤ 24 ∧
    (∀ f ∈ List.replicate 16 (5000 : Half), 200 ≤ f.toNat ∧ f.toNat ≤ 5000) ∧ (200 : Half) ≠ 0 ∧
    (loopJump [⟨0, 1, 2⟩] 1 [1] = none ∧ loopJump [⟨0, 1, 2⟩, ⟨1, 1, 3⟩] 1 [2, 3] = some ([2, 2], 1)) ∧
    (let q : CueContents := ⟨.firm, 11, some ⟨1, 0⟩, [⟨.rest, 1⟩, ⟨.tone 23, 16⟩], []⟩
     ∃ a, q.alt = some a ∧ a.fromStep ≤ 1 ∧ 0 < a.fromStep) ∧
    (let pl := { player 0 0 [] with copy := ⟨.tone 16, 1, some 1008, 60⟩, timeLeft := 240000 - 1984 }
     let s := sounding (some 0) (some pl)
     s.playerOf .a = some pl ∧ pl.copy.frequency = some 1008 ∧ (1008 : Half) ≠ 0 ∧
       1 * halfPeriod 1008 ≤ pl.copy.length * pl.copy.ms * 4000 - pl.timeLeft ∧
       pl.copy.length * pl.copy.ms * 4000 - pl.timeLeft < (1 + 1) * halfPeriod 1008) := by
  refine ⟨by decide, ⟨199, by simp, by decide⟩, ⟨5001, by simp, by decide⟩, by decide, ?_, by decide, by decide +kernel,
    ⟨⟨1, 0⟩, by decide⟩, by decide +kernel⟩
  intro f h
  rw [List.eq_of_mem_replicate h]
  decide

/-- Every way on from a step end. -/
theorem witness_StepEndsInOrder :
    State.reset.playerOf .a = none ∧
    (let s := sounding none (some (player 0 0 []))
     s.playerOf .a = some (player 0 0 []) ∧ s.wanted .a = none ∧ (player 0 0 []).firmHold = false ∧
       (player 0 0 []).replacementPending = false) ∧
    (let s := sounding (some 31) (some (player 0 0 []))
     s.wanted .a = some ⟨.record 5 3, 31⟩ ∧ (⟨.record 5 3, 31⟩ : Demand) ≠ (player 0 0 []).current ∧
       s.cues[(31 : CueId)] = none) ∧
    (let s := sounding (some 3) (some (player 3 1 [2]))
     s.wanted .a = some (player 3 1 [2]).current ∧
       loopJump (s.contents 3).loops 1 [2] = some ([1], 0) ∧
       loopJump (s.contents 3).loops 1 [1] = none ∧ (s.contents 3).steps[1 + 1]? = some ⟨.tone 14, 2⟩) ∧
    (let s := sounding (some 0) (some (player 0 0 []))
     s.wanted .a = some (player 0 0 []).current ∧ loopJump (s.contents 0).loops 0 [] = none ∧
       (s.contents 0).steps.length ≤ 0 + 1 ∧ (s.contents 0).policy = .repeating) ∧
    (let s := sounding (some 5) (some (player 5 2 []))
     s.wanted .a = some (player 5 2 []).current ∧ loopJump (s.contents 5).loops 2 [] = none ∧
       (s.contents 5).steps.length ≤ 2 + 1 ∧ (s.contents 5).policy ≠ .repeating ∧ (player 5 2 []).renewed = false ∧
       (player 5 2 []).owner = .record 5 3) := by decide +kernel

/-- The end of an unrenewed SINGLE pass after which the channel goes IDLE, and one after which it begins an EMPTY cue. -/
theorem witness_StepEndsInOrder_sounded :
    (let s := { passEnding with roster := [standing 5 3 .alert] }
     (after (.stepEnd .a) s).wanted .a = none ∧ (after (.stepEnd .a) s).flag .channelAIdle = true) ∧
    (passEnding.wanted .a = some ⟨.record 5 3, 5⟩ ∧
      (after (.stepEnd .a) passEnding).wanted .a = some ⟨.record 6 4, 31⟩ ∧ passEnding.cues[(31 : CueId)] = none ∧
      (after (.stepEnd .a) passEnding).flag .cueFallback = true) := by decide +kernel

/-- A cue replaced while its pass is held, while it is wanted, while another is, and while nothing is; a renewed pass, and the
end of the test demand's. -/
theorem witness_StepEndsInOrder_replaced :
    (let pl := { player 9 0 [] with firmHold := true, replacementPending := true }
     let s := { sounding none (some pl) with cues := cuesAtReset.put 9 (some ⟨.firm, 4, none, [⟨.rest, 1⟩], []⟩) }
     s.playerOf .a = some pl ∧ pl.replacementPending = true ∧ s.wanted .a = none ∧ s.cues[pl.demandedCue] ≠ none ∧
       (s.contents 9).policy = .firm) ∧
    (let pl := { player 9 0 [] with firmHold := true, replacementPending := true }
     let s := sounding none (some pl)
     s.playerOf .a = some pl ∧ s.cues[pl.demandedCue] = none ∧ (s.contents 0).policy ≠ .firm ∧ s.wanted .a = none) ∧
    (let pl := { player 0 0 [] with replacementPending := true }
     (sounding (some 0) (some pl)).wanted .a = some pl.current ∧
       (sounding (some 31) (some pl)).wanted .a = some ⟨.record 5 3, 31⟩) ∧
    (let pl := { player 5 2 [] with renewed := true }
     (sounding (some 5) (some pl)).playerOf .a = some pl ∧ (sounding (some 5) (some pl)).wanted .a = some pl.current ∧
       pl.renewed = true) ∧
    (let s := { State.reset with
       hostTest := some 1, channels := ⟨.atReset, ⟨true, .step, some (testPlayer 4)⟩⟩ }
     s.playerOf .b = some (testPlayer 4) ∧ s.wanted .b = some (testPlayer 4).current ∧ (testPlayer 4).owner = .test ∧
       (s.contents 7).steps.length ≤ 4 + 1 ∧ (s.contents 7).policy ≠ .repeating ∧
       loopJump (s.contents 7).loops 4 [] = none) := by decide +kernel

theorem witness_ChannelCommands :
    1 < (2 : Byte).toNat ∧
    (let s := sounding (some 0) none
     (s.channels.get .a).enabled = true ∧ s.roster[0]? = some (standing 5 3 .alert) ∧ (s.cfg 5).channel = .a ∧
       s.demandOf (standing 5 3 .alert) = some 0 ∧ (s.cfg 5).alertCue = some 0 ∧ (s.cfg 5).ringbackCue = none ∧
       (∃ k, s.cues[(0 : CueId)] = some k ∧ k.policy = .repeating) ∧
       (∃ k, s.cues[(7 : CueId)] = some k ∧ k.policy ≠ .repeating) ∧ s.cues[(31 : CueId)] = none) ∧
    (let s := { State.reset with hostTest := some 1, channels := ⟨.atReset, ⟨true, .step, some (testPlayer 0)⟩⟩ }
     (∀ r ∈ s.roster, (s.cfg r.point).channel = .b → s.demandOf r = none) ∧ s.wanted .b = some ⟨.test, 7⟩ ∧
       s.playerOf .b = some (testPlayer 0) ∧ (testPlayer 0).owner = .test) ∧
    ({ State.reset with channels := State.reset.channels.put .b ⟨false, .immediate, none⟩ } : State).playerOf .b = none ∧
    (let s := { State.reset with channels := State.reset.channels.put .b ⟨false, .immediate, none⟩ }
     (s.channels.get .b).enabled = false ∧ (s.channels.get .b).policy = .immediate ∧
       (s.channels.get .a).enabled = true ∧ (s.channels.get .a).policy = .step ∧ s.playerOf .a = none ∧
       s.wanted .a = none ∧ ¬ ((s.channels.get .b).enabled = true ∧ (s.channels.get .b).policy = .immediate)) ∧
    (let s := sounding (some 0) (some (player 3 1 [2]))
     (s.channels.get .a).enabled = true ∧ s.playerOf .a = some (player 3 1 [2]) ∧ (player 3 1 [2]).firmHold = false ∧
       (player 3 1 [2]).owner = .record 5 3 ∧
       ¬ ((s.channels.get .a).enabled = true ∧ (s.channels.get .a).policy = .immediate)) ∧
    (let s := { sounding (some 0) (some { player 3 1 [2] with firmHold := true }) with
       channels := ⟨⟨true, .immediate, some { player 3 1 [2] with firmHold := true }⟩, .atReset⟩ }
     (s.playerOf .a).map Player.firmHold = some true ∧
       ¬ ((s.channels.get .a).enabled = true ∧ (s.channels.get .a).policy = .step)) := by decide +kernel

/-- A frame one byte short of whole, the same frame whole, and a collect with its last byte out. -/
theorem witness_TransactionsReceiveBytes :
    State.reset.link.trans = .idle ∧ (linked (opened .opened [])).link.trans = .opened ∧
    (let s := linked (opened .request [0x43, 0x07, 0x00])
     s.link.trans ≠ .idle ∧ s.link.trans = .request ∧ frameWhole s.link.rx = false) ∧
    (let s := linked (opened .request [0x43, 0x07, 0x00, 0x50])
     s.link.trans = .request ∧ frameWhole s.link.rx = true) ∧
    ((linked (opened .afterFrame [])).link.trans = .afterFrame ∧ (linked (opened .ignored [])).link.trans = .ignored ∧
      (linked (opened .missed [])).link.trans = .missed ∧ (linked (opened (.collect none) [])).link.trans = .collect none) ∧
    (let f : CollectFrame := ⟨[0x02, 0, 0, 0, 0], 5, true⟩
     (linked (opened (.collect (some f)) [])).link.trans = .collect (some f) ∧ f.bytes.length ≤ f.shifted) := by decide +kernel

/-- Frames of the shortest and of the longest payload, a wrong check byte, and a length byte of 41. -/
theorem witness_RequestFrameEndJudges :
    frameWhole [0x43, 0x07, 0x00] = false ∧ frameWhole [0x43, 0x07, 0x00, 0x50] = true ∧
    ({ Link.atReset with inFlight := some ⟨1, false, false, .checking⟩ } : Link).inFlight =
      some ⟨1, false, false, .checking⟩ ∧
    ((0x50 : Byte) = crc8 [0x43, 0x07, 0x00] ∧ (0x51 : Byte) ≠ crc8 [0x43, 0x07, 0x00] ∧
      ([] : List Byte).length = (0 : Byte).toNat) ∧
    ((List.replicate 40 (0 : Byte)).length = (40 : Byte).toNat ∧ (40 : Byte).toNat ≤ 40) ∧
    (requestOf 0x43 [] = .command .firstUnacked ∧ requestOf 0xFF [] = .unknown ∧ requestOf 0x43 [0] = .badLength ∧
      requestOf 0x13 [0, 2] = .badService) ∧ 40 < (41 : Byte).toNat := by decide +kernel

theorem witness_CompletionsAndCollects :
    (let f : InFlight := ⟨1, true, false, .done ⟨.range, []⟩⟩
     (linked { Link.atReset with inFlight := some f }).link.inFlight = some f) ∧
    (let f : InFlight := ⟨1, false, true, .awaiting .readEvents⟩
     let s := linked { Link.atReset with inFlight := some f }
     s.link.inFlight = some f ∧ f.work = .awaiting .readEvents ∧
       (ownerTakes .readEvents s).2 = some ⟨.ok, [0x04, 0x00, 0x00, 0x00]⟩) ∧
    State.reset.link.inFlight = none ∧
    (linked { Link.atReset with marked := [.done ⟨.ok, []⟩] }).link.marked = [.done ⟨.ok, []⟩] ∧
    ((linked (opened (.collect none) [])).link.trans = .collect none ∧
      (linked (opened (.collect none) [])).link.response = none ∧ State.reset.link.trans ≠ .collect none) ∧
    (let x : Response := ⟨.ok, false, false, 7, [0]⟩
     ({ opened (.collect none) [] with response := some x } : Link).response = some x) := by decide +kernel

/-- A COMMIT not yet taken, one whose check goes on, and one whose check was abandoned, in flight and marked; a marked command
not yet taken; and a frame on SDO with a byte to go and with none. -/
theorem witness_CompletionsAndCollects_commit :
    (let s := { editing (session .openPhase) with
       link := { Link.atReset with inFlight := some ⟨1, false, false, .awaiting .commit⟩, marked := [.awaiting .commit] } }
     s.link.inFlight = some ⟨1, false, false, .awaiting .commit⟩ ∧ s.link.marked = [.awaiting .commit] ∧
       (ownerTakes .commit s).2 = none) ∧
    (let l := { Link.atReset with inFlight := some ⟨1, false, false, .checking⟩, marked := [.checking] }
     (linked l).link.inFlight = some ⟨1, false, false, .checking⟩ ∧ (linked l).link.marked = [.checking] ∧
       (linked l).edit = none ∧
       ({ linked l with edit := some (session .validating) } : State).edit = some (session .validating) ∧
       (session .validating).phase = .validating) ∧
    ((linked { Link.atReset with marked := [.awaiting .readEvents] }).link.marked = [.awaiting .readEvents] ∧
      (ownerTakes .readEvents State.reset).2 = some ⟨.ok, [0x04, 0x00, 0x00, 0x00]⟩) ∧
    ([0x02, 0, 0, 0, (0 : Byte)][4]? = some 0 ∧ [0x02, 0, 0, 0, (0 : Byte)].length ≤ 5) ∧
    (linked (opened .missed [])).link.trans = .missed ∧ Instr.commit.request ≠ none := by decide +kernel

theorem witness_LinkResetClearsLink :
    State.reset.link.timer = none ∧ (linked (opened .request [0x43])).link.timer ≠ none ∧
    (let f : InFlight := ⟨1, false, false, .awaiting .ackAll⟩
     ({ opened .opened [] with inFlight := some f } : Link).inFlight = some f) ∧
    (let f : CollectFrame := ⟨[0x02, 0, 0, 0, 0], 1, false⟩
     (opened (.collect (some f)) []).trans = .collect (some f)) := by decide +kernel

theorem witness_EventFlagsAndMask :
    4095 < (4096 : Half).toNat ∧ (4095 : Half).toNat ≤ 4095 ∧
    (({ State.reset with mask := 0x400 } : State).attn = true ∧ State.reset.attn = false) := by decide +kernel

theorem witness_RequestsDecodeToTheirCommands :
    (Instr.writeSteps 0 (List.replicate 19 ⟨0, 1⟩)).wellFormed = true ∧
    (Instr.writeSteps 0 (List.replicate 19 ⟨0, 1⟩)).request = some (0x83, 0 :: (List.replicate 19 [(0 : Byte), 1]).flatten) ∧
    (Instr.ack 5 3 258).request = some (0x31, [5, 3, 0, 0, 1, 2]) := by decide +kernel

theorem witness_FramesReachTheirOwner :
    (Instr.firstUnacked.wellFormed = true ∧ Instr.firstUnacked.request = some (0x43, []) ∧
      mixed.link.trans = .idle ∧ mixed.link.inFlight = none) ∧
    ∃ t, runAll (.selnFall :: (requestFrame 0x43 0x07 []).map .byteCompletion ++ [.requestFrameEnd]) mixed = .next t :=
  ⟨by decide +kernel, _, rfl⟩

/-! `mixed` has an alarm, a first-out holder, a shelve, an edit session, a PLAYING channel and a waiting ACK ALL; the last
state is in the middle of a frame. Each has a next step. -/

theorem witness_StepKeepsConfigLegal : mixed.ConfigLegal ∧ ∃ t, step mixed = .next t := ⟨mixed_configLegal, _, rfl⟩

theorem witness_StepKeepsCuesLegal : mixed.CuesLegal ∧ ∃ t, step mixed = .next t := ⟨mixed_cuesLegal, _, rfl⟩

theorem witness_StepKeepsPictureLegal : mixed.ConfigLegal ∧ mixed.PictureLegal ∧ ∃ t, step mixed = .next t :=
  ⟨mixed_configLegal, mixed_pictureLegal, _, rfl⟩

theorem witness_StepKeepsSourcesFollowed :
    mixed.ConfigLegal ∧ mixed.PictureLegal ∧ mixed.SourcesFollowed ∧ ∃ t, step mixed = .next t :=
  ⟨mixed_configLegal, mixed_pictureLegal, mixed_sourcesFollowed, _, rfl⟩

theorem witness_StepKeepsChannelsServing :
    mixed.CuesLegal ∧ mixed.PictureLegal ∧ mixed.ChannelsServe ∧ ∃ t, step mixed = .next t :=
  ⟨mixed_cuesLegal, mixed_pictureLegal, mixed_channelsServe, _, rfl⟩

theorem witness_StepKeepsLinkAndKeysLegal :
    (midFrame.LinkLegal ∧ ∃ t, step midFrame = .next t) ∧
    (let s := { running with pending := [.debounceExpiry .ktst] }
     s.KeysLegal ∧ ∃ t, step s = .next t) :=
  ⟨⟨midFrame_linkLegal, _, rfl⟩, running_keysLegal, _, rfl⟩

end Sys2Proof.Tests
end

namespace Sys2Proof.Machine

-- One proof at a time: each further compiler thread adds to the memory that the whole text takes as one file.
set_option Elab.async false

/-! ## Lists kept in order of a key (R63, R70, R95) -/

section Placing

variable {α β : Type} [LinearOrder β] (key : α → β)

/-- Placing an entry behind those that are not above it adds the entry, and nothing else. -/
theorem placed_perm (P : α → Bool) (x : α) (l : List α) : (l.takeWhile P ++ x :: l.dropWhile P).Perm (x :: l) := by
  simpa using (List.perm_middle (a := x) (l₁ := l.takeWhile P) (l₂ := l.dropWhile P))

/-- An ordered list stays ordered when an entry is placed behind those that are not above it. -/
theorem placed_pairwise (x : α) (l : List α) (h : l.Pairwise fun y z => key y ≤ key z) :
    (l.takeWhile (fun y => key y ≤ key x) ++ x :: l.dropWhile fun y => key y ≤ key x).Pairwise
      fun y z => key y ≤ key z := by
  induction l with
  | nil => simp
  | cons y ys ih =>
    obtain ⟨below, rest⟩ := List.pairwise_cons.mp h
    by_cases le : key y ≤ key x
    · have above : ∀ z ∈ ys.takeWhile (fun y => key y ≤ key x) ++ x :: ys.dropWhile fun y => key y ≤ key x,
          key y ≤ key z := by
        intro z hz
        rcases List.mem_cons.mp ((placed_perm _ x ys).mem_iff.mp hz) with rfl | hz
        · exact le
        · exact below z hz
      simpa [le] using And.intro (by simpa using above) (ih rest)
    · have lt : key x < key y := lt_of_not_ge le
      have above : ∀ z ∈ y :: ys, key x ≤ key z := by
        intro z hz
        rcases List.mem_cons.mp hz with rfl | hz
        · exact lt.le
        · exact lt.le.trans (below z hz)
      simpa [le, -List.mem_cons] using And.intro above h

end Placing

/-! ## Free stamps (R66) -/

/-- The counter's next value as a number: 2³²−1 is followed by 1. -/
theorem Stamp.next_toNat (x : Stamp) : x.next.toNat = x.toNat % (2 ^ 32 - 1) + 1 := by
  unfold Stamp.next
  have := x.isLt
  split
  · rename_i h
    have : (x + 1).toNat = 0 := congrArg BitVec.toNat h
    simp [BitVec.toNat_add] at this ⊢
    omega
  · rename_i h
    have ne : (x + 1).toNat ≠ 0 := fun k => h (BitVec.eq_of_toNat_eq (by simpa using k))
    simp [BitVec.toNat_add] at ne ⊢
    omega

theorem Stamp.next_ne_zero (x : Stamp) : x.next ≠ 0 := by
  intro h
  have := Stamp.next_toNat x
  simp [h] at this

/-- The counter's value after `i` steps from a value that is not 0. -/
theorem Stamp.iterate_next_toNat {x : Stamp} (h : x ≠ 0) (i : Nat) :
    (Stamp.next^[i] x).toNat = (x.toNat - 1 + i) % (2 ^ 32 - 1) + 1 := by
  have pos : 0 < x.toNat := Nat.pos_of_ne_zero fun k => h (BitVec.eq_of_toNat_eq (by simpa using k))
  have lt := x.isLt
  induction i with
  | zero => simp; omega
  | succ i ih =>
    rw [Function.iterate_succ_apply', Stamp.next_toNat, ih]
    omega

/-- The values that the counter takes one after another differ until it has gone round. -/
theorem Stamp.iterate_next_injective {x : Stamp} (h : x ≠ 0) {n : Nat} (hn : n < 2 ^ 32 - 1) :
    ((List.range n).map fun i => Stamp.next^[i] x).Nodup := by
  refine List.Nodup.map_on ?_ List.nodup_range
  intro i hi j hj eq
  have := congrArg BitVec.toNat eq
  rw [Stamp.iterate_next_toNat h, Stamp.iterate_next_toNat h] at this
  simp only [List.mem_range] at hi hj
  omega

/-- The search for a free stamp ends some steps on, with every value that it has passed held. -/
theorem State.freeStamp_eq (s : State) (n : Nat) (st : Stamp) :
    ∃ k ≤ n, s.freeStamp n st = Stamp.next^[k] st ∧ (∀ i < k, s.stampHeld (Stamp.next^[i] st) = true) ∧
      (s.stampHeld (s.freeStamp n st) = true → k = n) := by
  induction n generalizing st with
  | zero => exact ⟨0, le_rfl, rfl, by simp, fun _ => rfl⟩
  | succ n ih =>
    unfold State.freeStamp
    by_cases held : s.stampHeld st = true
    · obtain ⟨k, le, eq, passed, full⟩ := ih st.next
      rw [if_pos held]
      refine ⟨k + 1, by omega, eq, fun i hi => ?_, fun h => congrArg (· + 1) (full h)⟩
      cases i with
      | zero => exact held
      | succ i => exact passed i (by omega)
    · rw [if_neg held]
      exact ⟨0, by omega, rfl, by simp, fun h => absurd h held⟩

theorem State.stampHeld_iff (s : State) (st : Stamp) : s.stampHeld st = true ↔ st ∈ s.roster.map RosterRecord.stamp := by
  simp [State.stampHeld, List.any_eq_true, List.mem_map]

/-- The stamp that the next admission takes is held by no record (R66): more values are looked at than records stand. -/
theorem State.nextStamp_free (s : State) (counter : s.stampCounter ≠ 0) (few : s.roster.length < 2 ^ 32 - 2) :
    s.nextStamp ∉ s.roster.map RosterRecord.stamp := by
  intro held
  obtain ⟨k, -, eq, passed, full⟩ := s.freeStamp_eq s.roster.length s.stampCounter
  have last : s.stampHeld s.nextStamp = true := (s.stampHeld_iff _).mpr held
  obtain rfl := full last
  have sub : ((List.range (s.roster.length + 1)).map fun i => Stamp.next^[i] s.stampCounter) ⊆
      s.roster.map RosterRecord.stamp := by
    intro x hx
    obtain ⟨i, hi, rfl⟩ := List.mem_map.mp hx
    rw [← s.stampHeld_iff]
    rcases Nat.lt_or_ge i s.roster.length with lt | ge
    · exact passed i lt
    · have : i = s.roster.length := by
        have := List.mem_range.mp hi
        omega
      rw [this, ← eq]
      exact last
  have nodup := Stamp.iterate_next_injective counter (n := s.roster.length + 1) (by omega)
  have := (nodup.subperm sub).length_le
  simp at this

theorem State.nextStamp_ne_zero (s : State) (counter : s.stampCounter ≠ 0) : s.nextStamp ≠ 0 := by
  obtain ⟨k, -, eq, -⟩ := s.freeStamp_eq s.roster.length s.stampCounter
  unfold State.nextStamp
  rw [eq]
  cases k with
  | zero => exact counter
  | succ k =>
    rw [Function.iterate_succ_apply']
    exact Stamp.next_ne_zero _

end Sys2Proof.Machine

namespace Sys2Proof.Machine

set_option Elab.async false

/-! ## The alarm picture in parts

Each part is a predicate of the tables and lists that it reads, so that a change of one part of the state is judged by the
parts that read it alone. -/

/-- A timer runs only towards the condition that the point does not have yet (R31). -/
structure Filter.Settled (f : Filter) : Prop where
  onTimer : f.onTimer.isSome → f.raw = true ∧ f.qualified = false
  offTimer : f.offTimer.isSome → f.raw = false ∧ f.qualified = true

/-- Nothing of a point's qualification stands or runs (R10, R33). -/
structure Filter.Stopped (f : Filter) : Prop where
  raw : f.raw = false
  qualified : f.qualified = false
  onTimer : f.onTimer = none
  offTimer : f.offTimer = none
  frozen : f.frozen = false

/-- One point's configuration record, service state, alarm state and qualification agree (R1, R10, R31, R36). -/
structure PointLegal (c : PointConfig) (v : Service) (a : AlarmState) (f : Filter) : Prop where
  service : v = .outService ↔ a = .outOfService
  kind : c.kind.allows a = true
  stopped : v = .outService → f.Stopped
  settled : f.Settled
  qualified : ∀ b, c.kind ≠ .pulse → a.qualified = some b → f.qualified = b

/-- What the picture asks of one record by itself (R48, R62, R66, R104, R106). -/
structure RecordLegal (r : RosterRecord) : Prop where
  stamp : r.stamp ≠ 0
  recurrence : r.recurrence ≤ 255
  age : r.age ≤ 65535
  acknowledged : r.ackSource.isSome ↔ r.unacked = false
  silenced : r.silenced = true → r.unacked = true
  reannounce : r.reannounce.isSome → r.silenced = true

/-- The roster `l` with its general count `n` and the stamp counter `st` agrees with the points (R36, R61, R63, R66). -/
structure RosterLegal (cfg : PointId → PointConfig) (alarm : PointId → AlarmState) (l : List RosterRecord) (n : Nat)
    (st : Stamp) : Prop where
  records : ∀ r ∈ l, RecordLegal r
  mirror : ∀ r ∈ l, alarm r.point = r.state.toAlarm
  holders : ∀ p, (alarm p).holdsRecord = true → ∃ r ∈ l, r.point = p
  points : (l.map RosterRecord.point).Nodup
  stamps : (l.map RosterRecord.stamp).Nodup
  counter : st ≠ 0
  order : l.Pairwise fun x y => (cfg x.point).priority ≤ (cfg y.point).priority
  count : n = l.countP fun r => isGeneral r.point
  places : n ≤ Config.generalPlaces

/-- The deferred list holds the points in DEFERRED (R69). -/
structure DeferredLegal (cfg : PointId → PointConfig) (alarm : PointId → AlarmState) (l : List PointId) : Prop where
  mem : ∀ p, p ∈ l ↔ alarm p = .deferred
  nodup : l.Nodup
  order : l.Pairwise fun p q => (cfg p).priority ≤ (cfg q).priority
  general : ∀ p ∈ l, isGeneral p = true

/-- The shelve list holds the SHELVED points (R94, R95). -/
structure ShelvesLegal (alarm : PointId → AlarmState) (l : List ShelveEntry) : Prop where
  mem : ∀ p, (∃ e ∈ l, e.point = p) ↔ alarm p = .shelved
  nodup : (l.map ShelveEntry.point).Nodup
  order : l.Pairwise fun x y => x.timeLeft ≤ y.timeLeft
  general : ∀ e ∈ l, isGeneral e.point = true
  places : l.length ≤ Config.shelvePlaces

/-- Slots and first-out marks name each other (R86 to R89). -/
structure SlotsLegal (cfg : PointId → PointConfig) (l : List RosterRecord) (groups : GroupId → GroupRecord) : Prop where
  marks : ∀ r ∈ l, r.firstOut = true ↔ ∃ g : GroupId, (cfg r.point).group = some g ∧ (groups g).slot = some r.point
  slots : ∀ (g : GroupId) (p : PointId), (groups g).slot = some p → (cfg p).group = some g ∧ ∃ r ∈ l, r.point = p
  holder : ∀ g : GroupId, (groups g).slot ≠ none → (groups g).firstOutEnabled = true ∧ (groups g).armed = false

/-- A group with no member that disturbs it is armed (R84, R85). -/
def QuietArmed (cfg : PointId → PointConfig) (alarm : PointId → AlarmState) (groups : GroupId → GroupRecord) : Prop :=
  ∀ g : GroupId, (∀ p, (cfg p).group = some g → (alarm p).disturbs = false) → (groups g).armed = true

/-- The group records, by group. -/
def State.groupOf (s : State) (g : GroupId) : GroupRecord := s.groups[g]

/-- The alarm picture is consistent, part by part, but that a place may be free while points wait for one (R73). -/
structure State.PictureCore (s : State) : Prop where
  points : ∀ p, PointLegal (s.cfg p) s.service[p] (s.alarmOf p) (s.filterOf p)
  roster : RosterLegal s.cfg s.alarmOf s.roster s.generalCount s.stampCounter
  deferred : DeferredLegal s.cfg s.alarmOf s.deferred
  shelves : ShelvesLegal s.alarmOf s.shelves
  slots : SlotsLegal s.cfg s.roster s.groupOf
  quiet : QuietArmed s.cfg s.alarmOf s.groupOf

/-- The alarm picture is consistent, part by part. -/
structure State.PictureParts (s : State) : Prop extends s.PictureCore where
  full : s.deferred ≠ [] → s.generalCount = Config.generalPlaces

/-- A group is quiet when none of its members disturbs it (R84). -/
theorem State.quiet_iff (s : State) (g : GroupId) :
    s.quiet g = true ↔ ∀ p, (s.cfg p).group = some g → (s.alarmOf p).disturbs = false := by
  simp [State.quiet, allPoints]
  grind

theorem State.PictureLegal.parts {s : State} (h : s.PictureLegal) : s.PictureParts where
  points p :=
    { service := h.service p
      kind := h.kinds p
      stopped := fun out =>
        let ⟨raw, qualified, on, off, frozen⟩ := h.stopped p out
        ⟨raw, qualified, on, off, frozen⟩
      settled := ⟨h.onTimer p, h.offTimer p⟩
      qualified := fun b kind state => h.qualified p b kind state }
  roster :=
    { records := fun r hr => ⟨h.stampZero r hr, h.recurrence r hr, h.age r hr, h.acknowledged r hr, h.silenced r hr,
        h.reannounce r hr⟩
      mirror := h.mirror, holders := h.holders, points := h.points, stamps := h.stamps, counter := h.counter
      order := h.order, count := h.count, places := h.places }
  deferred := ⟨h.deferred, h.deferredOnce, h.deferredOrder, h.deferredGeneral⟩
  full := h.deferredFull
  shelves := ⟨h.shelved, h.shelvedOnce, h.shelvedOrder, h.shelvedGeneral, h.shelvedPlaces⟩
  slots := ⟨h.marks, h.slots, h.holder⟩
  quiet g members := h.quiet g ((s.quiet_iff g).mpr members)

theorem State.PictureParts.legal {s : State} (h : s.PictureParts) : s.PictureLegal where
  service p := (h.points p).service
  kinds p := (h.points p).kind
  stopped p out :=
    let k := (h.points p).stopped out
    ⟨k.raw, k.qualified, k.onTimer, k.offTimer, k.frozen⟩
  onTimer p := (h.points p).settled.onTimer
  offTimer p := (h.points p).settled.offTimer
  qualified p := (h.points p).qualified
  mirror := h.roster.mirror
  holders := h.roster.holders
  points := h.roster.points
  stamps := h.roster.stamps
  stampZero r hr := (h.roster.records r hr).stamp
  counter := h.roster.counter
  order := h.roster.order
  count := h.roster.count
  places := h.roster.places
  recurrence r hr := (h.roster.records r hr).recurrence
  age r hr := (h.roster.records r hr).age
  acknowledged r hr := (h.roster.records r hr).acknowledged
  silenced r hr := (h.roster.records r hr).silenced
  reannounce r hr := (h.roster.records r hr).reannounce
  deferred := h.deferred.mem
  deferredOnce := h.deferred.nodup
  deferredOrder := h.deferred.order
  deferredGeneral := h.deferred.general
  deferredFull := h.full
  shelved := h.shelves.mem
  shelvedOnce := h.shelves.nodup
  shelvedOrder := h.shelves.order
  shelvedGeneral := h.shelves.general
  shelvedPlaces := h.shelves.places
  marks := h.slots.marks
  slots := h.slots.slots
  holder := h.slots.holder
  quiet g quiet := h.quiet g ((s.quiet_iff g).mp quiet)

/-- Nothing that the alarm picture reads has changed. -/
structure State.SamePicture (s t : State) : Prop where
  config : t.config = s.config
  service : t.service = s.service
  filter : t.filter = s.filter
  alarm : t.alarm = s.alarm
  roster : t.roster = s.roster
  generalCount : t.generalCount = s.generalCount
  deferred : t.deferred = s.deferred
  stampCounter : t.stampCounter = s.stampCounter
  groups : t.groups = s.groups
  shelves : t.shelves = s.shelves

theorem State.SamePicture.refl (s : State) : State.SamePicture s s := by constructor <;> rfl

theorem State.SamePicture.trans {s t u : State} (h : State.SamePicture s t) (k : State.SamePicture t u) :
    State.SamePicture s u where
  config := k.config.trans h.config
  service := k.service.trans h.service
  filter := k.filter.trans h.filter
  alarm := k.alarm.trans h.alarm
  roster := k.roster.trans h.roster
  generalCount := k.generalCount.trans h.generalCount
  deferred := k.deferred.trans h.deferred
  stampCounter := k.stampCounter.trans h.stampCounter
  groups := k.groups.trans h.groups
  shelves := k.shelves.trans h.shelves

theorem State.SoundFrame.samePicture {s t : State} (h : State.SoundFrame s t) : State.SamePicture s t := by
  obtain ⟨⟨a, b, e, rfl⟩, -⟩ := h
  constructor <;> rfl

theorem State.SamePicture.raise (s : State) (e : Event) : State.SamePicture s (s.raise e) := by constructor <;> rfl

/-- The picture reads nothing else. -/
theorem State.SamePicture.core {s t : State} (h : State.SamePicture s t) (legal : s.PictureCore) : t.PictureCore := by
  have cfg : t.cfg = s.cfg := funext fun p => by simp only [State.cfg, h.config]
  have alarm : t.alarmOf = s.alarmOf := funext fun p => by simp only [State.alarmOf, h.alarm]
  have filter : t.filterOf = s.filterOf := funext fun p => by simp only [State.filterOf, h.filter]
  have group : t.groupOf = s.groupOf := funext fun g => by simp only [State.groupOf, h.groups]
  constructor
  · intro p
    rw [cfg, alarm, filter, h.service]
    exact legal.points p
  · rw [cfg, alarm, h.roster, h.generalCount, h.stampCounter]
    exact legal.roster
  · rw [cfg, alarm, h.deferred]
    exact legal.deferred
  · rw [alarm, h.shelves]
    exact legal.shelves
  · rw [cfg, h.roster, group]
    exact legal.slots
  · rw [cfg, alarm, group]
    exact legal.quiet

theorem State.SamePicture.parts {s t : State} (h : State.SamePicture s t) (legal : s.PictureParts) : t.PictureParts where
  toPictureCore := h.core legal.toPictureCore
  full := by
    rw [h.deferred, h.generalCount]
    exact legal.full

end Sys2Proof.Machine

namespace Sys2Proof.Machine

set_option Elab.async false

/-! ## How each part takes a change -/

open Function (update)

theorem RecordState.toAlarm_holdsRecord (st : RecordState) : st.toAlarm.holdsRecord = true := by cases st <;> rfl

/-- A member that holds a record disturbs its group (R84). -/
theorem AlarmState.disturbs_of_holdsRecord {a : AlarmState} (h : a.holdsRecord = true) : a.disturbs = true := by
  cases a <;> first | rfl | exact absurd h Bool.false_ne_true

section Parts

variable {cfg cfg' : PointId → PointConfig} {alarm alarm' : PointId → AlarmState} {p : PointId} {a : AlarmState}
  {groups groups' : GroupId → GroupRecord}

/-! ### The deferred and the shelve list -/

/-- A point that goes from one state outside DEFERRED to another leaves the deferred list legal. -/
theorem DeferredLegal.turn {l : List PointId} (h : DeferredLegal cfg alarm l) (old : alarm p ≠ .deferred)
    (new : a ≠ .deferred) : DeferredLegal cfg (update alarm p a) l where
  mem q := by
    rcases eq_or_ne q p with rfl | ne
    · simpa [new] using fun k => old ((h.mem q).mp k)
    · simpa [ne] using h.mem q
  nodup := h.nodup
  order := h.order
  general := h.general

/-- A general point that goes to DEFERRED enters the list behind its class (R70). -/
theorem DeferredLegal.insert {l : List PointId} (h : DeferredLegal cfg alarm l) (old : alarm p ≠ .deferred)
    (general : isGeneral p = true) :
    DeferredLegal cfg (update alarm p .deferred)
      (l.takeWhile (fun q => (cfg q).priority ≤ (cfg p).priority) ++ p ::
        l.dropWhile fun q => (cfg q).priority ≤ (cfg p).priority) := by
  have perm := placed_perm (fun q => decide ((cfg q).priority ≤ (cfg p).priority)) p l
  constructor
  · intro q
    rw [perm.mem_iff, List.mem_cons]
    rcases eq_or_ne q p with rfl | ne
    · simp
    · simpa [ne] using h.mem q
  · rw [perm.nodup_iff, List.nodup_cons]
    exact ⟨fun k => old ((h.mem p).mp k), h.nodup⟩
  · exact placed_pairwise (fun q => (cfg q).priority) p l h.order
  · intro q hq
    rcases List.mem_cons.mp (perm.mem_iff.mp hq) with rfl | k
    · exact general
    · exact h.general q k

/-- A point that leaves DEFERRED leaves the list (R71, R73). -/
theorem DeferredLegal.erase {l : List PointId} (h : DeferredLegal cfg alarm l) (new : a ≠ .deferred) :
    DeferredLegal cfg (update alarm p a) (l.erase p) where
  mem q := by
    rw [h.nodup.mem_erase_iff]
    rcases eq_or_ne q p with rfl | ne
    · simpa using new
    · simpa [ne] using h.mem q
  nodup := h.nodup.erase p
  order := h.order.sublist List.erase_sublist
  general q hq := h.general q (List.mem_of_mem_erase hq)

/-- A point that goes from one state outside SHELVED to another leaves the shelve list legal. -/
theorem ShelvesLegal.turn {l : List ShelveEntry} (h : ShelvesLegal alarm l) (old : alarm p ≠ .shelved)
    (new : a ≠ .shelved) : ShelvesLegal (update alarm p a) l where
  mem q := by
    rcases eq_or_ne q p with rfl | ne
    · simpa [new] using fun k => old ((h.mem q).mp k)
    · simpa [ne] using h.mem q
  nodup := h.nodup
  order := h.order
  general := h.general
  places := h.places

/-- A point that leaves SHELVED loses its entry (R94). -/
theorem ShelvesLegal.remove {l : List ShelveEntry} (h : ShelvesLegal alarm l) (new : a ≠ .shelved) :
    ShelvesLegal (update alarm p a) (l.filter fun e => e.point != p) where
  mem q := by
    have := h.mem q
    rcases eq_or_ne q p with rfl | ne
    · simp [new]
    · rw [Function.update_of_ne ne, ← this]
      simp only [List.mem_filter, bne_iff_ne]
      exact ⟨fun ⟨e, he, eq⟩ => ⟨e, he.1, eq⟩, fun ⟨e, he, eq⟩ => ⟨e, ⟨he, eq ▸ ne⟩, eq⟩⟩
  nodup := h.nodup.sublist (List.filter_sublist.map _)
  order := h.order.filter _
  general e he := h.general e (List.mem_of_mem_filter he)
  places := (List.length_filter_le _ _).trans h.places

/-- A general point that goes to SHELVED gets its entry in expiry order, if a place is left (R95, R96). -/
theorem ShelvesLegal.insert {l : List ShelveEntry} {t : Nat} (h : ShelvesLegal alarm l) (absent : ∀ e ∈ l, e.point ≠ p)
    (general : isGeneral p = true) (places : l.length < Config.shelvePlaces) :
    ShelvesLegal (update alarm p .shelved) (insertShelve ⟨p, t⟩ l) := by
  have perm : (insertShelve ⟨p, t⟩ l).Perm (⟨p, t⟩ :: l) := placed_perm _ _ l
  constructor
  · intro q
    simp only [perm.mem_iff, List.mem_cons, exists_eq_or_imp]
    rcases eq_or_ne q p with rfl | ne
    · simp
    · simpa [ne, ne.symm] using h.mem q
  · rw [(perm.map _).nodup_iff, List.map_cons, List.nodup_cons]
    refine ⟨fun k => ?_, h.nodup⟩
    obtain ⟨e, he, eq⟩ := List.mem_map.mp k
    exact absent e he eq
  · exact placed_pairwise ShelveEntry.timeLeft _ l h.order
  · intro e he
    rcases List.mem_cons.mp (perm.mem_iff.mp he) with rfl | k
    · exact general
    · exact h.general e k
  · rw [perm.length_eq, List.length_cons]
    exact places

/-! ### The roster -/

/-- A point in a state that holds no record has none. -/
theorem RosterLegal.absent {l : List RosterRecord} {n : Nat} {st : Stamp} (h : RosterLegal cfg alarm l n st)
    (out : (alarm p).holdsRecord = false) : ∀ r ∈ l, r.point ≠ p := by
  rintro r hr rfl
  rw [h.mirror r hr, RecordState.toAlarm_holdsRecord] at out
  exact Bool.false_ne_true out.symm

/-- Records rewritten in place, with the states of their points, leave the roster legal (R63). -/
theorem RosterLegal.map {l : List RosterRecord} {n : Nat} {st : Stamp} (h : RosterLegal cfg alarm l n st)
    (f : RosterRecord → RosterRecord) (point : ∀ r, (f r).point = r.point) (stamp : ∀ r, (f r).stamp = r.stamp)
    (same : ∀ r ∈ l, cfg' r.point = cfg r.point) (records : ∀ r ∈ l, RecordLegal (f r))
    (mirror : ∀ r ∈ l, alarm' r.point = (f r).state.toAlarm)
    (holders : ∀ q, (alarm' q).holdsRecord = true → (alarm q).holdsRecord = true) :
    RosterLegal cfg' alarm' (l.map f) n st := by
  have points : (l.map f).map RosterRecord.point = l.map RosterRecord.point := by simp [Function.comp_def, point]
  have stamps : (l.map f).map RosterRecord.stamp = l.map RosterRecord.stamp := by simp [Function.comp_def, stamp]
  constructor
  · simpa using records
  · simpa [point] using mirror
  · intro q hq
    obtain ⟨r, hr, eq⟩ := h.holders q (holders q hq)
    exact ⟨f r, List.mem_map_of_mem hr, (point r).trans eq⟩
  · exact points ▸ h.points
  · exact stamps ▸ h.stamps
  · exact h.counter
  · rw [List.pairwise_map]
    refine h.order.imp_of_mem fun {x y} hx hy le => ?_
    rw [point, point, same x hx, same y hy]
    exact le
  · rw [h.count, List.countP_map]
    simp [Function.comp_def, point]
  · exact h.places

/-- A change of point states and configuration records that the roster does not see leaves it legal. -/
theorem RosterLegal.congr {l : List RosterRecord} {n : Nat} {st : Stamp} (h : RosterLegal cfg alarm l n st)
    (same : ∀ r ∈ l, cfg' r.point = cfg r.point) (mirror : ∀ r ∈ l, alarm' r.point = alarm r.point)
    (holders : ∀ q, (alarm' q).holdsRecord = true → (alarm q).holdsRecord = true) : RosterLegal cfg' alarm' l n st := by
  have := h.map (cfg' := cfg') (alarm' := alarm') id (fun _ => rfl) (fun _ => rfl) same h.records
    (fun r hr => (mirror r hr).trans (h.mirror r hr)) holders
  rwa [List.map_id] at this

/-- A point that goes from one state without a record to another leaves the roster legal. -/
theorem RosterLegal.turn {l : List RosterRecord} {n : Nat} {st : Stamp} (h : RosterLegal cfg alarm l n st)
    (old : (alarm p).holdsRecord = false) (new : a.holdsRecord = false) : RosterLegal cfg (update alarm p a) l n st := by
  refine h.congr (fun _ _ => rfl) (fun r hr => Function.update_of_ne (h.absent old r hr) _ _) fun q hq => ?_
  rcases eq_or_ne q p with rfl | ne
  · simp [new] at hq
  · simpa [ne] using hq

/-- A new record placed in class order for a point that goes to ALERT (R61, R63, R68). -/
theorem RosterLegal.insert {l l' : List RosterRecord} {n : Nat} {st st' : Stamp} {r : RosterRecord}
    (h : RosterLegal cfg alarm l n st) (old : (alarm r.point).holdsRecord = false) (perm : l'.Perm (r :: l))
    (order : l'.Pairwise fun x y => (cfg x.point).priority ≤ (cfg y.point).priority) (legal : RecordLegal r)
    (state : r.state = .alert) (free : r.stamp ∉ l.map RosterRecord.stamp) (counter : st' ≠ 0)
    (room : isGeneral r.point = true → n < Config.generalPlaces) :
    RosterLegal cfg (update alarm r.point .alert) l' (if isGeneral r.point then n + 1 else n) st' := by
  have absent := h.absent old
  constructor
  · intro x hx
    rcases List.mem_cons.mp (perm.mem_iff.mp hx) with rfl | k
    · exact legal
    · exact h.records x k
  · intro x hx
    rcases List.mem_cons.mp (perm.mem_iff.mp hx) with rfl | k
    · simp [state, RecordState.toAlarm]
    · rw [Function.update_of_ne (absent x k)]
      exact h.mirror x k
  · intro q hq
    rcases eq_or_ne q r.point with rfl | ne
    · exact ⟨r, perm.mem_iff.mpr List.mem_cons_self, rfl⟩
    · rw [Function.update_of_ne ne] at hq
      obtain ⟨x, hx, eq⟩ := h.holders q hq
      exact ⟨x, perm.mem_iff.mpr (List.mem_cons_of_mem _ hx), eq⟩
  · rw [(perm.map _).nodup_iff, List.map_cons, List.nodup_cons]
    refine ⟨fun k => ?_, h.points⟩
    obtain ⟨x, hx, eq⟩ := List.mem_map.mp k
    exact absent x hx eq
  · rw [(perm.map _).nodup_iff, List.map_cons, List.nodup_cons]
    exact ⟨free, h.stamps⟩
  · exact counter
  · exact order
  · rw [perm.countP_eq, List.countP_cons, ← h.count]
    split <;> rfl
  · split
    · exact room ‹_›
    · exact h.places

/-- Taking one point's record out takes it out of the general count (R61). -/
theorem countP_without {l : List RosterRecord} (points : (l.map RosterRecord.point).Nodup)
    (held : ∃ r ∈ l, r.point = p) :
    ((l.filter fun r => r.point != p).countP fun r => isGeneral r.point) =
      if isGeneral p then (l.countP fun r => isGeneral r.point) - 1 else l.countP fun r => isGeneral r.point := by
  induction l with
  | nil => simp at held
  | cons x xs ih =>
    rw [List.map_cons, List.nodup_cons] at points
    rcases eq_or_ne x.point p with rfl | ne
    · have others : xs.filter (fun r => r.point != x.point) = xs := by
        rw [List.filter_eq_self]
        intro y hy
        have : y.point ≠ x.point := fun eq => points.1 (List.mem_map.mpr ⟨y, hy, eq⟩)
        simpa using this
      by_cases general : isGeneral x.point = true <;> simp [others, general]
    · have rest : ∃ r ∈ xs, r.point = p := by simpa [ne] using held
      have some : isGeneral p = true → 0 < xs.countP fun r => isGeneral r.point := by
        intro general
        obtain ⟨r, hr, rfl⟩ := rest
        exact List.countP_pos_iff.mpr ⟨r, hr, general⟩
      simp only [List.filter_cons, bne_iff_ne, ne_eq, ne, not_false_eq_true, if_true, List.countP_cons, ih points.2 rest]
      split
      · have := some ‹_›
        omega
      · rfl

/-- A point's record taken out with its state (R58, R72). -/
theorem RosterLegal.remove {l : List RosterRecord} {n : Nat} {st : Stamp} (h : RosterLegal cfg alarm l n st)
    (old : (alarm p).holdsRecord = true) (new : a.holdsRecord = false) :
    RosterLegal cfg (update alarm p a) (l.filter fun r => r.point != p) (if isGeneral p then n - 1 else n) st where
  records r hr := h.records r (List.mem_of_mem_filter hr)
  mirror r hr := by
    have ne : r.point ≠ p := by simpa using (List.mem_filter.mp hr).2
    rw [Function.update_of_ne ne]
    exact h.mirror r (List.mem_of_mem_filter hr)
  holders q hq := by
    rcases eq_or_ne q p with rfl | ne
    · simp [new] at hq
    · rw [Function.update_of_ne ne] at hq
      obtain ⟨r, hr, rfl⟩ := h.holders q hq
      exact ⟨r, List.mem_filter.mpr ⟨hr, by simpa using ne⟩, rfl⟩
  points := h.points.sublist (List.filter_sublist.map _)
  stamps := h.stamps.sublist (List.filter_sublist.map _)
  counter := h.counter
  order := h.order.filter _
  count := by rw [countP_without h.points (h.holders p old), ← h.count]
  places := by
    have := h.places
    split <;> omega

/-! ### First-out slots and marks, and the arming of groups -/

/-- Records rewritten in place with their marks kept leave slots and marks in agreement. -/
theorem SlotsLegal.map {l : List RosterRecord} (h : SlotsLegal cfg l groups) (f : RosterRecord → RosterRecord)
    (point : ∀ r, (f r).point = r.point) (firstOut : ∀ r, (f r).firstOut = r.firstOut)
    (same : ∀ r ∈ l, cfg' r.point = cfg r.point) : SlotsLegal cfg' (l.map f) groups where
  marks := by
    intro r hr
    obtain ⟨x, hx, rfl⟩ := List.mem_map.mp hr
    rw [point, firstOut, same x hx]
    exact h.marks x hx
  slots g p hp := by
    obtain ⟨member, r, hr, rfl⟩ := h.slots g p hp
    rw [same r hr]
    exact ⟨member, f r, List.mem_map_of_mem hr, point r⟩
  holder := h.holder

/-- A change of configuration records of points without a record leaves slots and marks in agreement. -/
theorem SlotsLegal.congr {l : List RosterRecord} (h : SlotsLegal cfg l groups)
    (same : ∀ r ∈ l, cfg' r.point = cfg r.point) : SlotsLegal cfg' l groups := by
  have := h.map id (fun _ => rfl) (fun _ => rfl) same
  rwa [List.map_id] at this

/-- A new record without a mark. -/
theorem SlotsLegal.insert {l l' : List RosterRecord} {r : RosterRecord} (h : SlotsLegal cfg l groups)
    (absent : ∀ x ∈ l, x.point ≠ r.point) (perm : l'.Perm (r :: l)) (unmarked : r.firstOut = false) :
    SlotsLegal cfg l' groups where
  marks x hx := by
    rcases List.mem_cons.mp (perm.mem_iff.mp hx) with rfl | k
    · simp only [unmarked, Bool.false_eq_true, false_iff]
      rintro ⟨g, -, slot⟩
      obtain ⟨-, y, hy, eq⟩ := h.slots g _ slot
      exact absent y hy eq
    · exact h.marks x k
  slots g p hp := by
    obtain ⟨member, x, hx, eq⟩ := h.slots g p hp
    exact ⟨member, x, perm.mem_iff.mpr (List.mem_cons_of_mem _ hx), eq⟩
  holder := h.holder

/-- A group record whose slot no longer names a point. -/
def GroupRecord.vacate (p : PointId) (r : GroupRecord) : GroupRecord := if r.slot = some p then { r with slot := none } else r

theorem GroupRecord.vacate_slot_eq_some {r : GroupRecord} {q : PointId} :
    (r.vacate p).slot = some q ↔ r.slot = some q ∧ q ≠ p := by
  unfold GroupRecord.vacate
  split
  · rename_i h
    simp [h]
    exact fun eq => eq.symm
  · rename_i h
    constructor
    · intro k
      refine ⟨k, ?_⟩
      rintro rfl
      exact h k
    · exact And.left

theorem GroupRecord.vacate_slot_ne_none {r : GroupRecord} (h : (r.vacate p).slot ≠ none) : r.vacate p = r := by
  unfold GroupRecord.vacate at h ⊢
  split
  · rename_i k
    simp [k] at h
  · rfl

/-- A point's record goes, and with it the slot that named the point (R88). -/
theorem SlotsLegal.remove {l : List RosterRecord} (h : SlotsLegal cfg l groups) :
    SlotsLegal cfg (l.filter fun r => r.point != p) fun g => (groups g).vacate p where
  marks r hr := by
    obtain ⟨hr, ne⟩ := List.mem_filter.mp hr
    have ne : r.point ≠ p := by simpa using ne
    simpa [GroupRecord.vacate_slot_eq_some, ne] using h.marks r hr
  slots g q hq := by
    obtain ⟨slot, ne⟩ := GroupRecord.vacate_slot_eq_some.mp hq
    obtain ⟨member, r, hr, rfl⟩ := h.slots g q slot
    exact ⟨member, r, List.mem_filter.mpr ⟨hr, by simpa using ne⟩, rfl⟩
  holder g hg := by
    have same := GroupRecord.vacate_slot_ne_none hg
    rw [same] at hg ⊢
    exact h.holder g hg

/-- The record of point `p` rewritten, every other as it was. -/
def rewrite (p : PointId) (f : RosterRecord → RosterRecord) (r : RosterRecord) : RosterRecord :=
  if r.point = p then f r else r

theorem rewrite_point {f : RosterRecord → RosterRecord} (h : ∀ r, (f r).point = r.point) (r : RosterRecord) :
    (rewrite p f r).point = r.point := by
  unfold rewrite
  split
  · exact h r
  · rfl

/-- A record with its first-out mark written (R87). -/
def RosterRecord.marked (v : Bool) (r : RosterRecord) : RosterRecord := { r with firstOut := v }

theorem rewrite_marked_point (v : Bool) (r : RosterRecord) : (rewrite p (RosterRecord.marked v) r).point = r.point :=
  rewrite_point (f := RosterRecord.marked v) (fun _ => rfl) r

/-- A free slot of an enabled group takes a member that holds a record, with its mark (R86, R87). -/
theorem SlotsLegal.take {l : List RosterRecord} (h : SlotsLegal cfg l groups) {g : GroupId} {r' : GroupRecord}
    (member : (cfg p).group = some g) (held : ∃ r ∈ l, r.point = p)
    (slot : r'.slot = some p) (enabled : r'.firstOutEnabled = true) (disarmed : r'.armed = false) (free : (groups g).slot = none) :
    SlotsLegal cfg (l.map (rewrite p (RosterRecord.marked true))) (update groups g r') where
  marks := by
    intro r hr
    obtain ⟨x, hx, rfl⟩ := List.mem_map.mp hr
    rw [rewrite_marked_point]
    rcases eq_or_ne x.point p with eq | ne
    · simp only [rewrite, RosterRecord.marked, eq, if_true, true_iff]
      exact ⟨g, member, by simpa using slot⟩
    · simp only [rewrite, ne, if_false]
      rw [h.marks x hx]
      refine exists_congr fun k => and_congr_right fun _ => ?_
      rcases eq_or_ne k g with rfl | other
      · simp [free, slot, ne.symm]
      · simp [other]
  slots k q hq := by
    have keep : ∀ q, (∃ r ∈ l, r.point = q) → ∃ r ∈ l.map (rewrite p (RosterRecord.marked true)), r.point = q := by
      rintro q ⟨r, hr, rfl⟩
      exact ⟨_, List.mem_map_of_mem hr, rewrite_marked_point _ r⟩
    rcases eq_or_ne k g with rfl | other
    · obtain rfl : p = q := by simpa [slot] using hq
      exact ⟨member, keep _ held⟩
    · rw [Function.update_of_ne other] at hq
      obtain ⟨member', held'⟩ := h.slots k q hq
      exact ⟨member', keep _ held'⟩
  holder k hk := by
    rcases eq_or_ne k g with rfl | other
    · simpa using And.intro enabled disarmed
    · rw [Function.update_of_ne other] at hk ⊢
      exact h.holder k hk

/-- A slot empties and the mark of the point that it named goes, the record standing (R88). -/
theorem SlotsLegal.clear {l : List RosterRecord} (h : SlotsLegal cfg l groups) {g : GroupId} {r' : GroupRecord}
    (slot : (groups g).slot = some p) (empty : r'.slot = none) :
    SlotsLegal cfg (l.map (rewrite p (RosterRecord.marked false))) (update groups g r') where
  marks := by
    intro r hr
    obtain ⟨x, hx, rfl⟩ := List.mem_map.mp hr
    rw [rewrite_marked_point]
    have member := (h.slots g p slot).1
    rcases eq_or_ne x.point p with eq | ne
    · simp only [rewrite, RosterRecord.marked, eq, if_true, Bool.false_eq_true, false_iff]
      rintro ⟨k, member', slot'⟩
      obtain rfl : g = k := Option.some.inj (member.symm.trans member')
      simp [empty] at slot'
    · simp only [rewrite, ne, if_false]
      rw [h.marks x hx]
      refine exists_congr fun k => and_congr_right fun _ => ?_
      rcases eq_or_ne k g with rfl | other
      · simp [slot, empty, ne.symm]
      · simp [other]
  slots k q hq := by
    rcases eq_or_ne k g with rfl | other
    · simp [empty] at hq
    · rw [Function.update_of_ne other] at hq
      obtain ⟨member, r, hr, rfl⟩ := h.slots k q hq
      exact ⟨member, _, List.mem_map_of_mem hr, rewrite_marked_point _ r⟩
  holder k hk := by
    rcases eq_or_ne k g with rfl | other
    · simp [empty] at hk
    · rw [Function.update_of_ne other] at hk ⊢
      exact h.holder k hk

/-- A change of a group whose slot is empty and stays empty. -/
theorem SlotsLegal.setEmpty {l : List RosterRecord} (h : SlotsLegal cfg l groups) {g : GroupId} {r' : GroupRecord}
    (free : (groups g).slot = none) (empty : r'.slot = none) : SlotsLegal cfg l (update groups g r') := by
  have slot : ∀ k q, (update groups g r' k).slot = some q ↔ (groups k).slot = some q := by
    intro k q
    rcases eq_or_ne k g with rfl | other
    · simp [free, empty]
    · simp [other]
  constructor
  · simpa only [slot] using h.marks
  · simpa only [slot] using h.slots
  · intro k hk
    rcases eq_or_ne k g with rfl | other
    · simp [empty] at hk
    · rw [Function.update_of_ne other] at hk ⊢
      exact h.holder k hk

/-- Where no group has become quiet and none has been disarmed, the quiet groups are still armed. -/
theorem QuietArmed.mono (h : QuietArmed cfg alarm groups)
    (disturbs : ∀ p, (alarm p).disturbs = true → cfg' p = cfg p ∧ (alarm' p).disturbs = true)
    (armed : ∀ g, (groups g).armed = true → (groups' g).armed = true) : QuietArmed cfg' alarm' groups' := by
  intro g members
  refine armed g (h g fun p member => ?_)
  by_contra k
  obtain ⟨same, still⟩ := disturbs p (by simpa using k)
  simp [members p (same ▸ member)] at still

/-- A point that goes to a state in which it disturbs its group, or that disturbed none before, makes no group quiet. -/
theorem QuietArmed.turn (h : QuietArmed cfg alarm groups) (keeps : (alarm p).disturbs = true → a.disturbs = true) :
    QuietArmed cfg (update alarm p a) groups := by
  refine h.mono (fun q hq => ⟨rfl, ?_⟩) fun _ => id
  rcases eq_or_ne q p with rfl | ne
  · simpa using keeps hq
  · simpa [ne] using hq

end Parts

end Sys2Proof.Machine

namespace Sys2Proof.Machine

set_option Elab.async false

/-! ## The picture under the operations of the Sequence Controller and the Alarm Roster -/

open Function (update)

variable {s : State} {p : PointId} {a : AlarmState} {ovf : State → State}

theorem State.setAlarm_alarmOf (s : State) (p : PointId) (a : AlarmState) :
    (s.setAlarm p a).alarmOf = update s.alarmOf p a := by
  funext q
  rcases eq_or_ne q p with rfl | ne
  · simp
  · simp [State.alarmOf_setAlarm, ne, ne.symm]

theorem State.setGroup_groupOf (s : State) (g : GroupId) (r : GroupRecord) :
    (s.setGroup g r).groupOf = update s.groupOf g r := by
  funext k
  rcases eq_or_ne k g with rfl | ne
  · simp [State.groupOf, State.setGroup]
  · simp only [State.groupOf, State.setGroup, Table.getElem_put_ne _ _ ne.symm, Function.update_of_ne ne]

/-- A claim that hands point 63 its condition keeps the picture (R75). -/
def KeepsPicture (ovf : State → State) : Prop := ∀ u : State, u.PictureParts → (ovf u).PictureParts

theorem keepsPicture_id : KeepsPicture id := fun _ h => h

/-- Point `p` stands to take state `a`: everything agrees once it has, and the roster and the groups agree before. -/
structure State.Turns (s : State) (p : PointId) (a : AlarmState) : Prop where
  points : ∀ q, PointLegal (s.cfg q) s.service[q] (update s.alarmOf p a q) (s.filterOf q)
  roster : RosterLegal s.cfg s.alarmOf s.roster s.generalCount s.stampCounter
  shelves : ShelvesLegal (update s.alarmOf p a) s.shelves
  slots : SlotsLegal s.cfg s.roster s.groupOf
  quiet : QuietArmed s.cfg s.alarmOf s.groupOf

/-- A point may take a state of its kind that its service and its qualified condition bear out (R36). -/
theorem State.PictureCore.turns (h : s.PictureCore) (legal : PointLegal (s.cfg p) s.service[p] a (s.filterOf p))
    (old : s.alarmOf p ≠ .shelved) (new : a ≠ .shelved) : s.Turns p a where
  points q := by
    rcases eq_or_ne q p with rfl | ne
    · simpa using legal
    · simpa [ne] using h.points q
  roster := h.roster
  shelves := h.shelves.turn old new
  slots := h.slots
  quiet := h.quiet

/-- The picture judged with the alarm states that an operation is known to leave. -/
theorem State.PictureCore.ofAlarm {t : State} {alarm : PointId → AlarmState} (eq : t.alarmOf = alarm)
    (points : ∀ q, PointLegal (t.cfg q) t.service[q] (alarm q) (t.filterOf q))
    (roster : RosterLegal t.cfg alarm t.roster t.generalCount t.stampCounter)
    (deferred : DeferredLegal t.cfg alarm t.deferred) (shelves : ShelvesLegal alarm t.shelves)
    (slots : SlotsLegal t.cfg t.roster t.groupOf) (quiet : QuietArmed t.cfg alarm t.groupOf) : t.PictureCore := by
  subst eq
  exact ⟨points, roster, deferred, shelves, slots, quiet⟩

/-! ### The record of a point -/

/-- The roster holds at most one record of a point. -/
theorem State.recordOf_eq_some {r : RosterRecord} (points : (s.roster.map RosterRecord.point).Nodup) :
    s.recordOf p = some r ↔ r ∈ s.roster ∧ r.point = p := by
  constructor
  · intro h
    exact ⟨List.mem_of_find?_eq_some h, by simpa using List.find?_some h⟩
  · rintro ⟨hr, rfl⟩
    cases h : s.recordOf r.point with
    | none => exact absurd (List.find?_eq_none.mp h r hr) (by simp)
    | some x =>
      have eq : x.point = r.point := by simpa using List.find?_some h
      exact congrArg some (List.inj_on_of_nodup_map points (List.mem_of_find?_eq_some h) hr eq)

theorem State.recordOf_eq_none : s.recordOf p = none ↔ ∀ r ∈ s.roster, r.point ≠ p := by
  simp [State.recordOf]

/-- A point holds a record exactly in the record-holding states (R36). -/
theorem State.PictureCore.recordOf_isSome (h : s.PictureCore) :
    (s.recordOf p).isSome = (s.alarmOf p).holdsRecord := by
  cases hr : s.recordOf p with
  | none =>
    cases holds : (s.alarmOf p).holdsRecord
    · rfl
    · obtain ⟨r, mem, point⟩ := h.roster.holders p holds
      exact absurd point (State.recordOf_eq_none.mp hr r mem)
  | some r =>
    obtain ⟨mem, rfl⟩ := (State.recordOf_eq_some h.roster.points).mp hr
    simp [h.roster.mirror r mem, RecordState.toAlarm_holdsRecord]

/-! ### Admission (R68, R86) -/

/-- Under a legal picture the stamp of the next admission is free and not 0 (R66). -/
theorem RosterLegal.nextStamp (h : RosterLegal s.cfg s.alarmOf s.roster s.generalCount s.stampCounter) :
    s.nextStamp ∉ s.roster.map RosterRecord.stamp ∧ s.nextStamp ≠ 0 := by
  have few : s.roster.length ≤ 64 := by simpa using h.points.length_le_card
  exact ⟨s.nextStamp_free h.counter (by omega), s.nextStamp_ne_zero h.counter⟩

/-- The new record of an admission by itself. -/
theorem freshRecord_legal {st : Stamp} (h : st ≠ 0) : RecordLegal (freshRecord p st) := by
  constructor
  · exact h
  all_goals simp [freshRecord, RosterRecord.unacked]

theorem State.enterRoster_alarmOf (s : State) (p : PointId) : (s.enterRoster p).alarmOf = update s.alarmOf p .alert :=
  s.setAlarm_alarmOf p .alert

/-- A point enters the roster (R68 steps 1 to 3). -/
theorem State.Turns.enterRoster (h : s.Turns p .alert) (out : (s.alarmOf p).holdsRecord = false)
    (deferred : DeferredLegal s.cfg (update s.alarmOf p .alert) s.deferred)
    (room : isGeneral p = true → s.generalCount < Config.generalPlaces)
    (full : s.deferred ≠ [] → (s.enterRoster p).generalCount = Config.generalPlaces) :
    (s.enterRoster p).PictureParts := by
  obtain ⟨free, ne⟩ := h.roster.nextStamp
  have perm : (s.insertRecord (freshRecord p s.nextStamp)).Perm (freshRecord p s.nextStamp :: s.roster) :=
    placed_perm _ _ _
  have roster := h.roster.insert (r := freshRecord p s.nextStamp) out perm
    (placed_pairwise (fun r => s.classOf r) _ _ h.roster.order) (freshRecord_legal ne) rfl free
    (Stamp.next_ne_zero s.nextStamp) room
  exact ⟨.ofAlarm (s.enterRoster_alarmOf p) h.points roster deferred h.shelves
    (h.slots.insert (h.roster.absent out) perm rfl) (h.quiet.turn fun _ => rfl), full⟩

/-- Records rewritten in place, none of their states among them, keep the picture. -/
theorem State.PictureParts.rewriteRecords (h : s.PictureParts) (f : RosterRecord → RosterRecord)
    (point : ∀ r, (f r).point = r.point) (stamp : ∀ r, (f r).stamp = r.stamp) (state : ∀ r, (f r).state = r.state)
    (firstOut : ∀ r, (f r).firstOut = r.firstOut) (records : ∀ r ∈ s.roster, RecordLegal (f r)) :
    (s.setRoster (s.roster.map f)).PictureParts where
  points := h.points
  roster := h.roster.map f point stamp (fun _ _ => rfl) records (fun r hr => (state r).symm ▸ h.roster.mirror r hr)
    fun _ => id
  deferred := h.deferred
  shelves := h.shelves
  slots := h.slots.map f point firstOut fun _ _ => rfl
  quiet := h.quiet
  full := h.full

/-- The roster takes a mark written on one record. -/
theorem RosterLegal.mark (h : RosterLegal s.cfg s.alarmOf s.roster s.generalCount s.stampCounter) (v : Bool) :
    RosterLegal s.cfg s.alarmOf (s.roster.map (rewrite p (RosterRecord.marked v))) s.generalCount s.stampCounter := by
  have keeps : ∀ {γ : Type} (field : RosterRecord → γ), (∀ r, field (RosterRecord.marked v r) = field r) →
      ∀ r, field (rewrite p (RosterRecord.marked v) r) = field r := by
    intro γ field hf r
    unfold rewrite
    split
    · exact hf r
    · rfl
  refine h.map _ (keeps _ fun _ => rfl) (keeps _ fun _ => rfl) (fun _ _ => rfl) (fun r hr => ?_) (fun r hr => ?_) fun _ => id
  · have legal := h.records r hr
    unfold rewrite
    split
    · exact ⟨legal.stamp, legal.recurrence, legal.age, legal.acknowledged, legal.silenced, legal.reannounce⟩
    · exact legal
  · rw [keeps RosterRecord.state fun _ => rfl]
    exact h.mirror r hr

/-- The slot that an admission takes is enabled, armed and empty (R86). -/
theorem State.slotFor_eq_some {g : GroupId} (h : s.slotFor p = some g) :
    (s.cfg p).group = some g ∧ (s.groupOf g).firstOutEnabled = true ∧ (s.groupOf g).slot = none := by
  unfold State.slotFor at h
  split at h
  · dsimp only at h
    split at h
    · rename_i member free
      obtain rfl := Option.some.inj h
      exact ⟨member, free.1, free.2.2⟩
    · exact absurd h (by simp)
  · exact absurd h (by simp)

/-- The first-out decision keeps the picture (R86). -/
theorem State.PictureParts.decideFirstOut (h : s.PictureParts) (held : (s.alarmOf p).holdsRecord = true) :
    (s.decideFirstOut p).PictureParts := by
  unfold State.decideFirstOut
  split
  · rename_i g slot
    obtain ⟨member, enabled, free⟩ := State.slotFor_eq_some slot
    have groups := s.setGroup_groupOf g { s.groups[g] with slot := some p, armed := false }
    refine { points := h.points, roster := h.roster.mark true, deferred := h.deferred, shelves := h.shelves,
             slots := ?_, quiet := ?_, full := h.full }
    · show SlotsLegal s.cfg _ (State.groupOf (s.setGroup _ _))
      rw [groups]
      exact h.slots.take member (h.roster.holders p held) rfl enabled rfl free
    · show QuietArmed s.cfg s.alarmOf (State.groupOf (s.setGroup _ _))
      rw [groups]
      intro k members
      rcases eq_or_ne k g with rfl | ne
      · exact absurd (members p member) (by simp [AlarmState.disturbs_of_holdsRecord held])
      · rw [Function.update_of_ne ne]
        exact h.quiet k members
  · exact h

/-- An admission keeps the picture (R68). -/
theorem State.Turns.admitPoint (h : s.Turns p .alert) (out : (s.alarmOf p).holdsRecord = false)
    (deferred : DeferredLegal s.cfg (update s.alarmOf p .alert) s.deferred)
    (room : isGeneral p = true → s.generalCount < Config.generalPlaces)
    (full : s.deferred ≠ [] → (s.enterRoster p).generalCount = Config.generalPlaces) :
    (s.admitPoint p).PictureParts := by
  have entered := h.enterRoster out deferred room full
  have held : ((s.enterRoster p).alarmOf p).holdsRecord = true := by simp [State.enterRoster_alarmOf]; rfl
  exact (State.SoundFrame.compareSince _ s).samePicture.parts
    ((State.SamePicture.raise _ .newAlert).parts (entered.decideFirstOut held))

/-! ### The deferred list (R70, R71, R73) -/

theorem State.PictureParts.handIfEmptied (h : s.PictureParts) (hovf : KeepsPicture ovf) (before : List PointId) :
    (handIfEmptied ovf before s).PictureParts := by
  unfold Machine.handIfEmptied
  split
  · exact hovf s h
  · exact h

/-- A deferral keeps the picture (R70). -/
theorem State.Turns.defer (h : s.Turns p .deferred) (hovf : KeepsPicture ovf) (out : (s.alarmOf p).disturbs = false)
    (deferred : DeferredLegal s.cfg s.alarmOf s.deferred) (general : isGeneral p = true)
    (full : s.generalCount = Config.generalPlaces) : (s.defer ovf p).PictureParts := by
  have notRecord : (s.alarmOf p).holdsRecord = false := by
    by_contra k
    simp [AlarmState.disturbs_of_holdsRecord (by simpa using k)] at out
  have notDeferred : s.alarmOf p ≠ .deferred := fun k => by simp [k, AlarmState.disturbs] at out
  have legal : (({ s.setAlarm p .deferred with deferred := s.insertDeferred p } : State).raise .deferred).PictureParts := by
    refine (State.SamePicture.raise _ _).parts ⟨?_, fun _ => full⟩
    exact .ofAlarm (s.setAlarm_alarmOf p .deferred) h.points (h.roster.turn notRecord rfl)
      (deferred.insert notDeferred general) h.shelves h.slots (h.quiet.turn fun _ => rfl)
  unfold State.defer
  dsimp only
  split
  · exact hovf _ legal
  · exact legal

/-- A request for admission of a point in NORMAL keeps the picture (R67). -/
theorem State.Turns.requestAdmission (h : s.Turns p .alert) (k : s.Turns p .deferred) (hovf : KeepsPicture ovf)
    (normal : s.alarmOf p = .normal) (deferred : DeferredLegal s.cfg s.alarmOf s.deferred)
    (full : s.deferred ≠ [] → s.generalCount = Config.generalPlaces) : (s.requestAdmission ovf p).PictureParts := by
  have places := h.roster.places
  rcases s.requestAdmission_cases ovf p with ⟨room, eq⟩ | ⟨general, crowded, eq⟩
  · rw [eq]
    have general : isGeneral p = true → s.generalCount < Config.generalPlaces := by
      intro general
      rcases room with internal | room
      · simp only [isInternal, isGeneral, decide_eq_true_eq] at internal general
        omega
      · exact room
    refine h.admitPoint (by rw [normal]; rfl) (deferred.turn (by simp [normal]) (by simp)) general fun some => ?_
    have := full some
    show (if isGeneral p = true then s.generalCount + 1 else s.generalCount) = _
    split
    · have := general ‹_›
      omega
    · exact this
  · rw [eq]
    refine k.defer hovf (by rw [normal]; rfl) deferred ?_ (le_antisymm places crowded)
    simp only [isInternal, decide_eq_false_iff_not] at general
    simp only [isGeneral, decide_eq_true_eq]
    omega

/-- The admission of the head of the deferred list fills the place that is free for it (R73). -/
theorem State.PictureCore.admitHead (h : s.PictureCore) (hovf : KeepsPicture ovf)
    (free : s.deferred ≠ [] → s.generalCount + 1 = Config.generalPlaces) : (s.admitHead ovf).PictureParts := by
  unfold State.admitHead
  split
  · rename_i nil
    exact ⟨h, fun some => absurd nil some⟩
  · rename_i q rest list
    have state : s.alarmOf q = .deferred := (h.deferred.mem q).mp (by simp [list])
    have general : isGeneral q = true := h.deferred.general q (by simp [list])
    have count := free (by simp [list])
    refine State.PictureParts.handIfEmptied ?_ hovf _
    have legal : PointLegal (s.cfg q) s.service[q] .alert (s.filterOf q) := by
      have old := state ▸ h.points q
      refine ⟨by simpa using old.service, ?_, old.stopped, old.settled, fun b kind eq => old.qualified b kind eq⟩
      cases (s.cfg q).kind <;> rfl
    have turn := h.turns legal (by simp [state]) (by simp)
    have turn' : ({ s with deferred := rest } : State).Turns q .alert :=
      ⟨turn.points, turn.roster, turn.shelves, turn.slots, turn.quiet⟩
    have erased : DeferredLegal s.cfg (update s.alarmOf q .alert) rest := by
      have := h.deferred.erase (p := q) (a := .alert) (by simp)
      rwa [list, List.erase_cons_head] at this
    refine turn'.admitPoint (congrArg AlarmState.holdsRecord state) erased (fun _ => ?_) fun _ => ?_
    · show s.generalCount < _
      omega
    · show (if isGeneral q = true then s.generalCount + 1 else s.generalCount) = _
      rw [if_pos general, count]

/-! ### The arming of quiet groups (R85) -/

theorem State.armQuiet_groupOf (s : State) (g : GroupId) :
    s.armQuiet.groupOf g = if s.quiet g then { s.groupOf g with armed := true } else s.groupOf g := by
  simp only [State.groupOf, State.armQuiet, Fin.getElem_fin, Table.getElem_mapIdx]

/-- A holder's group is not quiet, so that arming the quiet groups leaves slots and marks in agreement. -/
theorem SlotsLegal.armQuiet (slots : SlotsLegal s.cfg s.roster s.groupOf)
    (mirror : ∀ r ∈ s.roster, s.alarmOf r.point = r.state.toAlarm) :
    SlotsLegal s.cfg s.roster s.armQuiet.groupOf := by
  have slot : ∀ g, (s.armQuiet.groupOf g).slot = (s.groupOf g).slot := by
    intro g
    rw [s.armQuiet_groupOf]
    split <;> rfl
  constructor
  · simpa only [slot] using slots.marks
  · simpa only [slot] using slots.slots
  · intro g hg
    rw [slot] at hg
    obtain ⟨q, hq⟩ := Option.ne_none_iff_exists'.mp hg
    obtain ⟨member, r, hr, rfl⟩ := slots.slots g q hq
    have loud : ¬ s.quiet g = true := by
      rw [s.quiet_iff]
      intro members
      have := members r.point member
      rw [mirror r hr, AlarmState.disturbs_of_holdsRecord r.state.toAlarm_holdsRecord] at this
      exact Bool.noConfusion this
    rw [s.armQuiet_groupOf, if_neg loud]
    exact slots.holder g hg

/-- After the arming every quiet group is armed. -/
theorem State.quietArmed_armQuiet (s : State) : QuietArmed s.cfg s.alarmOf s.armQuiet.groupOf := by
  intro g members
  rw [s.armQuiet_groupOf, if_pos ((s.quiet_iff g).mpr members)]

/-- A picture consistent but for the arming of groups left quiet is consistent once they are armed. -/
theorem State.PictureCore.armQuiet {alarm : PointId → AlarmState} (eq : s.alarmOf = alarm)
    (points : ∀ q, PointLegal (s.cfg q) s.service[q] (alarm q) (s.filterOf q))
    (roster : RosterLegal s.cfg alarm s.roster s.generalCount s.stampCounter)
    (deferred : DeferredLegal s.cfg alarm s.deferred) (shelves : ShelvesLegal alarm s.shelves)
    (slots : SlotsLegal s.cfg s.roster s.groupOf) : s.armQuiet.PictureCore := by
  subst eq
  exact ⟨points, roster, deferred, shelves, slots.armQuiet roster.mirror, s.quietArmed_armQuiet⟩

/-- A point that leaves DEFERRED without a record keeps the picture (R71). -/
theorem State.Turns.leaveDeferred (h : s.Turns p a) (hovf : KeepsPicture ovf) (old : s.alarmOf p = .deferred)
    (deferred : DeferredLegal s.cfg s.alarmOf s.deferred) (full : s.deferred ≠ [] → s.generalCount = Config.generalPlaces)
    (new : a.disturbs = false) : (s.leaveDeferred ovf p a).PictureParts := by
  have notRecord : a.holdsRecord = false := by
    by_contra k
    simp [AlarmState.disturbs_of_holdsRecord (by simpa using k)] at new
  have notDeferred : a ≠ .deferred := by rintro rfl; simp [AlarmState.disturbs] at new
  have roster := h.roster.turn (p := p) (a := a) (by rw [old]; rfl) notRecord
  refine State.PictureParts.handIfEmptied ⟨?_, ?_⟩ hovf _
  · exact State.PictureCore.armQuiet (s := { s.setAlarm p a with deferred := s.deferred.erase p })
      (s.setAlarm_alarmOf p a) h.points roster (deferred.erase notDeferred) h.shelves h.slots
  · exact fun some => full fun nil => some (by show s.deferred.erase p = []; rw [nil]; rfl)

/-! ### Retirement (R72) -/

/-- Modifying the record of a point that has none changes nothing. -/
theorem State.modifyRecord_absent {f : RosterRecord → RosterRecord} (absent : ∀ r ∈ s.roster, r.point ≠ p) :
    s.modifyRecord p f = s := by
  have : s.roster.map (fun r => if r.point = p then f r else r) = s.roster := by
    conv_rhs => rw [← List.map_id s.roster]
    exact List.map_congr_left fun r hr => if_neg (absent r hr)
  unfold State.modifyRecord State.setRoster
  rw [this]

/-- When a record goes, the slot that named its point empties, and every other group record stays (R72 step 2, R88). -/
theorem State.releaseSlot_eq {r : RosterRecord} (absent : ∀ x ∈ s.roster, x.point ≠ p)
    (marks : r.firstOut = true ↔ ∃ g : GroupId, (s.cfg p).group = some g ∧ (s.groupOf g).slot = some p)
    (slots : ∀ g : GroupId, (s.groupOf g).slot = some p → (s.cfg p).group = some g) :
    ∃ gr, s.releaseSlot p r.firstOut = { s with groups := gr } ∧ ∀ g : GroupId, gr[g] = (s.groupOf g).vacate p := by
  by_cases marked : r.firstOut = true
  · obtain ⟨g, member, slot⟩ := marks.mp marked
    have slot' : (s.groups[g]).slot = some p := slot
    refine ⟨s.groups.put g { s.groups[g] with slot := none }, ?_, fun k => ?_⟩
    · simp only [State.releaseSlot, member, marked, if_true, State.emptySlot, slot']
      exact State.modifyRecord_absent absent
    · rw [Table.getElem_put]
      unfold GroupRecord.vacate
      rcases eq_or_ne g k with rfl | ne
      · rw [if_pos rfl, if_pos slot]
        rfl
      · have : (s.groupOf k).slot ≠ some p := fun other => ne (Option.some.inj (member.symm.trans (slots k other)))
        rw [if_neg ne, if_neg this]
        rfl
  · refine ⟨s.groups, ?_, fun k => ?_⟩
    · unfold State.releaseSlot
      split <;> simp [marked]
    · have : (s.groupOf k).slot ≠ some p := fun slot => marked (marks.mpr ⟨k, slots k slot, slot⟩)
      rw [GroupRecord.vacate, if_neg this]
      rfl

/-- What stands between the steps of a retirement: the record and its slot are gone and the quiet groups armed, and the
place may still be free (R72). -/
def State.retired (s : State) (p : PointId) (a : AlarmState) (firstOut : Bool) : State :=
  ((s.leaveRoster p a).releaseSlot p firstOut).armQuiet

theorem State.Turns.retired (h : s.Turns p a) {r : RosterRecord} (record : s.recordOf p = some r)
    (deferred : DeferredLegal s.cfg s.alarmOf s.deferred) (new : a.disturbs = false) :
    (s.retired p a r.firstOut).PictureCore ∧ (s.retired p a r.firstOut).deferred = s.deferred ∧
      (s.retired p a r.firstOut).generalCount = if isGeneral p then s.generalCount - 1 else s.generalCount := by
  obtain ⟨mem, point⟩ := (State.recordOf_eq_some h.roster.points).mp record
  have state := point ▸ h.roster.mirror r mem
  have old : (s.alarmOf p).holdsRecord = true := by rw [state, RecordState.toAlarm_holdsRecord]
  have notRecord : a.holdsRecord = false := by
    by_contra k
    simp [AlarmState.disturbs_of_holdsRecord (by simpa using k)] at new
  have notDeferred : a ≠ .deferred := by rintro rfl; simp [AlarmState.disturbs] at new
  have absent : ∀ x ∈ (s.leaveRoster p a).roster, x.point ≠ p := fun x hx => by simpa using (List.mem_filter.mp hx).2
  obtain ⟨gr, eq, groups⟩ := State.releaseSlot_eq (s := s.leaveRoster p a) (r := r) absent
    (point ▸ h.slots.marks r mem) fun g slot => (h.slots.slots g p slot).1
  have slots : SlotsLegal s.cfg (s.leaveRoster p a).roster fun g : GroupId => gr[g] := by
    rw [show (fun g : GroupId => gr[g]) = fun g => (s.groupOf g).vacate p from funext groups]
    exact h.slots.remove
  unfold State.retired
  rw [eq]
  refine ⟨?_, rfl, rfl⟩
  refine State.PictureCore.armQuiet (s := { s.leaveRoster p a with groups := gr }) (s.setAlarm_alarmOf p a) h.points
    (h.roster.remove old notRecord) (deferred.turn (fun k => ?_) notDeferred) h.shelves slots
  rw [k] at old
  exact Bool.noConfusion old

/-- A retirement keeps the picture (R72, R73). -/
theorem State.Turns.retire (h : s.Turns p a) (hovf : KeepsPicture ovf) (old : (s.alarmOf p).holdsRecord = true)
    (deferred : DeferredLegal s.cfg s.alarmOf s.deferred) (full : s.deferred ≠ [] → s.generalCount = Config.generalPlaces)
    (new : a.disturbs = false) : (s.retire ovf p a).PictureParts := by
  obtain ⟨r, mem, point⟩ := h.roster.holders p old
  have record := (State.recordOf_eq_some h.roster.points).mpr ⟨mem, point⟩
  obtain ⟨core, list, count⟩ := h.retired record deferred new
  have same := (State.SoundFrame.compareSince (s.retired p a r.firstOut) s).samePicture
  have core' := same.core core
  unfold State.retire
  rw [record]
  show (if isGeneral p = true then ((s.retired p a r.firstOut).compareSince s).admitHead ovf
    else (s.retired p a r.firstOut).compareSince s).PictureParts
  split
  · rename_i general
    refine core'.admitHead hovf fun some => ?_
    rw [same.deferred, list] at some
    rw [same.generalCount, count, if_pos general, full some]
    rfl
  · rename_i internal
    refine ⟨core', fun some => ?_⟩
    rw [same.deferred, list] at some
    rw [same.generalCount, count, if_neg internal]
    exact full some

end Sys2Proof.Machine

namespace Sys2Proof.Machine

set_option Elab.async false

/-! ## The picture under edges, acknowledgements and departures -/

open Function (update)

variable {s : State} {p : PointId} {a : AlarmState} {ovf : State → State}

/-! ### Records that keep standing (R40, R43, R48) -/

/-- A record and its point take another record-holding state together (R36). -/
theorem State.Turns.moveRecord {st : RecordState} (h : s.Turns p st.toAlarm) (old : (s.alarmOf p).holdsRecord = true)
    (deferred : DeferredLegal s.cfg s.alarmOf s.deferred) (full : s.deferred ≠ [] → s.generalCount = Config.generalPlaces)
    {f : RosterRecord → RosterRecord} (point : ∀ r, (f r).point = r.point) (stamp : ∀ r, (f r).stamp = r.stamp)
    (firstOut : ∀ r, (f r).firstOut = r.firstOut)
    (records : ∀ r ∈ s.roster, r.point = p → RecordLegal { f r with state := st }) :
    (s.moveRecord p st f).PictureParts := by
  have notDeferred : ∀ {x : AlarmState}, x.holdsRecord = true → x ≠ .deferred := by
    rintro x hx rfl
    exact Bool.noConfusion hx
  have keeps : ∀ {γ : Type} (field : RosterRecord → γ), (∀ r, field { f r with state := st } = field r) →
      ∀ r, field (rewrite p (fun r => { f r with state := st }) r) = field r := by
    intro γ field hf r
    unfold rewrite
    split
    · exact hf r
    · rfl
  have roster : RosterLegal s.cfg (update s.alarmOf p st.toAlarm)
      (s.roster.map (rewrite p fun r => { f r with state := st })) s.generalCount s.stampCounter := by
    refine h.roster.map _ (keeps _ point) (keeps _ stamp) (fun _ _ => rfl) (fun r hr => ?_) (fun r hr => ?_) fun q hq => ?_
    · unfold rewrite
      split
      · exact records r hr ‹_›
      · exact h.roster.records r hr
    · unfold rewrite
      rcases eq_or_ne r.point p with eq | ne
      · simp [eq]
      · simpa [ne] using h.roster.mirror r hr
    · rcases eq_or_ne q p with rfl | ne
      · exact old
      · simpa [ne] using hq
  refine ⟨.ofAlarm (s.setAlarm_alarmOf p _) h.points roster
    (deferred.turn (notDeferred old) (notDeferred st.toAlarm_holdsRecord)) h.shelves
    (h.slots.map _ (keeps _ point) (keeps _ firstOut) fun _ _ => rfl)
    (h.quiet.turn fun _ => AlarmState.disturbs_of_holdsRecord st.toAlarm_holdsRecord), full⟩

/-- A recurrence writes a legal record (R40). -/
theorem RecordLegal.recur {r : RosterRecord} (h : RecordLegal r) : RecordLegal { r.recur with state := .alert } := by
  refine ⟨h.stamp, Nat.min_le_right _ _, h.age, ?_, ?_, ?_⟩ <;> simp [RosterRecord.recur, RosterRecord.unacked]

/-- A return of a record in ALERT writes a legal record (R43). -/
theorem RecordLegal.comeBack {r : RosterRecord} (h : RecordLegal r) (alert : r.state = .alert) :
    RecordLegal { r.comeBack with state := .returned } := by
  have source := h.acknowledged
  refine ⟨h.stamp, h.recurrence, h.age, ?_, ?_, ?_⟩ <;> simp_all [RosterRecord.comeBack, RosterRecord.unacked]

/-- An acknowledgement writes a legal record (R48). -/
theorem RecordLegal.acknowledge {r : RosterRecord} (h : RecordLegal r) (src : AckSource) {st : RecordState}
    (acked : st = .acked ∨ st = .awaitReset) : RecordLegal { r.acknowledge src with state := st } := by
  refine ⟨h.stamp, h.recurrence, h.age, ?_, ?_, ?_⟩ <;>
    rcases acked with rfl | rfl <;> simp [RosterRecord.acknowledge, RosterRecord.unacked]

/-- An acknowledged record that awaits its reset is legal (R44). -/
theorem RecordLegal.await {r : RosterRecord} (h : RecordLegal r) (acked : r.state = .acked) :
    RecordLegal { r with state := .awaitReset } := by
  have source := h.acknowledged
  have silenced := h.silenced
  have timer := h.reannounce
  refine ⟨h.stamp, h.recurrence, h.age, ?_, ?_, ?_⟩ <;> simp_all [RosterRecord.unacked]

/-- The state of a point's record is that of the point (R36). -/
theorem RosterLegal.state {r : RosterRecord} {st : RecordState}
    (h : RosterLegal s.cfg s.alarmOf s.roster s.generalCount s.stampCounter) (hr : r ∈ s.roster) (point : r.point = p)
    (alarm : s.alarmOf p = st.toAlarm) : r.state = st := by
  have := h.mirror r hr
  rw [point, alarm] at this
  cases st <;> cases eq : r.state <;> simp_all [RecordState.toAlarm]

theorem State.Turns.recurrence (h : s.Turns p .alert) (old : (s.alarmOf p).holdsRecord = true)
    (deferred : DeferredLegal s.cfg s.alarmOf s.deferred) (full : s.deferred ≠ [] → s.generalCount = Config.generalPlaces) :
    (s.recurrence p).PictureParts := by
  have moved : (s.moveRecord p .alert RosterRecord.recur).PictureParts :=
    State.Turns.moveRecord h old deferred full (fun _ => rfl) (fun _ => rfl) (fun _ => rfl)
      fun r hr _ => (h.roster.records r hr).recur
  exact ((State.SoundFrame.renewRecord _ p).trans (.compareSince _ s)).samePicture.parts moved

theorem State.Turns.returnRecord (h : s.Turns p .returned) (alert : s.alarmOf p = .alert)
    (deferred : DeferredLegal s.cfg s.alarmOf s.deferred) (full : s.deferred ≠ [] → s.generalCount = Config.generalPlaces) :
    (s.returnRecord p).PictureParts := by
  have moved : (s.moveRecord p .returned RosterRecord.comeBack).PictureParts :=
    State.Turns.moveRecord h (by rw [alert]; rfl) deferred full (fun _ => rfl) (fun _ => rfl) (fun _ => rfl)
      fun r hr point => (h.roster.records r hr).comeBack (h.roster.state hr point alert)
  have renewed := (State.SoundFrame.renewRecord _ p).samePicture.parts moved
  exact (State.SoundFrame.compareSince _ s).samePicture.parts ((State.SamePicture.raise _ .returned).parts renewed)

/-! ### Edges (R39 to R46) -/

theorem State.setFilter_filterOf (s : State) (p : PointId) (f : Filter) :
    (s.setFilter p f).filterOf = update s.filterOf p f := by
  funext q
  rcases eq_or_ne q p with rfl | ne
  · simp
  · simp [State.filterOf_setFilter, ne, ne.symm]

/-- A qualification state that goes with its point's alarm state keeps the picture. -/
theorem State.PictureParts.setFilter {f : Filter} (h : s.PictureParts)
    (legal : PointLegal (s.cfg p) s.service[p] (s.alarmOf p) f) : (s.setFilter p f).PictureParts := by
  refine ⟨⟨fun q => ?_, h.roster, h.deferred, h.shelves, h.slots, h.quiet⟩, h.full⟩
  rw [s.setFilter_filterOf]
  rcases eq_or_ne q p with rfl | ne
  · simpa using legal
  · simpa [ne] using h.points q

/-- A qualification state that goes with the state that its point is to take. -/
theorem State.PictureCore.turnsWith {f : Filter} (h : s.PictureCore) (legal : PointLegal (s.cfg p) s.service[p] a f)
    (old : s.alarmOf p ≠ .shelved) (new : a ≠ .shelved) : (s.setFilter p f).Turns p a := by
  refine ⟨fun q => ?_, h.roster, h.shelves.turn old new, h.slots, h.quiet⟩
  rw [s.setFilter_filterOf]
  rcases eq_or_ne q p with rfl | ne
  · simpa using legal
  · simpa [ne] using h.points q

/-- An in-service point takes a settled qualification state and a state of its kind that goes with it. -/
theorem PointLegal.ofInService {c : PointConfig} {v : Service} {g : Filter}
    (service : v = .inService) (out : a ≠ .outOfService) (kind : c.kind.allows a = true) (settled : g.Settled)
    (qualified : ∀ x, c.kind ≠ .pulse → a.qualified = some x → g.qualified = x) : PointLegal c v a g :=
  ⟨by simp [service, out], kind, by simp [service], settled, qualified⟩

theorem Kind.allows_alert (k : Kind) : k.allows .alert = true := by cases k <;> rfl
theorem Kind.allows_deferred (k : Kind) : k.allows .deferred = true := by cases k <;> rfl
theorem Kind.allows_normal (k : Kind) : k.allows .normal = true := by cases k <;> rfl
theorem Kind.allows_shelved (k : Kind) : k.allows .shelved = true := by cases k <;> rfl
theorem Kind.allows_outOfService (k : Kind) : k.allows .outOfService = true := by cases k <;> rfl

/-- What a rise finds in a legal picture (R39, R41, R42): a point in NORMAL, a record that recurs, or a state that already
goes with a condition that is PRESENT. -/
theorem State.riseWith_legal_cases (ovf : State → State) (kind : (s.cfg p).kind.allows (s.alarmOf p) = true) :
    (s.alarmOf p = .normal ∧ s.riseWith ovf p = s.requestAdmission ovf p) ∨
    ((s.alarmOf p).holdsRecord = true ∧ s.riseWith ovf p = s.recurrence p) ∨
    ((∀ b, (s.cfg p).kind ≠ .pulse → (s.alarmOf p).qualified = some b → b = true) ∧ s.riseWith ovf p = s) := by
  unfold State.riseWith
  cases hs : s.alarmOf p <;> cases hk : (s.cfg p).kind <;>
    simp_all [Kind.allows, AlarmState.qualified, AlarmState.holdsRecord]

/-- What a fall finds in a legal picture (R43 to R46). -/
theorem State.fallWith_legal_cases (ovf : State → State) (kind : (s.cfg p).kind.allows (s.alarmOf p) = true) :
    ((s.cfg p).kind ≠ .pulse ∧ s.alarmOf p = .alert ∧ s.fallWith ovf p = s.returnRecord p) ∨
    (s.alarmOf p = .acked ∧ s.fallWith ovf p = s.retire ovf p .normal) ∨
    ((s.cfg p).kind = .manual ∧ s.alarmOf p = .acked ∧ s.fallWith ovf p = s.moveRecord p .awaitReset id) ∨
    (s.alarmOf p = .deferred ∧ s.fallWith ovf p = s.leaveDeferred ovf p .normal) ∨
    ((∀ b, (s.cfg p).kind ≠ .pulse → (s.alarmOf p).qualified = some b → b = false) ∧ s.fallWith ovf p = s) := by
  unfold State.fallWith
  cases hs : s.alarmOf p <;> cases hk : (s.cfg p).kind <;> simp_all [Kind.allows, AlarmState.qualified]

/-- An in-service point whose condition becomes PRESENT takes a rise, and the picture is kept (R39 to R42). -/
theorem State.PictureParts.rise {f : Filter} (h : s.PictureParts) (hovf : KeepsPicture ovf)
    (service : s.service[p] = .inService) (settled : f.Settled) (present : f.qualified = true) :
    ((s.setFilter p f).riseWith ovf p).PictureParts := by
  have point := h.points p
  have qualified : ∀ {a : AlarmState}, (∀ b, a.qualified = some b → b = true) →
      ∀ x, (s.cfg p).kind ≠ .pulse → a.qualified = some x → f.qualified = x :=
    fun hb x _ eq => present.trans (hb x eq).symm
  have alert : PointLegal (s.cfg p) s.service[p] .alert f :=
    PointLegal.ofInService service (by simp) (Kind.allows_alert _) settled (qualified (by simp [AlarmState.qualified]))
  have deferred : PointLegal (s.cfg p) s.service[p] .deferred f :=
    PointLegal.ofInService service (by simp) (Kind.allows_deferred _) settled (qualified (by simp [AlarmState.qualified]))
  rcases State.riseWith_legal_cases (s := s.setFilter p f) ovf point.kind with ⟨normal, eq⟩ | ⟨held, eq⟩ | ⟨stays, eq⟩
  · rw [eq]
    have old : s.alarmOf p ≠ .shelved := fun k => by simp [k] at normal
    exact (h.turnsWith alert old (by simp)).requestAdmission (h.turnsWith deferred old (by simp)) hovf normal h.deferred
      h.full
  · rw [eq]
    have old : s.alarmOf p ≠ .shelved := fun k => by simp [k, AlarmState.holdsRecord] at held
    exact (h.turnsWith alert old (by simp)).recurrence held h.deferred h.full
  · rw [eq]
    exact h.setFilter (PointLegal.ofInService service (fun out => by simp [point.service.mpr out] at service) point.kind settled
      fun x kind eq => present.trans (stays x kind eq).symm)

/-- An in-service point whose condition becomes ABSENT takes a fall, and the picture is kept (R43 to R46). -/
theorem State.PictureParts.fall {f : Filter} (h : s.PictureParts) (hovf : KeepsPicture ovf)
    (service : s.service[p] = .inService) (settled : f.Settled) (absent : f.qualified = false) :
    ((s.setFilter p f).fallWith ovf p).PictureParts := by
  have point := h.points p
  have legal : ∀ {a : AlarmState}, a ≠ .outOfService → (s.cfg p).kind.allows a = true →
      (∀ b, a.qualified = some b → b = false) → PointLegal (s.cfg p) s.service[p] a f :=
    fun out kind hb => PointLegal.ofInService service out kind settled fun x _ eq => absent.trans (hb x eq).symm
  have normal : PointLegal (s.cfg p) s.service[p] .normal f :=
    legal (by simp) (Kind.allows_normal _) (by simp [AlarmState.qualified])
  have kinds : (s.cfg p).kind.allows (s.alarmOf p) = true := point.kind
  rcases State.fallWith_legal_cases (s := s.setFilter p f) ovf kinds with
    ⟨kind, alert, eq⟩ | ⟨acked, eq⟩ | ⟨kind, acked, eq⟩ | ⟨deferred, eq⟩ | ⟨stays, eq⟩
  · rw [eq]
    have allowed : (s.cfg p).kind.allows .returned = true := by
      rw [s.setFilter_cfg] at kind
      cases hk : (s.cfg p).kind <;> first | rfl | exact absurd hk kind
    have old : s.alarmOf p ≠ .shelved := fun k => by simp [k] at alert
    exact (h.turnsWith (legal (by simp) allowed (by simp [AlarmState.qualified])) old (by simp)).returnRecord alert
      h.deferred h.full
  · rw [eq]
    have held : ((s.setFilter p f).alarmOf p).holdsRecord = true := by rw [acked]; rfl
    exact (h.turnsWith normal (fun k => by simp [k] at acked) (by simp)).retire hovf held h.deferred h.full rfl
  · rw [eq]
    have allowed : (s.cfg p).kind.allows .awaitReset = true := by
      rw [s.setFilter_cfg] at kind
      rw [kind]
      rfl
    have turn := h.turnsWith (legal (by simp) allowed (by simp [AlarmState.qualified]))
      (fun k => by simp [k] at acked) (by simp)
    exact turn.moveRecord (st := .awaitReset) (by rw [acked]; rfl) h.deferred h.full (fun _ => rfl) (fun _ => rfl)
      (fun _ => rfl) fun r hr point => (h.roster.records r hr).await (h.roster.state hr point acked)
  · rw [eq]
    exact (h.turnsWith normal (fun k => by simp [k] at deferred) (by simp)).leaveDeferred hovf deferred h.deferred h.full
      rfl
  · rw [eq]
    exact h.setFilter (PointLegal.ofInService service (fun out => by simp [point.service.mpr out] at service) point.kind settled
      fun x kind eq => absent.trans (stays x kind eq).symm)

/-! ### The persistence filter (R31, R32) -/

/-- What a raw condition makes of settled timers (R31): settled timers, with the condition kept or an edge handed over. -/
theorem State.takeRawWith_settled_cases (ovf : State → State) (p : PointId) (v : Bool) (settled : (s.filterOf p).Settled) :
    s.takeRawWith ovf p v = s ∨
    (s.inService p = true ∧ ∃ f : Filter, f.Settled ∧
      (f.qualified = (s.filterOf p).qualified ∧ s.takeRawWith ovf p v = s.setFilter p f ∨
       f.qualified = true ∧ s.takeRawWith ovf p v = (s.setFilter p f).riseWith ovf p ∨
       f.qualified = false ∧ s.takeRawWith ovf p v = (s.setFilter p f).fallWith ovf p)) := by
  unfold State.takeRawWith
  by_cases h : s.inService p = false ∨ (s.filterOf p).raw = v
  · exact .inl (if_pos h)
  · have service : s.inService p = true := by simpa using fun k => h (.inl k)
    have raw : (s.filterOf p).raw ≠ v := fun k => h (.inr k)
    obtain ⟨on, off⟩ := settled
    refine .inr ⟨service, ?_⟩
    simp only [if_neg h]
    cases v <;> cases hq : (s.filterOf p).qualified <;> dsimp only
    · refine ⟨_, ?_, .inl ⟨?_, rfl⟩⟩
      · exact ⟨by simp, fun running => absurd (off running).2 (by simp [hq])⟩
      · rfl
    · split
      · refine ⟨_, ?_, .inr (.inr ⟨?_, rfl⟩)⟩
        · exact ⟨by simp, by simp⟩
        · rfl
      · refine ⟨_, ?_, .inl ⟨?_, rfl⟩⟩
        · exact ⟨fun running => absurd (on running).2 (by simp [hq]), fun _ => ⟨rfl, rfl⟩⟩
        · rfl
    · split
      · refine ⟨_, ?_, .inr (.inl ⟨?_, rfl⟩)⟩
        · exact ⟨by simp, by simp⟩
        · rfl
      · refine ⟨_, ?_, .inl ⟨?_, rfl⟩⟩
        · exact ⟨fun _ => ⟨rfl, rfl⟩, fun running => absurd (off running).2 (by simp [hq])⟩
        · rfl
    · refine ⟨_, ?_, .inl ⟨?_, rfl⟩⟩
      · exact ⟨fun running => absurd (on running).2 (by simp [hq]), by simp⟩
      · rfl

theorem State.inService_iff : s.inService p = true ↔ s.service[p] = .inService := by simp [State.inService]

/-- A raw condition keeps the picture (R31). -/
theorem State.PictureParts.takeRawWith (h : s.PictureParts) (hovf : KeepsPicture ovf) (p : PointId) (v : Bool) :
    (s.takeRawWith ovf p v).PictureParts := by
  have point := h.points p
  rcases s.takeRawWith_settled_cases ovf p v point.settled with eq | ⟨service, f, settled, ⟨q, eq⟩ | ⟨q, eq⟩ | ⟨q, eq⟩⟩
  · rw [eq]
    exact h
  all_goals
    rw [eq]
    have service := State.inService_iff.mp service
  · exact h.setFilter (PointLegal.ofInService service (fun out => by simp [point.service.mpr out] at service) point.kind settled
      fun x kind eq => q.trans (point.qualified x kind eq))
  · exact h.rise hovf service settled q
  · exact h.fall hovf service settled q

theorem keepsPicture_handOverflow : KeepsPicture State.handOverflow :=
  fun _ h => h.takeRawWith keepsPicture_id overflowPoint _

theorem State.PictureParts.takeRaw (h : s.PictureParts) (p : PointId) (v : Bool) : (s.takeRaw p v).PictureParts :=
  h.takeRawWith keepsPicture_handOverflow p v

/-- A running timer belongs to a point in service (R10, R33). -/
theorem PointLegal.inService_of_timer {c : PointConfig} {v : Service} {b : AlarmState} {f : Filter} (h : PointLegal c v b f)
    (running : f.onTimer.isSome ∨ f.offTimer.isSome) : v = .inService := by
  cases hv : v with
  | inService => rfl
  | outService =>
    have stopped := h.stopped hv
    simp [stopped.onTimer, stopped.offTimer] at running

theorem State.PictureParts.expireOnDelay (h : s.PictureParts) (p : PointId) : (s.expireOnDelay p).PictureParts := by
  unfold State.expireOnDelay
  dsimp only
  split
  · rename_i running
    have point := h.points p
    have on := point.settled.onTimer running.1
    refine h.rise keepsPicture_handOverflow (point.inService_of_timer (.inl running.1)) ⟨by simp, fun off => ?_⟩ rfl
    have := (point.settled.offTimer off).2
    simp [on.2] at this
  · exact h

theorem State.PictureParts.expireOffDelay (h : s.PictureParts) (p : PointId) : (s.expireOffDelay p).PictureParts := by
  unfold State.expireOffDelay
  dsimp only
  split
  · rename_i running
    have point := h.points p
    have off := point.settled.offTimer running.1
    refine h.fall keepsPicture_handOverflow (point.inService_of_timer (.inr running.1)) ⟨fun on => ?_, by simp⟩ rfl
    have := (point.settled.onTimer on).2
    simp [off.2] at this
  · exact h

/-! ### Acknowledgement and reset (R48 to R53) -/

/-- A state of an in-service point that goes with the condition the point has. -/
theorem PointLegal.move {c : PointConfig} {v : Service} {b : AlarmState} {f : Filter} (h : PointLegal c v b f)
    (old : b ≠ .outOfService) (out : a ≠ .outOfService) (kind : c.kind.allows a = true)
    (qualified : c.kind ≠ .pulse → a.qualified = b.qualified) : PointLegal c v a f := by
  have service : v = .inService := by
    cases hv : v with
    | inService => rfl
    | outService => exact absurd (h.service.mp hv) old
  exact PointLegal.ofInService service out kind h.settled fun x pulse eq => h.qualified x pulse (qualified pulse ▸ eq)

/-- An acknowledgement keeps the picture (R48). -/
theorem State.PictureParts.acknowledgeWith (h : s.PictureParts) (hovf : KeepsPicture ovf) (src : AckSource) (p : PointId) :
    (s.acknowledgeWith ovf src p).PictureParts := by
  have point := h.points p
  rcases s.acknowledgeWith_cases ovf src p with
    ⟨kind, alarm, eq⟩ | ⟨kind, alarm, eq⟩ | ⟨kind, alarm, eq⟩ | ⟨kind, alarm, eq⟩ | eq
  all_goals rw [eq]
  · refine (State.SoundFrame.compareSince _ s).samePicture.parts ?_
    have legal : PointLegal (s.cfg p) s.service[p] .acked (s.filterOf p) :=
      point.move (by simp [alarm]) (by simp) (by cases hk : (s.cfg p).kind <;> simp_all [Kind.allows]) fun _ => by rw [alarm]; rfl
    exact (h.turns legal (by simp [alarm]) (by simp)).moveRecord (st := .acked) (by rw [alarm]; rfl) h.deferred h.full
      (fun _ => rfl) (fun _ => rfl) (fun _ => rfl) fun r hr _ => (h.roster.records r hr).acknowledge src (.inl rfl)
  · refine (State.SoundFrame.compareSince _ s).samePicture.parts ?_
    have legal : PointLegal (s.cfg p) s.service[p] .awaitReset (s.filterOf p) :=
      point.move (by simp [alarm]) (by simp) (by rw [kind]; rfl) fun _ => by rw [alarm]; rfl
    exact (h.turns legal (by simp [alarm]) (by simp)).moveRecord (st := .awaitReset) (by rw [alarm]; rfl) h.deferred h.full
      (fun _ => rfl) (fun _ => rfl) (fun _ => rfl) fun r hr _ => (h.roster.records r hr).acknowledge src (.inr rfl)
  · have legal : PointLegal (s.cfg p) s.service[p] .normal (s.filterOf p) :=
      point.move (by simp [alarm]) (by simp) (Kind.allows_normal _) fun _ => by rw [alarm]; rfl
    exact (h.turns legal (by simp [alarm]) (by simp)).retire hovf (by rw [alarm]; rfl) h.deferred h.full rfl
  · have legal : PointLegal (s.cfg p) s.service[p] .normal (s.filterOf p) :=
      point.move (by simp [alarm]) (by simp) (Kind.allows_normal _) fun pulse => absurd kind pulse
    exact (h.turns legal (by simp [alarm]) (by simp)).retire hovf (by rw [alarm]; rfl) h.deferred h.full rfl
  · exact h

/-- A reset of a point in AWAIT_RESET keeps the picture (R52). -/
theorem State.PictureParts.resetPoint (h : s.PictureParts) (hovf : KeepsPicture ovf) (alarm : s.alarmOf p = .awaitReset) :
    (s.retire ovf p .normal).PictureParts := by
  have legal : PointLegal (s.cfg p) s.service[p] .normal (s.filterOf p) :=
    (h.points p).move (by simp [alarm]) (by simp) (Kind.allows_normal _) fun _ => by rw [alarm]; rfl
  exact (h.turns legal (by simp [alarm]) (by simp)).retire hovf (by rw [alarm]; rfl) h.deferred h.full rfl

/-- An action on named records keeps the picture when it keeps it on each record that still stands and is selected. -/
theorem State.PictureParts.takeNamed (h : s.PictureParts) (sel : RosterRecord → Bool) (act : PointId → State → State)
    (hact : ∀ u : State, u.PictureParts → ∀ r ∈ u.roster, sel r = true → (act r.point u).PictureParts) :
    (s.takeNamed sel act).PictureParts := by
  refine State.PictureParts.handIfEmptied ?_ keepsPicture_handOverflow _
  unfold State.forEachNamed
  generalize s.named sel = l
  induction l generalizing s with
  | nil => exact h
  | cons n l ih =>
    refine ih ?_
    dsimp only
    split
    · rename_i stands
      obtain ⟨r, hr, is⟩ := List.any_eq_true.mp stands
      simp only [Bool.and_eq_true, beq_iff_eq] at is
      rw [← is.1.1]
      exact hact s h r hr is.2
    · exact h

theorem State.PictureParts.acknowledgeAll (h : s.PictureParts) (src : AckSource) (sel : RosterRecord → Bool) :
    (s.acknowledgeAll src sel).PictureParts :=
  h.takeNamed _ _ fun _ hu r _ _ => hu.acknowledgeWith keepsPicture_id src r.point

theorem State.PictureParts.resetEvery (h : s.PictureParts) : s.resetEvery.PictureParts := by
  refine h.takeNamed _ _ fun u hu r hr sel => hu.resetPoint keepsPicture_id ?_
  rw [hu.roster.mirror r hr, show r.state = .awaitReset by simpa using sel]
  rfl

/-! ### Departure from the picture and return to it (R10, R54 to R56) -/

/-- A point may leave the picture from whichever state it stands in. -/
theorem State.Turns.leavePicture (h : s.Turns p a) (deferred : DeferredLegal s.cfg s.alarmOf s.deferred)
    (full : s.deferred ≠ [] → s.generalCount = Config.generalPlaces) (new : a.disturbs = false) :
    (s.leavePicture p a).PictureParts := by
  have stays : (s.alarmOf p).disturbs = false → (s.setAlarm p a).PictureParts := by
    intro old
    have notRecord : ∀ {x : AlarmState}, x.disturbs = false → x.holdsRecord = false := by
      intro x hx
      by_contra k
      simp [AlarmState.disturbs_of_holdsRecord (by simpa using k)] at hx
    have notDeferred : ∀ {x : AlarmState}, x.disturbs = false → x ≠ .deferred := by
      rintro x hx rfl
      exact Bool.noConfusion hx
    exact ⟨.ofAlarm (s.setAlarm_alarmOf p a) h.points (h.roster.turn (notRecord old) (notRecord new))
      (deferred.turn (notDeferred old) (notDeferred new)) h.shelves h.slots
      (h.quiet.turn fun loud => by simp [old] at loud), full⟩
  unfold State.leavePicture
  cases alarm : s.alarmOf p
  case alert | acked | returned | awaitReset =>
    exact h.retire keepsPicture_handOverflow (by rw [alarm]; rfl) deferred full new
  case deferred => exact h.leaveDeferred keepsPicture_handOverflow alarm deferred full new
  case normal | shelved | outOfService => exact stays (by rw [alarm]; rfl)

end Sys2Proof.Machine

namespace Sys2Proof.Machine

set_option Elab.async false

/-! ## What leaves the alarm picture and the configuration alone -/

variable {s t : State}

/-- Nothing has changed that the alarm picture, the Line Monitor or the configuration's ranges read: what a claim of the
panel, the cue library, the tone channels, the host link or the event flags leaves. -/
structure State.Apart (s t : State) : Prop extends State.SamePicture s t where
  classInterval : t.classInterval = s.classInterval
  lines : t.lines = s.lines
  thresholds : t.thresholds = s.thresholds
  faulted : t.faulted = s.faulted
  tones : t.tones = s.tones

theorem State.Apart.refl (s : State) : State.Apart s s := ⟨.refl s, rfl, rfl, rfl, rfl, rfl⟩

theorem State.Apart.trans {u : State} (h : State.Apart s t) (k : State.Apart t u) : State.Apart s u :=
  ⟨h.toSamePicture.trans k.toSamePicture, k.classInterval.trans h.classInterval, k.lines.trans h.lines,
    k.thresholds.trans h.thresholds, k.faulted.trans h.faulted, k.tones.trans h.tones⟩

/-- A change of the panel, the lamp tests, the flash timebase, the cues, the session, the channels, the link, the flags or
the model's own fields. -/
theorem State.Apart.update (s : State) (ks : PerKey KeyState) (ke : PerKey Bool) (pt ht : Option Nat) (ts : PerChan Bool)
    (fp : Nat) (cu : Table (Option CueContents) 32) (ed : Option EditSession) (ch : PerChan ToneChannel) (l : Link)
    (ev m : BitVec 12) (an : Option Answer) (n : Nat) (q : List Instr) :
    State.Apart s
      { s with
        keys := ks, keyEnables := ke, panelTest := pt, hostTest := ht, testSounded := ts, flashPhase := fp, cues := cu,
        edit := ed, channels := ch, link := l, events := ev, mask := m, answer := an, freeCount := n, pending := q } :=
  ⟨⟨rfl, rfl, rfl, rfl, rfl, rfl, rfl, rfl, rfl, rfl⟩, rfl, rfl, rfl, rfl, rfl⟩

theorem State.SoundFrame.apart (h : State.SoundFrame s t) : State.Apart s t :=
  ⟨h.samePicture, h.classInterval_eq, h.lines_eq, h.thresholds_eq, h.faulted_eq, h.tones_eq⟩

section Fields

variable (s : State)

theorem State.Apart.raise (e : Event) : State.Apart s (s.raise e) :=
  .update s s.keys s.keyEnables s.panelTest s.hostTest s.testSounded s.flashPhase s.cues s.edit s.channels s.link _ s.mask
    s.answer s.freeCount s.pending

theorem State.Apart.setLink (l : Link) : State.Apart s (s.setLink l) :=
  .update s s.keys s.keyEnables s.panelTest s.hostTest s.testSounded s.flashPhase s.cues s.edit s.channels l s.events s.mask
    s.answer s.freeCount s.pending

theorem State.Apart.setEdit (e : Option EditSession) : State.Apart s (s.setEdit e) :=
  .update s s.keys s.keyEnables s.panelTest s.hostTest s.testSounded s.flashPhase s.cues e s.channels s.link s.events s.mask
    s.answer s.freeCount s.pending

theorem State.Apart.setCues (cu : Table (Option CueContents) 32) : State.Apart s { s with cues := cu } :=
  .update s s.keys s.keyEnables s.panelTest s.hostTest s.testSounded s.flashPhase cu s.edit s.channels s.link s.events s.mask
    s.answer s.freeCount s.pending

theorem State.Apart.setKeys (ks : PerKey KeyState) : State.Apart s { s with keys := ks } :=
  .update s ks s.keyEnables s.panelTest s.hostTest s.testSounded s.flashPhase s.cues s.edit s.channels s.link s.events s.mask
    s.answer s.freeCount s.pending

theorem State.Apart.setAnswer (an : Option Answer) (l : Link) : State.Apart s { s with answer := an, link := l } :=
  .update s s.keys s.keyEnables s.panelTest s.hostTest s.testSounded s.flashPhase s.cues s.edit s.channels l s.events s.mask
    an s.freeCount s.pending

theorem State.Apart.setFreeCount (n : Nat) : State.Apart s { s with freeCount := n } :=
  .update s s.keys s.keyEnables s.panelTest s.hostTest s.testSounded s.flashPhase s.cues s.edit s.channels s.link s.events
    s.mask s.answer n s.pending

theorem State.Apart.setPending (q : List Instr) : State.Apart s { s with pending := q } :=
  .update s s.keys s.keyEnables s.panelTest s.hostTest s.testSounded s.flashPhase s.cues s.edit s.channels s.link s.events
    s.mask s.answer s.freeCount q

theorem State.Apart.setTestSounded (ts : PerChan Bool) : State.Apart s { s with testSounded := ts } :=
  .update s s.keys s.keyEnables s.panelTest s.hostTest ts s.flashPhase s.cues s.edit s.channels s.link s.events s.mask
    s.answer s.freeCount s.pending

end Fields

/-! ### The panel -/

/-- The lamp test's coming and going stays apart from the alarm picture (R115 to R118). -/
theorem State.Apart.setTests (s : State) (panel host : Option Nat) : State.Apart s (s.setTests panel host) := by
  have tests : State.Apart s { s with panelTest := panel, hostTest := host } :=
    .update s s.keys s.keyEnables panel host s.testSounded s.flashPhase s.cues s.edit s.channels s.link s.events s.mask
      s.answer s.freeCount s.pending
  unfold State.setTests
  dsimp only
  split
  · exact tests
  · split
    · exact tests.trans (((State.SoundFrame.renewTestOn _ .a).trans (.renewTestOn _ .b)).trans (.compareSince _ s)).apart
    · exact (tests.trans (.setTestSounded _ _)).trans (State.SoundFrame.compareChannels _).apart

theorem State.Apart.writeEnables (s : State) (e : PerKey Bool) : State.Apart s (s.writeEnables e) := by
  have enables : State.Apart s { s with keyEnables := e } :=
    .update s s.keys e s.panelTest s.hostTest s.testSounded s.flashPhase s.cues s.edit s.channels s.link s.events s.mask
      s.answer s.freeCount s.pending
  unfold State.writeEnables
  dsimp only
  split
  · exact enables
  · exact enables.trans (.setTests _ _ _)

/-! ### The cue library -/

theorem State.Apart.endEdit (s : State) : State.Apart s s.endEdit := (State.Apart.setEdit s none).trans (.raise _ _)

theorem State.Apart.expireEdit (s : State) : State.Apart s s.expireEdit := by
  unfold State.expireEdit
  split
  · split
    · exact .endEdit s
    · exact .refl s
  · exact .refl s

/-- The end of a COMMIT's check stays apart from the alarm picture (R140, R141). -/
theorem State.Apart.endCheck (s : State) : State.Apart s s.endCheck := by
  unfold State.endCheck
  split
  · split
    · split
      · exact (((State.Apart.setCues s _).trans (.endEdit _)).trans
          ((State.SoundFrame.noticeReplacement _ s _ .a).trans (.noticeReplacement _ s _ .b)).apart).trans (.setAnswer _ _ _)
      · exact (State.Apart.setEdit s _).trans (.setAnswer _ _ _)
    · exact .refl s
  · exact .refl s

/-! ### The channels' settings -/

theorem State.Apart.changeSettings (s : State) (c : Chan) (v : Bool) (w : SwitchPolicy) :
    State.Apart s (s.changeSettings c v w) := by
  have settings : State.Apart s (s.setSettings c v w) :=
    .update s s.keys s.keyEnables s.panelTest s.hostTest s.testSounded s.flashPhase s.cues s.edit _ s.link s.events s.mask
      s.answer s.freeCount s.pending
  unfold State.changeSettings
  dsimp only
  split
  · exact settings.trans (State.SoundFrame.compareChannel _ c).apart
  · refine settings.trans (State.SoundFrame.apart ?_)
    unfold State.stopChannel
    split
    · exact .goIdle _ c
    · exact .refl _

/-! ### The host link -/

theorem State.Apart.noteLinkFault (s : State) (v : Bool) : State.Apart s (s.noteLinkFault v) := by
  unfold State.noteLinkFault
  split
  · exact .raise s _
  · exact .refl s

theorem State.Apart.expireLink (s : State) : State.Apart s s.expireLink := by
  unfold State.expireLink
  split
  · exact (State.Apart.setLink s _).trans (.raise _ _)
  · exact .refl s

theorem Reply.apart_handOver (r : Reply) (c : Instr) : State.Apart r.1 (r.handOver c) := .setAnswer r.1 _ _

/-! ### Commands apart -/

/-- The host commands that only read. -/
def isRead : Instr → Bool
  | .readPoint _ | .readClass _ | .readLine _ | .readThresholds _ | .readRecord _ | .listRoster _ | .firstUnacked
  | .readSummary | .readDeferred | .readGroup _ | .listShelved | .readLamps | .readCue _ | .readTones | .readChannel _
  | .readEvents => true
  | _ => false

/-- A command that only reads leaves its state as it is. -/
theorem ownerTakes_read (c : Instr) (s : State) (h : isRead c = true) : (ownerTakes c s).1 = s := by
  cases c
  case readPoint p =>
    show (ownReadPoint p s).1 = s
    unfold ownReadPoint
    split <;> rfl
  case readClass n =>
    show (ownReadClass n s).1 = s
    unfold ownReadClass
    split <;> rfl
  case readLine n =>
    show (ownReadLine n s).1 = s
    unfold ownReadLine
    split <;> rfl
  case readThresholds k =>
    show (ownReadThresholds k s).1 = s
    unfold ownReadThresholds
    split <;> rfl
  case readRecord p =>
    show (ownReadRecord p s).1 = s
    unfold ownReadRecord
    split
    · rfl
    · split <;> rfl
  case firstUnacked =>
    show (ownFirstUnacked s).1 = s
    unfold ownFirstUnacked
    split <;> rfl
  case readGroup g =>
    show (ownReadGroup g s).1 = s
    unfold ownReadGroup
    split <;> rfl
  case readCue q =>
    show (ownReadCue q s).1 = s
    unfold ownReadCue
    split <;> rfl
  case readChannel c =>
    show (ownReadChannel c s).1 = s
    unfold ownReadChannel
    split <;> rfl
  case listRoster | readSummary | readDeferred | listShelved | readLamps | readTones | readEvents => rfl
  all_goals exact absurd h Bool.false_ne_true

/-- The host commands that write, and stay apart from the alarm picture, the lines and the ranges of the configuration. -/
def isApart : Instr → Bool
  | .writePanel _ _ _ _ | .lampTest _ | .beginEdit _ | .writeCueHeader _ | .writeSteps _ _ | .commit | .abortEdit | .eraseCue _
  | .writeChannel _ _ _ | .clearEvents _ | .writeEventMask _ => true
  | _ => false

theorem ownerTakes_apart (c : Instr) (s : State) (h : isApart c = true) : State.Apart s (ownerTakes c s).1 := by
  have flags : ∀ ev m, State.Apart s { s with events := ev, mask := m } := fun ev m =>
    .update s s.keys s.keyEnables s.panelTest s.hostTest s.testSounded s.flashPhase s.cues s.edit s.channels s.link ev m
      s.answer s.freeCount s.pending
  cases c
  case writePanel a b c d =>
    show State.Apart s (ownWritePanel a b c d s).1
    unfold ownWritePanel
    split
    · exact .writeEnables s _
    · exact .refl s
  case lampTest n =>
    show State.Apart s (ownLampTest n s).1
    unfold ownLampTest
    split
    · exact .refl s
    · exact .setTests s _ _
  case beginEdit q =>
    show State.Apart s (ownBeginEdit q s).1
    unfold ownBeginEdit
    split
    · exact .refl s
    · split
      · exact .refl s
      · exact .setEdit s _
  case writeCueHeader hd =>
    show State.Apart s (ownWriteCueHeader hd s).1
    unfold ownWriteCueHeader
    split
    · exact .refl s
    · split
      · exact .setEdit s _
      · exact .setEdit s _
  case writeSteps o l =>
    show State.Apart s (ownWriteSteps o l s).1
    unfold ownWriteSteps
    split
    · exact .refl s
    · split
      · exact .setEdit s _
      · exact .setEdit s _
  case commit =>
    show State.Apart s (ownCommit s).1
    unfold ownCommit
    split
    · exact .refl s
    · exact .setEdit s _
  case abortEdit =>
    show State.Apart s (ownAbortEdit s).1
    unfold ownAbortEdit
    split
    · exact .refl s
    · exact .endEdit s
  case eraseCue q =>
    show State.Apart s (ownEraseCue q s).1
    unfold ownEraseCue
    split
    · exact .refl s
    · split
      · exact .refl s
      · split
        · exact (State.Apart.setCues s _).trans (State.SoundFrame.compareSince _ s).apart
        · exact .refl s
  case writeChannel c e w =>
    show State.Apart s (ownWriteChannel c e w s).1
    unfold ownWriteChannel
    split
    · split
      · exact .refl s
      · exact .changeSettings s _ _ _
    · exact .refl s
  case clearEvents f =>
    show State.Apart s (ownClearEvents f s).1
    unfold ownClearEvents
    split
    · exact .refl s
    · exact flags _ s.mask
  case writeEventMask m =>
    show State.Apart s (ownWriteEventMask m s).1
    unfold ownWriteEventMask
    split
    · exact .refl s
    · exact flags s.events _
  all_goals exact absurd h Bool.false_ne_true

/-! ### Steps of the tone channels (R155 to R160) -/

theorem State.SoundFrame.comparePassEnd (s : State) (c : Chan) (pl : Player) : State.SoundFrame s (s.comparePassEnd c pl) := by
  unfold State.comparePassEnd
  split
  · exact .beginPass s c _
  · exact .switchTo s c _

theorem State.SoundFrame.continueReplaced (s : State) (c : Chan) (pl : Player) :
    State.SoundFrame s (s.continueReplaced c pl) := by
  unfold State.continueReplaced
  dsimp only
  split
  · exact .switchTo s c _
  · exact .beginPass s c _

/-- A pass end writes player contexts and flags, and before that the mark of a pass that has sounded, if it has one (R156). -/
theorem State.passEnd_sound (s : State) (c : Chan) (pl : Player) :
    State.SoundFrame s (s.passEnd c pl) ∨ State.SoundFrame (s.markSounded c pl.owner) (s.passEnd c pl) := by
  unfold State.passEnd
  split
  · exact .inl (.comparePassEnd s c pl)
  · exact .inr ((State.SoundFrame.comparePassEnd _ c pl).trans (.compareSince _ s))

/-- A step end writes player contexts and flags, and before that the mark of a pass that has sounded, if it has one. -/
theorem State.endStep_sound (s : State) (c : Chan) :
    State.SoundFrame s (s.endStep c) ∨ ∃ o, State.SoundFrame (s.markSounded c o) (s.endStep c) := by
  unfold State.endStep
  split
  · exact .inl (.refl s)
  · rename_i pl _
    split
    · exact .inl (.continueReplaced s c pl)
    · split
      · exact .inl (.switchTo s c _)
      · unfold State.advanceStep
        dsimp only
        split
        · exact .inl (.setPlayer s c _)
        · split
          · exact .inl (.setPlayer s c _)
          · exact (s.passEnd_sound c pl).imp_right fun h => ⟨_, h⟩

/-! ### Events apart -/

/-- The events of the port, the panel's lines and tests, and the cue library. -/
def isApartEvent : Instr → Bool
  | .keyLineChange _ _ | .panelTestExpiry | .hostTestExpiry | .editIdleTimeout | .commitCheckEnd | .selnFall
  | .requestFrameEnd | .collect | .selnRise | .linkReset | .byteCompletion _ => true
  | _ => false

theorem exec_apart (c : Instr) {s t : State} (h : isApartEvent c = true) (run : exec c s = .next t) : State.Apart s t := by
  cases c
  case keyLineChange k level =>
    obtain rfl := Host.Outcome.next.inj run
    exact .setKeys s _
  case panelTestExpiry =>
    obtain rfl := Host.Outcome.next.inj run
    exact .setTests s _ _
  case hostTestExpiry =>
    obtain rfl := Host.Outcome.next.inj run
    exact .setTests s _ _
  case editIdleTimeout =>
    obtain rfl := Host.Outcome.next.inj run
    exact .expireEdit s
  case commitCheckEnd =>
    obtain rfl := Host.Outcome.next.inj run
    exact .endCheck s
  case selnFall =>
    obtain rfl := Host.Outcome.next.inj run
    split
    · exact .setLink s _
    · exact .refl s
  case requestFrameEnd =>
    obtain rfl := Host.Outcome.next.inj run
    split
    · split
      · exact (State.Apart.setLink s _).trans (.noteLinkFault _ _)
      · exact (State.Apart.setLink s _).trans (.raise _ _)
    · exact .refl s
  case collect =>
    obtain rfl := Host.Outcome.next.inj run
    split
    · exact .setLink s _
    · exact .refl s
  case selnRise =>
    obtain rfl := Host.Outcome.next.inj run
    exact (State.Apart.setLink s _).trans (.noteLinkFault _ _)
  case linkReset =>
    obtain rfl := Host.Outcome.next.inj run
    exact .expireLink s
  case byteCompletion b =>
    obtain rfl := Host.Outcome.next.inj run
    split
    · exact .refl s
    · exact .setLink s _
  all_goals exact absurd h Bool.false_ne_true

end Sys2Proof.Machine

namespace Sys2Proof.Machine

set_option Elab.async false

/-! ## The picture under the commands and the events of the table -/

open Function (update)

variable {s : State} {p : PointId}

/-! ### Points and service (chapter 1) -/

/-- A configuration record of a point out of the list leaves the deferred list legal. -/
theorem DeferredLegal.congr {cfg cfg' : PointId → PointConfig} {alarm : PointId → AlarmState} {l : List PointId}
    (h : DeferredLegal cfg alarm l) (same : ∀ q ∈ l, cfg' q = cfg q) : DeferredLegal cfg' alarm l where
  mem := h.mem
  nodup := h.nodup
  order := h.order.imp_of_mem fun {x y} hx hy le => by rwa [same x hx, same y hy]
  general := h.general

/-- The host raw condition is no part of what the picture asks of a point. -/
theorem PointLegal.setHostRaw {c : PointConfig} {v : Service} {a : AlarmState} {f : Filter} (h : PointLegal c v a f) (b : Bool) :
    PointLegal c v a { f with hostRaw := b } where
  service := h.service
  kind := h.kind
  stopped out :=
    let k := h.stopped out
    ⟨k.raw, k.qualified, k.onTimer, k.offTimer, k.frozen⟩
  settled := ⟨h.settled.onTimer, h.settled.offTimer⟩
  qualified := h.qualified

/-- A point out of service may have any configuration record (R6). -/
theorem PointLegal.setConfig {c c' : PointConfig} {v : Service} {f : Filter} (h : PointLegal c v .outOfService f) :
    PointLegal c' v .outOfService f where
  service := h.service
  kind := Kind.allows_outOfService _
  stopped := h.stopped
  settled := h.settled
  qualified := by simp [AlarmState.qualified]

theorem State.writeConfig_cfg (s : State) (p : PointId) (c : PointConfig) : (s.writeConfig p c).cfg = update s.cfg p c := by
  funext q
  rcases eq_or_ne q p with rfl | ne
  · simp [State.cfg, State.writeConfig]
  · simp only [State.cfg, State.writeConfig, Table.getElem_put_ne _ _ ne.symm, Function.update_of_ne ne]

/-- WRITE POINT keeps the picture (R6). -/
theorem State.PictureParts.writeConfig (h : s.PictureParts) (out : s.alarmOf p = .outOfService) (c : PointConfig) :
    (s.writeConfig p c).PictureParts := by
  have cfg := s.writeConfig_cfg p c
  have filter : (s.writeConfig p c).filterOf =
      update s.filterOf p { s.filterOf p with hostRaw := c.source == .host && (s.filterOf p).hostRaw } :=
    s.setFilter_filterOf p _
  have other : ∀ {q}, q ≠ p → (s.writeConfig p c).cfg q = s.cfg q := fun ne => by rw [cfg, Function.update_of_ne ne]
  have absent : ∀ r ∈ s.roster, r.point ≠ p := h.roster.absent (by rw [out]; rfl)
  constructor
  constructor
  · intro q
    show PointLegal ((s.writeConfig p c).cfg q) s.service[q] (s.alarmOf q) _
    rw [cfg, filter]
    rcases eq_or_ne q p with rfl | ne
    · have legal := h.points q
      rw [out] at legal ⊢
      simpa using (legal.setHostRaw _).setConfig
    · simpa [ne] using h.points q
  · exact h.roster.congr (fun r hr => other (absent r hr)) (fun _ _ => rfl) fun _ => id
  · refine h.deferred.congr fun q hq => other ?_
    rintro rfl
    exact absurd ((h.deferred.mem q).mp hq) (by simp [out])
  · exact h.shelves
  · exact h.slots.congr fun r hr => other (absent r hr)
  · refine h.quiet.mono (fun q loud => ⟨other ?_, loud⟩) fun _ => id
    rintro rfl
    simp [out, AlarmState.disturbs] at loud
  · exact h.full

/-- A re-derivation of the faulted-line set leaves the picture as it is (R29). -/
theorem State.SamePicture.rederiveFaulted (s : State) : State.SamePicture s s.rederiveFaulted := by
  unfold State.rederiveFaulted
  dsimp only
  split
  · exact .refl s
  · constructor <;> rfl

/-- A hand-over from a line keeps the picture (R27, R28). -/
theorem State.PictureParts.takeLine (h : s.PictureParts) (p : PointId) (c : Classification) :
    (s.takeLine p c).PictureParts := by
  have freeze : s.inService p = true → ∀ v, (s.setFilter p { s.filterOf p with frozen := v }).PictureParts := by
    intro service v
    have point := h.points p
    refine h.setFilter ⟨point.service, point.kind, fun out => ?_, ⟨point.settled.onTimer, point.settled.offTimer⟩,
      point.qualified⟩
    simp [State.inService_iff.mp service] at out
  unfold State.takeLine
  split
  · exact h
  · rename_i service
    have service : s.inService p = true := by simpa using service
    split
    · exact freeze service _
    · exact (freeze service _).takeRaw p _

/-- A point that takes its source's condition keeps the picture (R33). -/
theorem State.PictureParts.takeSource (h : s.PictureParts) (p : PointId) : (s.takeSource p).PictureParts := by
  unfold State.takeSource
  split
  · exact h.takeLine p _
  · exact h.takeRaw p _
  · split
    · exact h.takeRaw _ _
    · split
      · exact keepsPicture_handOverflow s h
      · exact h

theorem State.PictureParts.serviceChanged (h : s.PictureParts) (p : PointId) : (s.serviceChanged p).PictureParts := by
  unfold State.serviceChanged
  split
  · exact ((State.SamePicture.rederiveFaulted s).parts h).takeRaw _ _
  · exact h
  · exact h

/-- A classification change keeps the picture (R27, R29, R35). -/
theorem State.PictureParts.linesChanged (h : s.PictureParts) (ns : List LineId) : (s.linesChanged ns).PictureParts := by
  have derived := (State.SamePicture.rederiveFaulted s).parts h
  exact State.takeAll_induct (P := State.PictureParts) ((State.Apart.setFreeCount _ _).parts derived)
    fun p _ u hu => hu.takeSource p

/-- A change of the line records and the threshold sets alone leaves the picture as it is. -/
theorem State.SamePicture.setLines (s : State) (l : Table LineRecord 32) (k : Table ThresholdSet 4) :
    State.SamePicture s { s with lines := l, thresholds := k } := ⟨rfl, rfl, rfl, rfl, rfl, rfl, rfl, rfl, rfl, rfl⟩

theorem State.setService_serviceOf (s : State) (p q : PointId) (v : Service) :
    (s.setService p v).service[q] = if p = q then v else s.service[q] := Table.getElem_put s.service p q v

/-- What a qualification that starts afresh, or has stopped, asks of a point (R10, R33). -/
theorem Filter.restart_stopped (f : Filter) : f.restart.Stopped := ⟨rfl, rfl, rfl, rfl, rfl⟩

theorem Filter.Stopped.settled {f : Filter} (h : f.Stopped) : f.Settled := ⟨by simp [h.onTimer], by simp [h.offTimer]⟩

/-- Bringing a point into service keeps the picture (R9). -/
theorem State.PictureParts.bringIn (h : s.PictureParts) (out : s.service[p] = .outService) : (s.bringIn p).PictureParts := by
  have old : s.alarmOf p = .outOfService := (h.points p).service.mp out
  have start : ((((s.setService p .inService).setAlarm p .normal)).stopQualification p).PictureParts := by
    refine ⟨.ofAlarm ((s.setService p .inService).setAlarm_alarmOf p .normal) (fun q => ?_)
      (h.roster.turn (p := p) (by rw [old]; rfl) rfl) (h.deferred.turn (p := p) (by simp [old]) (by simp))
      (h.shelves.turn (p := p) (by simp [old]) (by simp)) h.slots (h.quiet.turn fun loud => ?_), h.full⟩
    · unfold State.stopQualification
      rw [State.setFilter_filterOf]
      show PointLegal (s.cfg q) ((s.setService p .inService).service[q]) (update s.alarmOf p .normal q)
        (update s.filterOf p (s.filterOf p).restart q)
      rw [State.setService_serviceOf]
      rcases eq_or_ne q p with rfl | ne
      · have stopped := (s.filterOf q).restart_stopped
        simpa using PointLegal.ofInService (c := s.cfg q) rfl (a := .normal) (by simp) (Kind.allows_normal _)
          stopped.settled (by simpa [AlarmState.qualified] using fun _ => stopped.qualified)
      · simpa [ne, ne.symm] using h.points q
    · exact absurd loud (by rw [old]; simp [AlarmState.disturbs])
  exact (start.takeSource p).serviceChanged p

/-- Taking a point out of service keeps the picture (R10). -/
theorem State.PictureParts.takeOut (h : s.PictureParts) (p : PointId) : (s.takeOut p).PictureParts := by
  suffices turn : State.Turns ((({ s with shelves := s.shelves.filter fun e => e.point != p } : State).setService p
      .outService).stopQualification p) p .outOfService from (turn.leavePicture h.deferred h.full rfl).serviceChanged p
  refine ⟨fun q => ?_, h.roster, h.shelves.remove (by simp), h.slots, h.quiet⟩
  unfold State.stopQualification
  rw [State.setFilter_filterOf]
  show PointLegal (s.cfg q) ((s.setService p .outService).service[q]) (update s.alarmOf p .outOfService q)
    (update s.filterOf p (s.filterOf p).restart q)
  rw [State.setService_serviceOf]
  rcases eq_or_ne q p with rfl | ne
  · have stopped := (s.filterOf q).restart_stopped
    have : PointLegal (s.cfg q) .outService .outOfService (s.filterOf q).restart :=
      ⟨by simp, Kind.allows_outOfService _, fun _ => stopped, stopped.settled, by simp [AlarmState.qualified]⟩
    simpa using this
  · simpa [ne, ne.symm] using h.points q

/-! ### Host conditions (R30) -/

theorem State.PictureParts.hostCondition (h : s.PictureParts) (point : Byte) (v : Bool) :
    (s.hostCondition point v).1.PictureParts := by
  unfold State.hostCondition
  split
  · exact h
  · rename_i p _
    split
    · exact h
    · split
      · exact h
      · exact (h.setFilter ((h.points p).setHostRaw v)).takeRaw p v

/-! ### Groups (R89, R90) -/

/-- An emptied slot keeps the picture, and stays empty (R88). -/
theorem State.PictureParts.emptySlot (h : s.PictureParts) (g : GroupId) :
    (s.emptySlot g).PictureParts ∧ ((s.emptySlot g).groupOf g).slot = none := by
  unfold State.emptySlot
  split
  · rename_i p slot
    have groups := s.setGroup_groupOf g { s.groups[g] with slot := none }
    refine ⟨⟨⟨h.points, h.roster.mark false, h.deferred, h.shelves, ?_, ?_⟩, h.full⟩, ?_⟩
    · show SlotsLegal s.cfg _ (s.setGroup _ _).groupOf
      rw [groups]
      exact h.slots.clear slot rfl
    · show QuietArmed s.cfg s.alarmOf (s.setGroup _ _).groupOf
      rw [groups]
      refine h.quiet.mono (fun _ loud => ⟨rfl, loud⟩) fun k armed => ?_
      rcases eq_or_ne k g with rfl | ne
      · rw [Function.update_self]
        exact armed
      · rwa [Function.update_of_ne ne]
    · show ((s.setGroup _ _).groupOf g).slot = none
      rw [groups, Function.update_self]
  · exact ⟨h, ‹_›⟩

/-- A group whose slot is empty may be enabled, disabled or armed, so long as it is armed when quiet (R85, R89, R90). -/
theorem State.PictureParts.setGroup (h : s.PictureParts) {g : GroupId} {r : GroupRecord} (free : (s.groupOf g).slot = none)
    (empty : r.slot = none) (armed : s.quiet g = true → r.armed = true) : (s.setGroup g r).PictureParts := by
  have groups := s.setGroup_groupOf g r
  refine ⟨⟨h.points, h.roster, h.deferred, h.shelves, ?_, ?_⟩, h.full⟩
  · rw [groups]
    exact h.slots.setEmpty free empty
  · rw [groups]
    intro k members
    rcases eq_or_ne k g with rfl | ne
    · simpa using armed ((s.quiet_iff k).mpr members)
    · rw [Function.update_of_ne ne]
      exact h.quiet k members

theorem State.PictureParts.armed_of_quiet (h : s.PictureParts) {g : GroupId} (quiet : s.quiet g = true) :
    (s.groupOf g).armed = true := h.quiet g ((s.quiet_iff g).mp quiet)

theorem State.PictureParts.ownWriteGroup (h : s.PictureParts) (group enabled : Byte) :
    (ownWriteGroup group enabled s).1.PictureParts := by
  unfold Machine.ownWriteGroup
  split
  · rename_i g v _ _
    split
    · exact h
    · rename_i changes
      split
      · rename_i on
        refine h.setGroup ?_ ?_ id <;>
        · by_contra some
          exact changes ((h.slots.holder g some).1.trans on.symm)
      · obtain ⟨emptied, free⟩ := h.emptySlot g
        exact emptied.setGroup free free emptied.armed_of_quiet
  · exact h

theorem State.PictureParts.ownClearFirstOut (h : s.PictureParts) (group : Byte) :
    (ownClearFirstOut group s).1.PictureParts := by
  unfold Machine.ownClearFirstOut
  split
  · exact h
  · rename_i g _
    obtain ⟨emptied, free⟩ := h.emptySlot g
    show ((s.emptySlot g).armIfQuiet g).PictureParts
    unfold State.armIfQuiet
    split
    · exact emptied.setGroup free free fun _ => rfl
    · exact emptied

/-! ### Shelves (R94 to R99) -/

/-- A point's entry put in its place for the state SHELVED, replacing the one it has (R95 to R97). -/
theorem ShelvesLegal.put {alarm : PointId → AlarmState} {l : List ShelveEntry} {t : Nat} (h : ShelvesLegal alarm l)
    (general : isGeneral p = true) (places : (l.filter fun e => e.point != p).length < Config.shelvePlaces) :
    ShelvesLegal (update alarm p .shelved) (insertShelve ⟨p, t⟩ (l.filter fun e => e.point != p)) := by
  have := (h.remove (p := p) (a := .normal) (by simp)).insert (p := p) (t := t)
    (fun e he => by simpa using (List.mem_filter.mp he).2) general places
  simpa using this

theorem State.PictureParts.ownShelve (h : s.PictureParts) (point : Byte) (minutes : Half) :
    (ownShelve point minutes s).1.PictureParts := by
  unfold Machine.ownShelve
  split
  · exact h
  · rename_i p _
    split
    · exact h
    · split
      · exact h
      · rename_i external
        have general : isGeneral p = true := by simpa [isInternal, isGeneral] using external
        split
        · exact h
        · rename_i service
          split
          · rename_i shelved
            obtain ⟨e, he, point⟩ := (h.shelves.mem p).mpr shelved
            have fewer : (s.withoutShelve p).length < Config.shelvePlaces :=
              (List.length_filter_lt_length_iff_exists.mpr ⟨e, he, by simp [point]⟩).trans_le h.shelves.places
            have put := h.shelves.put (t := shelveTime minutes) general fewer
            rw [Function.update_eq_self_iff.mpr shelved.symm] at put
            exact ⟨⟨h.points, h.roster, h.deferred, put, h.slots, h.quiet⟩, h.full⟩
          · split
            · exact h
            · rename_i places
              have fewer : (s.withoutShelve p).length < Config.shelvePlaces :=
                (List.length_filter_le _ _).trans_lt (Nat.lt_of_not_le places)
              have turn : (s.putShelve p minutes).Turns p .shelved := by
                refine ⟨fun q => ?_, h.roster, h.shelves.put general fewer, h.slots, h.quiet⟩
                show PointLegal (s.cfg q) s.service[q] (update s.alarmOf p .shelved q) (s.filterOf q)
                rcases eq_or_ne q p with rfl | ne
                · have point := h.points q
                  have inService : s.service[q] = .inService := by
                    cases hv : s.service[q] with
                    | inService => rfl
                    | outService => exact absurd (point.service.mp hv) service
                  simpa using PointLegal.ofInService (a := .shelved) inService (by simp) (Kind.allows_shelved _)
                    point.settled (by simp [AlarmState.qualified])
                · simpa [ne] using h.points q
              exact turn.leavePicture h.deferred h.full rfl

/-- The end of a shelve keeps the picture (R55, R98, R99). -/
theorem State.PictureParts.unshelvePoint (h : s.PictureParts) (shelved : s.alarmOf p = .shelved) :
    (s.unshelvePoint p).PictureParts := by
  have point := h.points p
  have alarm : (({ s with shelves := s.withoutShelve p } : State).setAlarm p .normal).alarmOf = update s.alarmOf p .normal :=
    State.setAlarm_alarmOf { s with shelves := s.withoutShelve p } p .normal
  have legal : ∀ {a : AlarmState}, a ≠ .outOfService → (s.cfg p).kind.allows a = true →
      (∀ x, (s.cfg p).kind ≠ .pulse → a.qualified = some x → (s.filterOf p).qualified = x) →
      ∀ q, PointLegal (s.cfg q) s.service[q] (update s.alarmOf p a q) (s.filterOf q) := by
    intro a out kind qualified q
    rcases eq_or_ne q p with rfl | ne
    · have service : s.service[q] = .inService := by
        cases hv : s.service[q] with
        | inService => rfl
        | outService =>
          have := point.service.mp hv
          simp [shelved] at this
      simpa using PointLegal.ofInService service out kind point.settled qualified
    · simpa [ne] using h.points q
  have roster := h.roster.turn (p := p) (a := .normal) (by rw [shelved]; rfl) rfl
  have deferred := h.deferred.turn (p := p) (a := .normal) (by simp [shelved]) (by simp)
  have quiet := h.quiet.turn (p := p) (a := .normal) (by simp [shelved, AlarmState.disturbs])
  unfold State.unshelvePoint State.endShelve
  dsimp only
  split
  · rename_i standing
    have turn : ∀ {a : AlarmState}, a ≠ .outOfService → a ≠ .shelved → (s.cfg p).kind.allows a = true →
        a.qualified = some true → (({ s with shelves := s.withoutShelve p } : State).setAlarm p .normal).Turns p a := by
      intro a out new kind present
      refine ⟨?_, ?_, ?_, h.slots, ?_⟩
      · rw [alarm, Function.update_idem]
        exact legal out kind fun x _ eq => standing.2.trans (Option.some.inj (present.symm.trans eq))
      · rw [alarm]
        exact roster
      · rw [alarm, Function.update_idem]
        exact h.shelves.remove new
      · rw [alarm]
        exact quiet
    have rises : (({ s with shelves := s.withoutShelve p } : State).setAlarm p .normal).rise p =
        (({ s with shelves := s.withoutShelve p } : State).setAlarm p .normal).requestAdmission State.handOverflow p := by
      unfold State.rise State.riseWith
      simp
    rw [rises]
    refine (turn (by simp) (by simp) (Kind.allows_alert _) rfl).requestAdmission
      (turn (by simp) (by simp) (Kind.allows_deferred _) rfl) keepsPicture_handOverflow (by simp) ?_ h.full
    rw [alarm]
    exact deferred
  · rename_i settled
    refine ⟨.ofAlarm alarm (legal (by simp) (Kind.allows_normal _) fun x kind eq => ?_) roster deferred
      (h.shelves.remove (by simp)) h.slots quiet, h.full⟩
    obtain rfl : false = x := Option.some.inj eq
    have absent : ¬ (s.filterOf p).qualified = true := fun standing => settled ⟨kind, standing⟩
    simpa using absent

theorem State.PictureParts.ownUnshelve (h : s.PictureParts) (point : Byte) : (ownUnshelve point s).1.PictureParts := by
  unfold Machine.ownUnshelve
  split
  · exact h
  · split
    · exact h.unshelvePoint ‹_›
    · exact h

theorem State.PictureParts.expireShelve (h : s.PictureParts) (p : PointId) : (s.expireShelve p).PictureParts := by
  unfold State.expireShelve
  split
  · rename_i entry
    have shelved : s.alarmOf p = .shelved := (h.shelves.mem p).mp (by simpa using entry)
    exact (State.SamePicture.raise _ _).parts (h.unshelvePoint shelved)
  · exact h

/-! ### Writes on records (R64, R103, R107, R156) -/

/-- A silenced record is legal with a timer or without (R103). -/
theorem RecordLegal.silence {r : RosterRecord} (h : RecordLegal r) (unacked : r.unacked = true) (t : Option Nat) :
    RecordLegal { r with silenced := true, reannounce := t } :=
  ⟨h.stamp, h.recurrence, h.age, h.acknowledged, fun _ => unacked, fun _ => rfl⟩

theorem RecordLegal.reannounced {r : RosterRecord} (h : RecordLegal r) : RecordLegal r.reannounced :=
  ⟨h.stamp, h.recurrence, h.age, h.acknowledged, by simp [RosterRecord.reannounced], by simp [RosterRecord.reannounced]⟩

theorem RecordLegal.sound {r : RosterRecord} (h : RecordLegal r) (v : Bool) : RecordLegal { r with sounded := v } :=
  ⟨h.stamp, h.recurrence, h.age, h.acknowledged, h.silenced, h.reannounce⟩

theorem RecordLegal.older {r : RosterRecord} (h : RecordLegal r) : RecordLegal r.older :=
  ⟨h.stamp, h.recurrence, Nat.min_le_right _ _, h.acknowledged, h.silenced, h.reannounce⟩

theorem RecordLegal.count {r : RosterRecord} (h : RecordLegal r) : RecordLegal r.count :=
  ⟨h.stamp, h.recurrence, h.age, h.acknowledged, h.silenced, by simpa [RosterRecord.count, countDown] using h.reannounce⟩

/-- Some of the records rewritten in place, by a write that leaves point, stamp, state and mark as they are. -/
theorem State.PictureParts.rewriteSome (h : s.PictureParts) (sel : RosterRecord → Prop) [DecidablePred sel]
    (f : RosterRecord → RosterRecord)
    (keeps : ∀ r, (f r).point = r.point ∧ (f r).stamp = r.stamp ∧ (f r).state = r.state ∧ (f r).firstOut = r.firstOut)
    (legal : ∀ r, RecordLegal r → sel r → RecordLegal (f r)) :
    (s.setRoster (s.roster.map fun r => if sel r then f r else r)).PictureParts := by
  have kept : ∀ r, (if sel r then f r else r).point = r.point ∧ (if sel r then f r else r).stamp = r.stamp ∧
      (if sel r then f r else r).state = r.state ∧ (if sel r then f r else r).firstOut = r.firstOut := by
    intro r
    split
    · exact keeps r
    · exact ⟨rfl, rfl, rfl, rfl⟩
  refine h.rewriteRecords _ (fun r => ?_) (fun r => ?_) (fun r => ?_) (fun r => ?_) fun r hr => ?_
  iterate 4
    obtain ⟨point, stamp, state, firstOut⟩ := kept r
    assumption
  · split
    · exact legal r (h.roster.records r hr) ‹_›
    · exact h.roster.records r hr

theorem State.PictureParts.silenceAll (h : s.PictureParts) : s.silenceAll.PictureParts :=
  (State.SoundFrame.compareSince _ s).samePicture.parts
    (h.rewriteSome (fun r => r.unacked = true)
      (fun r => { r with silenced := true, reannounce := silenceTimer s.classInterval[s.classOf r] })
      (fun _ => ⟨rfl, rfl, rfl, rfl⟩) fun _ legal unacked => legal.silence unacked _)

theorem State.PictureParts.expireReannounce (h : s.PictureParts) (p : PointId) (st : Stamp) :
    (s.expireReannounce p st).PictureParts := by
  unfold State.expireReannounce
  split
  · split
    · exact ((State.SoundFrame.renewRecord _ p).trans (.compareSince _ s)).samePicture.parts
        (h.rewriteSome (fun r => r.point = p ∧ r.stamp = st) RosterRecord.reannounced (fun _ => ⟨rfl, rfl, rfl, rfl⟩)
          fun _ legal _ => legal.reannounced)
    · exact h
  · exact h

theorem State.PictureParts.age (h : s.PictureParts) (p : PointId) : (s.modifyRecord p RosterRecord.older).PictureParts :=
  h.rewriteSome (fun r => r.point = p) RosterRecord.older (fun _ => ⟨rfl, rfl, rfl, rfl⟩) fun _ legal _ => legal.older

theorem State.PictureParts.endStep (h : s.PictureParts) (c : Chan) : (s.endStep c).PictureParts := by
  rcases s.endStep_sound c with sound | ⟨o, sound⟩
  · exact sound.samePicture.parts h
  · refine sound.samePicture.parts ?_
    cases o with
    | record p st =>
      exact h.rewriteSome (fun r => r.point = p ∧ r.stamp = st) _ (fun _ => ⟨rfl, rfl, rfl, rfl⟩)
        fun _ legal _ => legal.sound true
    | test => exact (State.Apart.setTestSounded s _).parts h

/-! ### Keys (R110 to R113) -/

theorem State.PictureParts.expireDebounce (h : s.PictureParts) (k : Key) : (s.expireDebounce k).PictureParts := by
  unfold State.expireDebounce
  dsimp only
  split
  · exact h
  · have keys := (State.Apart.setKeys s (s.keys.put k { s.keys.get k with pressed := !(s.keys.get k).pressed, timer := none })).parts h
    split
    · unfold State.release
      split
      · exact (State.Apart.setTests _ _ _).parts keys
      · exact keys
    · unfold State.press
      split
      · refine (State.SamePicture.raise _ _).parts ?_
        cases k with
        | kack => exact keys.acknowledgeAll .panel _
        | ksil => exact keys.silenceAll
        | krst => exact keys.resetEvery
        | ktst => exact (State.Apart.setTests _ _ _).parts keys
      · exact keys

/-! ### The resets (R4, R57, R180) -/

theorem State.reset_pictureLegal : State.reset.PictureLegal := by constructor <;> decide +kernel

theorem State.PictureParts.powerOn (s : State) : s.powerOn.PictureParts :=
  (State.Apart.update State.reset _ _ _ _ _ _ _ _ _ _ _ _ _ _ _).parts State.reset_pictureLegal.parts

/-- The blocks as RESTART sets them back: every in-service point in NORMAL, and nothing standing (R57). -/
theorem State.PictureParts.restartBlocks (h : s.PictureParts) : s.restartBlocks.PictureParts := by
  have normal : ∀ p, s.service[p] = .inService → s.restartBlocks.alarmOf p = .normal := fun p hv => by
    simp [State.alarmOf, State.restartBlocks, show s.service[p.val] = .inService from hv]
  have outside : ∀ p, s.service[p] = .outService → s.restartBlocks.alarmOf p = .outOfService := fun p hv => by
    simp [State.alarmOf, State.restartBlocks, show s.service[p.val] = .outService from hv]
  have filter : ∀ p, s.restartBlocks.filterOf p = .start := by
    intro p
    simp [State.filterOf, State.restartBlocks]
  have group : ∀ g, s.restartBlocks.groupOf g = { s.groupOf g with slot := none, armed := true } := by
    intro g
    simp [State.groupOf, State.restartBlocks]
  have out : ∀ p, s.restartBlocks.alarmOf p = .normal ∨ s.restartBlocks.alarmOf p = .outOfService := by
    intro p
    cases hv : s.service[p] with
    | inService => exact .inl (normal p hv)
    | outService => exact .inr (outside p hv)
  refine ⟨⟨fun p => ?_, ?_, ?_, ?_, ?_, ?_⟩, fun some => absurd rfl some⟩
  · have stopped : Filter.start.Stopped := ⟨rfl, rfl, rfl, rfl, rfl⟩
    show PointLegal (s.cfg p) s.service[p] _ _
    rw [filter]
    cases hv : s.service[p] with
    | inService =>
      rw [normal p hv]
      exact .ofInService rfl (by simp) (Kind.allows_normal _) stopped.settled (by simp [AlarmState.qualified, Filter.start])
    | outService =>
      rw [outside p hv]
      exact ⟨by simp, Kind.allows_outOfService _, fun _ => stopped, stopped.settled, by simp [AlarmState.qualified]⟩
  · refine ⟨by simp [State.restartBlocks], by simp [State.restartBlocks], fun p held => ?_, .nil, .nil, h.roster.counter, .nil,
      rfl, by simp [State.restartBlocks]⟩
    rcases out p with k | k <;> simp [k, AlarmState.holdsRecord] at held
  · refine ⟨fun p => ?_, .nil, .nil, by simp [State.restartBlocks]⟩
    show p ∈ [] ↔ s.restartBlocks.alarmOf p = .deferred
    rcases out p with k | k <;> simp [k]
  · refine ⟨fun p => ?_, .nil, .nil, by simp [State.restartBlocks], by simp [State.restartBlocks]⟩
    show (∃ e ∈ ([] : List ShelveEntry), e.point = p) ↔ s.restartBlocks.alarmOf p = .shelved
    rcases out p with k | k <;> simp [k]
  · exact ⟨by simp [State.restartBlocks], by simp [group], by simp [group]⟩
  · intro g _
    simp [group]

theorem State.PictureParts.restartAll (h : s.PictureParts) : s.restartAll.PictureParts :=
  State.takeAll_induct (P := State.PictureParts) ((State.Apart.setFreeCount _ _).parts h.restartBlocks)
    fun p _ _ hu => hu.takeSource p

/-! ### The passing of time (R28, R38, R64, R95) -/

theorem Filter.count_settled {f : Filter} (h : f.Settled) : f.count.Settled := by
  unfold Filter.count
  split
  · exact h
  · exact ⟨by simpa [countDown] using h.onTimer, by simpa [countDown] using h.offTimer⟩

theorem Filter.count_stopped {f : Filter} (h : f.Stopped) : f.count.Stopped := by
  unfold Filter.count
  split
  · exact h
  · exact ⟨h.raw, h.qualified, by simp [h.onTimer, countDown], by simp [h.offTimer, countDown], h.frozen⟩

theorem Filter.count_qualified (f : Filter) : f.count.qualified = f.qualified := by
  unfold Filter.count
  split <;> rfl

/-- One period on every timer keeps the picture. -/
theorem State.PictureParts.countAll (h : s.PictureParts) : s.countAll.PictureParts := by
  refine ⟨⟨fun p => ?_, ?_, h.deferred, ?_, ?_, h.quiet⟩, h.full⟩
  · have filter : s.countAll.filterOf p = (s.filterOf p).count := by simp [State.filterOf, State.countAll]
    rw [filter]
    have point := h.points p
    exact ⟨point.service, point.kind, fun out => Filter.count_stopped (point.stopped out), Filter.count_settled point.settled,
      fun x kind eq => (Filter.count_qualified _).trans (point.qualified x kind eq)⟩
  · exact h.roster.map RosterRecord.count (fun _ => rfl) (fun _ => rfl) (fun _ _ => rfl)
      (fun r hr => (h.roster.records r hr).count) h.roster.mirror fun _ => id
  · refine ⟨fun p => ?_, ?_, ?_, ?_, ?_⟩
    · show _ ↔ s.alarmOf p = .shelved
      rw [← h.shelves.mem p]
      simp [State.countAll]
    · simpa [State.countAll, Function.comp_def] using h.shelves.nodup
    · simp only [State.countAll, List.pairwise_map]
      exact h.shelves.order.imp fun le => Nat.sub_le_sub_right le 1
    · simpa [State.countAll] using h.shelves.general
    · simpa [State.countAll] using h.shelves.places
  · exact h.slots.map RosterRecord.count (fun _ => rfl) (fun _ => rfl) fun _ _ => rfl

/-- Every expiry keeps the picture. -/
theorem State.PictureParts.takeDue (h : s.PictureParts) (d : Due) : (s.takeDue d).PictureParts := by
  unfold State.takeDue
  split
  · cases d with
    | onDelay p => exact h.expireOnDelay p
    | offDelay p => exact h.expireOffDelay p
    | shelve =>
      unfold State.expire
      dsimp only
      split
      · exact h.expireShelve _
      · exact h
    | reannounce p st => exact h.expireReannounce p st
    | age p => exact h.age p
    | debounce k => exact h.expireDebounce k
    | panelTest => exact (State.Apart.setTests s _ _).parts h
    | hostTest => exact (State.Apart.setTests s _ _).parts h
    | stepEnd c => exact h.endStep c
    | editIdle => exact (State.Apart.expireEdit s).parts h
    | linkReset => exact (State.Apart.expireLink s).parts h
  · exact h

theorem State.PictureParts.tick (h : s.PictureParts) : s.tick.PictureParts :=
  State.takeAll_induct (P := State.PictureParts) ((State.Apart.setFreeCount _ _).parts h.countAll)
    fun d _ _ hu => hu.takeDue d

/-! ### The step -/

/-- Every owner keeps the picture. -/
theorem State.PictureParts.ownerTakes (h : s.PictureParts) (c : Instr) : (ownerTakes c s).1.PictureParts := by
  by_cases read : isRead c = true
  · rw [ownerTakes_read c s read]
    exact h
  by_cases apart : isApart c = true
  · exact (ownerTakes_apart c s apart).parts h
  cases c
  case writePoint b rec =>
    show (ownWritePoint b rec s).1.PictureParts
    unfold ownWritePoint
    split
    · exact h
    · split
      · exact h
      · rename_i out
        split
        · exact h
        · split
          · exact h.writeConfig (by simpa using out) _
          · exact h
  case setServiceIn b =>
    show (ownSetServiceIn b s).1.PictureParts
    unfold ownSetServiceIn
    split
    · exact h
    · rename_i p _
      split
      · exact h
      · rename_i out
        refine h.bringIn ?_
        cases hv : s.service[p] with
        | inService => exact absurd (State.inService_iff.mpr hv) out
        | outService => rfl
  case setServiceOut b =>
    show (ownSetServiceOut b s).1.PictureParts
    unfold ownSetServiceOut
    split
    · exact h
    · split
      · exact h.takeOut _
      · exact h
  case writeClass n i =>
    show (ownWriteClass n i s).1.PictureParts
    unfold ownWriteClass
    split
    · exact h
    · split
      · exact h
      · exact State.SamePicture.parts (s := s) ⟨rfl, rfl, rfl, rfl, rfl, rfl, rfl, rfl, rfl, rfl⟩ h
  case writeLine n m q k =>
    show (ownWriteLine n m q k s).1.PictureParts
    unfold ownWriteLine
    split
    · dsimp only
      split
      · exact h
      · exact ((State.SamePicture.setLines s _ s.thresholds).parts h).linesChanged _
    · exact h
  case writeThresholds k x a o =>
    show (ownWriteThresholds k x a o s).1.PictureParts
    unfold ownWriteThresholds
    split
    · exact h
    · split
      · exact h
      · split
        · exact h
        · exact ((State.SamePicture.setLines s _ _).parts h).linesChanged _
  case assertPoint b => exact h.hostCondition b true
  case releasePoint b => exact h.hostCondition b false
  case ack b e st =>
    show (ownAck b e st s).1.PictureParts
    unfold ownAck
    split
    · split
      · split <;> exact h
      · split
        · exact h
        · split
          · exact h.acknowledgeWith keepsPicture_handOverflow _ _
          · exact h
    · exact h
  case ackGroup g =>
    show (ownAckGroup g s).1.PictureParts
    unfold ownAckGroup
    split
    · exact h
    · exact h.acknowledgeAll _ _
  case ackAll => exact h.acknowledgeAll _ _
  case reset b =>
    show (ownReset b s).1.PictureParts
    unfold ownReset
    split
    · exact h
    · split
      · exact h.resetPoint keepsPicture_handOverflow ‹_›
      · exact h
  case resetAll => exact h.resetEvery
  case writeGroup g v => exact h.ownWriteGroup g v
  case clearFirstOut g => exact h.ownClearFirstOut g
  case shelve b m => exact h.ownShelve b m
  case unshelve b => exact h.ownUnshelve b
  case silence => exact h.silenceAll
  case writeTones n l =>
    show (ownWriteTones n l s).1.PictureParts
    unfold ownWriteTones
    split
    · exact h
    · split
      · exact h
      · exact State.SamePicture.parts (s := s) ⟨rfl, rfl, rfl, rfl, rfl, rfl, rfl, rfl, rfl, rfl⟩ h
  case restart => exact h.restartAll
  all_goals first | exact absurd rfl read | exact absurd rfl apart | exact h

/-- A completion leaves the state that the owner of its command leaves, or the state it found, apart from the link and the
answer (R170, R174). -/
theorem execCommandCompletion_cases (marked : Bool) {s t : State} (run : exec (.commandCompletion marked) s = .next t) :
    State.Apart s t ∨ ∃ c, State.Apart (ownerTakes c s).1 t := by
  obtain rfl := Host.Outcome.next.inj run
  split
  · unfold State.completeMarked
    split
    · exact .inl (.refl s)
    · split
      · exact .inr ⟨_, .setAnswer _ _ _⟩
      · exact .inl (.setLink s _)
      · exact .inl (.setLink s _)
  · unfold State.completeInFlight
    split
    · exact .inl (.refl s)
    · split
      · exact .inl (.setLink s _)
      · split
        · exact .inl (.refl s)
        · exact .inl (.setLink s _)
      · dsimp only
        split
        · exact .inr ⟨_, .setAnswer _ _ _⟩
        · exact .inr ⟨_, .setAnswer _ _ _⟩

/-- Every command keeps the picture. -/
theorem State.PictureParts.exec {t : State} (h : s.PictureParts) (c : Instr) (run : exec c s = .next t) : t.PictureParts := by
  by_cases host : isHostCommand c = true
  · rw [exec_host c s host] at run
    obtain rfl := Host.Outcome.next.inj run
    exact (Reply.apart_handOver _ c).parts (h.ownerTakes c)
  by_cases apart : isApartEvent c = true
  · exact (exec_apart c apart run).parts h
  cases c
  case commandCompletion marked =>
    rcases execCommandCompletion_cases marked run with apart | ⟨c, apart⟩
    · exact apart.parts h
    · exact apart.parts (h.ownerTakes c)
  case powerOnReset => exact Host.Outcome.next.inj run ▸ .powerOn s
  case lineSample n level =>
    obtain rfl := Host.Outcome.next.inj run
    show (s.sampleLine n level).PictureParts
    unfold State.sampleLine
    dsimp only
    split
    · exact ((State.SamePicture.setLines s _ s.thresholds).parts h).linesChanged _
    · exact (State.SamePicture.setLines s _ s.thresholds).parts h
  case onDelayExpiry p => exact Host.Outcome.next.inj run ▸ h.expireOnDelay p
  case offDelayExpiry p => exact Host.Outcome.next.inj run ▸ h.expireOffDelay p
  case shelveExpiry p => exact Host.Outcome.next.inj run ▸ h.expireShelve p
  case reannounceExpiry p st => exact Host.Outcome.next.inj run ▸ h.expireReannounce p st
  case debounceExpiry k => exact Host.Outcome.next.inj run ▸ h.expireDebounce k
  case stepEnd c => exact Host.Outcome.next.inj run ▸ h.endStep c
  case ageIncrement p => exact Host.Outcome.next.inj run ▸ h.age p
  all_goals first | exact absurd rfl host | exact absurd rfl apart

/-- Settles O57: every step keeps each part of the alarm picture. -/
theorem stepKeepsPictureLegal : Obligations.StepKeepsPictureLegal := by
  intro s t _ legal run
  refine State.PictureParts.legal ?_
  unfold step at run
  split at run
  · exact ((State.Apart.setPending s _).parts legal.parts).exec _ run
  · exact Host.Outcome.next.inj run ▸ legal.parts.tick

end Sys2Proof.Machine

namespace Sys2Proof.Machine

set_option Elab.async false

/-! ## The ranges of the configuration (R2, R3, R14, R18, R129) -/

variable {s t : State} {p : PointId}

/-- Nothing that the ranges of the configuration read has changed. -/
structure State.SameSettings (s t : State) : Prop where
  config : t.config = s.config
  classInterval : t.classInterval = s.classInterval
  thresholds : t.thresholds = s.thresholds
  tones : t.tones = s.tones

theorem State.SameSettings.refl (s : State) : State.SameSettings s s := ⟨rfl, rfl, rfl, rfl⟩

theorem State.SameSettings.trans {u : State} (h : State.SameSettings s t) (k : State.SameSettings t u) :
    State.SameSettings s u :=
  ⟨k.config.trans h.config, k.classInterval.trans h.classInterval, k.thresholds.trans h.thresholds, k.tones.trans h.tones⟩

theorem State.PictureFrame.sameSettings (h : State.PictureFrame s t) : State.SameSettings s t :=
  ⟨h.config, h.classInterval, h.thresholds, h.tones⟩

theorem State.Apart.sameSettings (h : State.Apart s t) : State.SameSettings s t :=
  ⟨h.config, h.classInterval, h.thresholds, h.tones⟩

theorem State.SameSettings.legal (h : State.SameSettings s t) (legal : s.ConfigLegal) : t.ConfigLegal := by
  have cfg : t.cfg = s.cfg := funext fun p => by simp only [State.cfg, h.config]
  constructor
  · rw [cfg]
    exact legal.internalKind
  · rw [cfg]
    exact legal.internalSource
  · rw [cfg]
    exact legal.generalSource
  · rw [h.classInterval]
    exact legal.intervals
  · rw [h.thresholds]
    exact legal.levels
  · rw [h.tones]
    exact legal.frequencies

/-! ### What leaves the ranges alone -/

theorem State.SameSettings.rederiveFaulted (s : State) : State.SameSettings s s.rederiveFaulted := by
  unfold State.rederiveFaulted
  dsimp only
  split
  · exact .refl s
  · exact ⟨rfl, rfl, rfl, rfl⟩

theorem State.SameSettings.setLine (s : State) (n : LineId) (l : LineRecord) : State.SameSettings s (s.setLine n l) :=
  ⟨rfl, rfl, rfl, rfl⟩

theorem State.SameSettings.linesChanged (s : State) (ns : List LineId) : State.SameSettings s (s.linesChanged ns) :=
  ((State.SameSettings.rederiveFaulted s).trans (State.Apart.setFreeCount _ _).sameSettings).trans
    (State.linesChanged_frame s ns).sameSettings

theorem State.SameSettings.serviceChanged (s : State) (p : PointId) : State.SameSettings s (s.serviceChanged p) := by
  unfold State.serviceChanged
  split
  · exact (State.SameSettings.rederiveFaulted s).trans (State.PictureFrame.takeRaw _ _ _).sameSettings
  · exact .refl s
  · exact .refl s

theorem State.SameSettings.bringIn (s : State) (p : PointId) : State.SameSettings s (s.bringIn p) := by
  have service : State.SameSettings s ((s.setService p .inService).setAlarm p .normal) := ⟨rfl, rfl, rfl, rfl⟩
  have start := (State.PictureFrame.setFilter ((s.setService p .inService).setAlarm p .normal) p
    (((s.setService p .inService).setAlarm p .normal).filterOf p).restart).trans (.takeSource _ p)
  exact (service.trans start.sameSettings).trans (.serviceChanged _ p)

theorem State.SameSettings.takeOut (s : State) (p : PointId) : State.SameSettings s (s.takeOut p) := by
  have service : State.SameSettings s ((({ s with shelves := s.shelves.filter fun e => e.point != p } : State).setService p
      .outService).stopQualification p) := ⟨rfl, rfl, rfl, rfl⟩
  exact (service.trans (State.PictureFrame.leavePicture _ p _).sameSettings).trans (.serviceChanged _ p)

theorem State.SameSettings.hostCondition (s : State) (b : Byte) (v : Bool) :
    State.SameSettings s (s.hostCondition b v).1 := by
  unfold State.hostCondition
  split
  · exact .refl s
  · split
    · exact .refl s
    · split
      · exact .refl s
      · exact ((State.PictureFrame.setFilter s _ _).trans (.takeRaw _ _ _)).sameSettings

theorem State.SameSettings.unshelvePoint (s : State) (p : PointId) : State.SameSettings s (s.unshelvePoint p) := by
  have entry : State.SameSettings s { s with shelves := s.withoutShelve p } := ⟨rfl, rfl, rfl, rfl⟩
  exact entry.trans (State.PictureFrame.endShelve _ p).sameSettings

theorem State.SameSettings.expireShelve (s : State) (p : PointId) : State.SameSettings s (s.expireShelve p) := by
  unfold State.expireShelve
  split
  · exact (State.SameSettings.unshelvePoint s p).trans (State.Apart.raise _ _).sameSettings
  · exact .refl s

theorem State.SameSettings.ownShelve (s : State) (b : Byte) (m : Half) : State.SameSettings s (ownShelve b m s).1 := by
  have put : ∀ p, State.SameSettings s (s.putShelve p m) := fun p => ⟨rfl, rfl, rfl, rfl⟩
  unfold Machine.ownShelve
  split
  · exact .refl s
  · split
    · exact .refl s
    · split
      · exact .refl s
      · split
        · exact .refl s
        · split
          · exact put _
          · split
            · exact .refl s
            · exact (put _).trans (State.PictureFrame.leavePicture _ _ _).sameSettings

theorem State.SameSettings.ownWriteGroup (s : State) (g v : Byte) : State.SameSettings s (ownWriteGroup g v s).1 := by
  unfold Machine.ownWriteGroup
  split
  · split
    · exact .refl s
    · split
      · exact (State.PictureFrame.setGroup s _ _).sameSettings
      · exact ((State.PictureFrame.emptySlot s _).trans (.setGroup _ _ _)).sameSettings
  · exact .refl s

theorem State.SameSettings.ownClearFirstOut (s : State) (g : Byte) : State.SameSettings s (ownClearFirstOut g s).1 := by
  unfold Machine.ownClearFirstOut
  split
  · exact .refl s
  · rename_i g _
    have emptied := State.PictureFrame.emptySlot s g
    show State.SameSettings s ((s.emptySlot g).armIfQuiet g)
    unfold State.armIfQuiet
    split
    · exact (emptied.trans (.setGroup _ _ _)).sameSettings
    · exact emptied.sameSettings

theorem State.SameSettings.endStep (s : State) (c : Chan) : State.SameSettings s (s.endStep c) := by
  rcases s.endStep_sound c with sound | ⟨o, sound⟩
  · exact sound.apart.sameSettings
  · refine State.SameSettings.trans ?_ sound.apart.sameSettings
    cases o <;> exact ⟨rfl, rfl, rfl, rfl⟩

theorem State.SameSettings.expireOnDelay (s : State) (p : PointId) : State.SameSettings s (s.expireOnDelay p) := by
  unfold State.expireOnDelay
  dsimp only
  split
  · exact ((State.PictureFrame.setFilter s p _).trans (.rise _ p)).sameSettings
  · exact .refl s

theorem State.SameSettings.expireOffDelay (s : State) (p : PointId) : State.SameSettings s (s.expireOffDelay p) := by
  unfold State.expireOffDelay
  dsimp only
  split
  · exact ((State.PictureFrame.setFilter s p _).trans (.fall _ p)).sameSettings
  · exact .refl s

theorem State.SameSettings.expireDebounce (s : State) (k : Key) : State.SameSettings s (s.expireDebounce k) := by
  unfold State.expireDebounce
  dsimp only
  split
  · exact .refl s
  · have keys := (State.Apart.setKeys s (s.keys.put k { s.keys.get k with pressed := !(s.keys.get k).pressed, timer := none })).sameSettings
    refine keys.trans ?_
    split
    · unfold State.release
      split
      · exact (State.Apart.setTests _ _ _).sameSettings
      · exact .refl _
    · unfold State.press
      split
      · refine State.SameSettings.trans ?_ (State.Apart.raise _ _).sameSettings
        cases k with
        | kack => exact (State.PictureFrame.acknowledgeAll _ .panel _).sameSettings
        | ksil => exact (State.PictureFrame.silenceAll _).sameSettings
        | krst => exact (State.PictureFrame.resetEvery _).sameSettings
        | ktst => exact (State.Apart.setTests _ _ _).sameSettings
      · exact .refl _

theorem State.SameSettings.restartAll (s : State) : State.SameSettings s s.restartAll :=
  State.takeAll_induct (P := State.SameSettings s) ⟨rfl, rfl, rfl, rfl⟩
    fun p _ u hu => hu.trans (State.PictureFrame.takeSource u p).sameSettings

theorem State.SameSettings.takeDue (s : State) (d : Due) : State.SameSettings s (s.takeDue d) := by
  unfold State.takeDue
  split
  · cases d with
    | onDelay p => exact .expireOnDelay s p
    | offDelay p => exact .expireOffDelay s p
    | shelve =>
      unfold State.expire
      dsimp only
      split
      · exact .expireShelve s _
      · exact .refl s
    | reannounce p st => exact (State.PictureFrame.expireReannounce s p st).sameSettings
    | age p => exact (State.PictureFrame.modifyRecord s p _).sameSettings
    | debounce k => exact .expireDebounce s k
    | panelTest => exact (State.Apart.setTests s _ _).sameSettings
    | hostTest => exact (State.Apart.setTests s _ _).sameSettings
    | stepEnd c => exact .endStep s c
    | editIdle => exact (State.Apart.expireEdit s).sameSettings
    | linkReset => exact (State.Apart.expireLink s).sameSettings
  · exact .refl s

theorem State.SameSettings.tick (s : State) : State.SameSettings s s.tick :=
  State.takeAll_induct (P := State.SameSettings s) ⟨rfl, rfl, rfl, rfl⟩ fun d _ u hu => hu.trans (.takeDue u d)

/-! ### The four writes of the configuration -/

/-- WRITE POINT writes a record that fits its point (R3, R6). -/
theorem State.ConfigLegal.writeConfig (h : s.ConfigLegal) {c : PointConfig} (fits : c.fits p = true) :
    (s.writeConfig p c).ConfigLegal := by
  have cfg := s.writeConfig_cfg p c
  unfold PointConfig.fits at fits
  refine ⟨fun q internal => ?_, fun q internal => ?_, fun q general => ?_, h.intervals, h.levels, h.frequencies⟩ <;>
    rw [cfg] <;> rcases eq_or_ne q p with rfl | ne
  · rw [if_pos internal, Bool.and_eq_true, beq_iff_eq, beq_iff_eq] at fits
    simpa using fits.1
  · simpa [ne] using h.internalKind q internal
  · rw [if_pos internal, Bool.and_eq_true, beq_iff_eq, beq_iff_eq] at fits
    simpa using fits.2
  · simpa [ne] using h.internalSource q internal
  · have external : ¬ isInternal q = true := by
      simp only [isGeneral, isInternal, decide_eq_true_eq] at general ⊢
      omega
    rw [if_neg external] at fits
    simpa using fits
  · simpa [ne] using h.generalSource q general

/-- WRITE CLASS writes an interval of at most 240 units (R14, R15). -/
theorem State.ConfigLegal.writeClass (h : s.ConfigLegal) (c : PriorityClass) {i : Byte} (le : i.toNat ≤ 240) :
    ({ s with classInterval := s.classInterval.put c i } : State).ConfigLegal where
  internalKind := h.internalKind
  internalSource := h.internalSource
  generalSource := h.generalSource
  intervals := by
    intro d
    rw [Table.getElem_put]
    split
    · exact le
    · exact h.intervals d
  levels := h.levels
  frequencies := h.frequencies

/-- WRITE THRESHOLDS writes three levels in order (R18, R25). -/
theorem State.ConfigLegal.writeThresholdSet (h : s.ConfigLegal) (k : SetId) {x : ThresholdSet}
    (ordered : x.s.toNat < x.a.toNat ∧ x.a.toNat < x.o.toNat) : (s.writeThresholdSet k x).ConfigLegal := by
  refine (State.SameSettings.linesChanged _ _).legal ?_
  refine ⟨h.internalKind, h.internalSource, h.generalSource, h.intervals, fun j => ?_, h.frequencies⟩
  dsimp only
  rw [Table.getElem_put]
  split
  · exact ordered
  · exact h.levels j

/-- Frequencies in range written into a table of frequencies in range (R129, R130). -/
theorem writeTonesFrom_frequencyOk {l : List Half} (ok : l.all frequencyOk = true) {t : Table Half 24}
    (h : ∀ i : ToneId, frequencyOk t[i] = true) (n : Nat) : ∀ i : ToneId, frequencyOk (writeTonesFrom t n l)[i] = true := by
  induction l generalizing t n with
  | nil => exact h
  | cons f fs ih =>
    rw [List.all_cons, Bool.and_eq_true] at ok
    refine ih ok.2 (fun i => ?_) (n + 1)
    split
    · rw [Table.getElem_put]
      split
      · exact ok.1
      · exact h i
    · exact h i

/-! ### The step -/

/-- Every owner keeps the configuration within its ranges. -/
theorem State.ConfigLegal.ownerTakes (h : s.ConfigLegal) (c : Instr) : (ownerTakes c s).1.ConfigLegal := by
  by_cases read : isRead c = true
  · rw [ownerTakes_read c s read]
    exact h
  by_cases apart : isApart c = true
  · exact (ownerTakes_apart c s apart).sameSettings.legal h
  cases c
  case writePoint b rec =>
    show (ownWritePoint b rec s).1.ConfigLegal
    unfold ownWritePoint
    split
    · exact h
    · split
      · exact h
      · split
        · exact h
        · split
          · exact h.writeConfig ‹_›
          · exact h
  case writeClass n i =>
    show (ownWriteClass n i s).1.ConfigLegal
    unfold ownWriteClass
    split
    · exact h
    · split
      · exact h
      · exact h.writeClass _ (by omega)
  case writeThresholds k x a o =>
    show (ownWriteThresholds k x a o s).1.ConfigLegal
    unfold ownWriteThresholds
    split
    · exact h
    · split
      · exact h
      · rename_i ordered
        split
        · exact h
        · exact h.writeThresholdSet _ (not_not.mp ordered)
  case writeTones n l =>
    show (ownWriteTones n l s).1.ConfigLegal
    unfold ownWriteTones
    split
    · exact h
    · split
      · exact h
      · rename_i range
        have ok : l.all frequencyOk = true := by simpa using fun k => range (.inr k)
        exact ⟨h.internalKind, h.internalSource, h.generalSource, h.intervals, h.levels,
          writeTonesFrom_frequencyOk ok h.frequencies n.toNat⟩
  case setServiceIn b =>
    show (ownSetServiceIn b s).1.ConfigLegal
    unfold ownSetServiceIn
    split
    · exact h
    · split
      · exact h
      · exact (State.SameSettings.bringIn s _).legal h
  case setServiceOut b =>
    show (ownSetServiceOut b s).1.ConfigLegal
    unfold ownSetServiceOut
    split
    · exact h
    · split
      · exact (State.SameSettings.takeOut s _).legal h
      · exact h
  case writeLine n m q k =>
    show (ownWriteLine n m q k s).1.ConfigLegal
    unfold ownWriteLine
    split
    · dsimp only
      split
      · exact h
      · exact ((State.SameSettings.setLine s _ _).trans (.linesChanged _ _)).legal h
    · exact h
  case assertPoint b => exact (State.SameSettings.hostCondition s b true).legal h
  case releasePoint b => exact (State.SameSettings.hostCondition s b false).legal h
  case ack b e st =>
    show (ownAck b e st s).1.ConfigLegal
    unfold ownAck
    split
    · split
      · split <;> exact h
      · split
        · exact h
        · split
          · exact (State.PictureFrame.acknowledge s .host _).sameSettings.legal h
          · exact h
    · exact h
  case ackGroup g =>
    show (ownAckGroup g s).1.ConfigLegal
    unfold ownAckGroup
    split
    · exact h
    · exact (State.PictureFrame.acknowledgeAll s .host _).sameSettings.legal h
  case ackAll => exact (State.PictureFrame.acknowledgeAll s .host _).sameSettings.legal h
  case reset b =>
    show (ownReset b s).1.ConfigLegal
    unfold ownReset
    split
    · exact h
    · split
      · exact (State.PictureFrame.retire State.PictureFrame.handOverflow s _ _).sameSettings.legal h
      · exact h
  case resetAll => exact (State.PictureFrame.resetEvery s).sameSettings.legal h
  case writeGroup g v => exact (State.SameSettings.ownWriteGroup s g v).legal h
  case clearFirstOut g => exact (State.SameSettings.ownClearFirstOut s g).legal h
  case shelve b m => exact (State.SameSettings.ownShelve s b m).legal h
  case unshelve b =>
    show (ownUnshelve b s).1.ConfigLegal
    unfold ownUnshelve
    split
    · exact h
    · split
      · exact (State.SameSettings.unshelvePoint s _).legal h
      · exact h
  case silence => exact (State.PictureFrame.silenceAll s).sameSettings.legal h
  case restart => exact (State.SameSettings.restartAll s).legal h
  all_goals first | exact absurd rfl read | exact absurd rfl apart | exact h

theorem State.reset_configLegal : State.reset.ConfigLegal := by constructor <;> decide +kernel

/-- Every command keeps the configuration within its ranges. -/
theorem State.ConfigLegal.exec (h : s.ConfigLegal) (c : Instr) (run : exec c s = .next t) : t.ConfigLegal := by
  by_cases host : isHostCommand c = true
  · rw [exec_host c s host] at run
    obtain rfl := Host.Outcome.next.inj run
    exact (Reply.apart_handOver _ c).sameSettings.legal (h.ownerTakes c)
  by_cases apart : isApartEvent c = true
  · exact (exec_apart c apart run).sameSettings.legal h
  cases c
  case commandCompletion marked =>
    rcases execCommandCompletion_cases marked run with apart | ⟨c, apart⟩
    · exact apart.sameSettings.legal h
    · exact apart.sameSettings.legal (h.ownerTakes c)
  case powerOnReset =>
    obtain rfl := Host.Outcome.next.inj run
    exact State.SameSettings.legal (s := State.reset) ⟨rfl, rfl, rfl, rfl⟩ State.reset_configLegal
  case lineSample n level =>
    obtain rfl := Host.Outcome.next.inj run
    show (s.sampleLine n level).ConfigLegal
    unfold State.sampleLine
    dsimp only
    split
    · exact ((State.SameSettings.setLine s n _).trans (.linesChanged _ _)).legal h
    · exact (State.SameSettings.setLine s n _).legal h
  case onDelayExpiry p => exact Host.Outcome.next.inj run ▸ (State.SameSettings.expireOnDelay s p).legal h
  case offDelayExpiry p => exact Host.Outcome.next.inj run ▸ (State.SameSettings.expireOffDelay s p).legal h
  case shelveExpiry p => exact Host.Outcome.next.inj run ▸ (State.SameSettings.expireShelve s p).legal h
  case reannounceExpiry p st =>
    exact Host.Outcome.next.inj run ▸ (State.PictureFrame.expireReannounce s p st).sameSettings.legal h
  case debounceExpiry k => exact Host.Outcome.next.inj run ▸ (State.SameSettings.expireDebounce s k).legal h
  case stepEnd c => exact Host.Outcome.next.inj run ▸ (State.SameSettings.endStep s c).legal h
  case ageIncrement p => exact Host.Outcome.next.inj run ▸ (State.PictureFrame.modifyRecord s p _).sameSettings.legal h
  all_goals first | exact absurd rfl host | exact absurd rfl apart

/-- Settles O54: every step leaves the ranges alone, or writes values that its command has checked. -/
theorem stepKeepsConfigLegal : Obligations.StepKeepsConfigLegal := by
  intro s t legal run
  unfold step at run
  split at run
  · exact ((State.Apart.setPending s _).sameSettings.legal legal).exec _ run
  · exact Host.Outcome.next.inj run ▸ (State.SameSettings.tick s).legal legal

end Sys2Proof.Machine

namespace Sys2Proof.Machine

set_option Elab.async false

/-! ## The state after power-on reset -/

/-- A cue without an alternate tempo and with at most one loop is legal when its lengths and its loop are (R127). -/
theorem CueContents.Legal.plain {q : CueContents}
    (h : q.alt = none ∧ (1 ≤ q.steps.length ∧ q.steps.length ≤ 16) ∧ (∀ st ∈ q.steps, 1 ≤ st.length ∧ st.length ≤ 16) ∧
      q.loops.length ≤ 1 ∧ ∀ l ∈ q.loops, 2 ≤ l.count ∧ l.count ≤ 15 ∧ l.first ≤ l.last ∧ l.last < q.steps.length) :
    q.Legal := by
  obtain ⟨alt, stepCount, lengths, loopCount, loops⟩ := h
  refine ⟨stepCount, lengths, by simp [alt], by omega, loops, ?_⟩
  match q.loops, loopCount with
  | [], _ => exact .nil
  | [l], _ => exact List.pairwise_singleton _ l

/-- The cues after power-on reset are legal, and no session is open (R132, R135). -/
theorem State.reset_cuesLegal : State.reset.CuesLegal := by
  have plain : ∀ q : CueId, ∀ c ∈ State.reset.cues[q],
      c.alt = none ∧ (1 ≤ c.steps.length ∧ c.steps.length ≤ 16) ∧ (∀ st ∈ c.steps, 1 ≤ st.length ∧ st.length ≤ 16) ∧
        c.loops.length ≤ 1 ∧ ∀ l ∈ c.loops, 2 ≤ l.count ∧ l.count ≤ 15 ∧ l.first ≤ l.last ∧ l.last < c.steps.length := by
    decide +kernel
  have closed : State.reset.edit = none := rfl
  exact ⟨fun _ _ => rfl, fun q c h => .plain (plain q c h), by simp [closed], by simp [closed], by simp [closed],
    by simp [closed]⟩

theorem State.reset_linkLegal : State.reset.LinkLegal :=
  ⟨fun _ h => (nomatch h), fun h => (nomatch h), fun h => (nomatch h)⟩

/-- Settles O60: each invariant is a closed fact of the reset state. -/
theorem resetMeetsInvariants : Obligations.ResetMeetsInvariants := by
  refine ⟨State.reset_configLegal, State.reset_cuesLegal, State.reset_linkLegal, ?_, State.reset_pictureLegal, ?_, ?_⟩
  · intro k
    cases k <;> decide
  · constructor <;> decide +kernel
  · constructor <;> intro c <;> cases c
    all_goals decide +kernel

/-! ### The point table (R4) -/

theorem State.powerOn_filterOf (s : State) (p : PointId) : s.powerOn.filterOf p = State.reset.filterOf p := rfl

/-- A general point after reset (R4). -/
theorem State.reset_general {p : PointId} (h : p.val < 62) :
    State.reset.service[p] = .outService ∧ State.reset.alarmOf p = .outOfService ∧
      State.reset.cfg p = PointConfig.generalReset := by
  have ne : ∀ q : PointId, 62 ≤ q.val → q ≠ p := by
    rintro q hq rfl
    omega
  simp only [State.alarmOf, State.cfg, State.reset, Table.getElem_put_ne _ _ (ne overflowPoint (by decide)),
    Table.getElem_put_ne _ _ (ne lineFaultPoint (by decide))]
  simp

theorem State.reset_filterOf (p : PointId) : State.reset.filterOf p = Filter.start := by
  simp [State.filterOf, State.reset]

/-- Settles O3. -/
theorem powerOnResetPoints : Obligations.PowerOnResetPoints := by
  intro s
  refine ⟨s.powerOn, rfl, fun p h => State.reset_general h, ⟨rfl, rfl, rfl⟩, ⟨rfl, rfl, rfl⟩, fun p _ => ?_, fun n => ?_, rfl⟩
  · rw [s.powerOn_filterOf, State.reset_filterOf]
    exact ⟨rfl, rfl, rfl, rfl⟩
  · show (State.reset.lines[n]).classification = .inactive
    simp [State.reset, LineRecord.atReset]

/-! ### The other blocks -/

/-- Of the flags that stand after reset, RESTARTED is the only one (R192). -/
theorem State.reset_flag (e : Event) : State.reset.flag e = true ↔ e = .restarted := by
  cases e <;> decide

/-- ATTN with RESTARTED alone set follows bit 10 of the mask (R189). -/
theorem attn_of_restarted {t : State} (h : t.events = eventsAtReset) : t.attn = t.mask.getLsbD 10 := by
  have bit : eventsAtReset = BitVec.twoPow 12 10 := by decide
  rw [State.attn, h, bit, BitVec.and_comm, BitVec.and_twoPow]
  split
  · rename_i set
    rw [set]
    decide
  · rename_i clear
    simpa using clear

/-- Settles O4. -/
theorem powerOnResetBlocks : Obligations.PowerOnResetBlocks := by
  intro s
  refine ⟨s.powerOn, rfl, fun c => ?_, ⟨rfl, rfl, rfl, rfl⟩, fun n => ?_, ⟨rfl, rfl, rfl, rfl, rfl⟩, fun g => ?_, fun k => ?_,
    ⟨rfl, rfl, rfl⟩, fun c => ?_, rfl, ⟨rfl, rfl, rfl, rfl, rfl, rfl, rfl, rfl⟩, fun q hq => ?_, rfl, ?_,
    State.reset_flag, rfl, ?_, fun m => ?_⟩
  · show State.reset.classInterval[c] = 0
    simp [State.reset]
  · show State.reset.lines[n] = _
    simp [State.reset, LineRecord.atReset]
  · show State.reset.groups[g] = _
    simp [State.reset, GroupRecord.atReset]
  · cases k <;> simp [State.powerOn, PerKey.map, PerKey.get, KeyState.powerOn, State.reset]
  · cases c <;> exact ⟨rfl, rfl⟩
  · show State.reset.cues[q] = none
    revert q
    decide +kernel
  · unfold State.powerOn
    cases s.link.trans <;> rfl
  · rw [attn_of_restarted (t := s.powerOn) rfl, show s.powerOn.mask = 0 from rfl]
    decide
  · exact attn_of_restarted (t := { s.powerOn with mask := m }) rfl
end Sys2Proof.Machine

namespace Sys2Proof.Machine

set_option Elab.async false

/-! ## Point records, classes and thresholds on the host link -/

/-- A host command whose owner answers leaves the owner's state with the answer handed over (R171). -/
theorem exec_answers {c : Instr} {s t : State} {a : Answer} (host : isHostCommand c = true)
    (owner : ownerTakes c s = (t, some a)) : exec c s = .next (t.answered c a) := by
  rw [exec_host c s host, owner, Reply.handOver_some]

/-! ### Bytes that name a value, and the byte of a value (R182, R184, R185) -/

theorem byteOf_toNat (b : Byte) : byteOf b.toNat = b := by simp [byteOf]

theorem numbered_isSome {n : Nat} {b : Byte} : (numbered n b).isSome = true ↔ b.toNat < n := by
  unfold numbered
  split <;> simp_all

theorem byteOf_of_numbered {n : Nat} {b : Byte} {i : Fin n} (h : numbered n b = some i) : byteOf i.val = b := by
  unfold numbered at h
  split at h
  · obtain rfl := Option.some.inj h
    exact byteOf_toNat b
  · exact nomatch h

theorem optionalOf_isSome {n : Nat} {b : Byte} : (optionalOf n b).isSome = true ↔ b.toNat < n ∨ b = 0xFF := by
  unfold optionalOf
  split
  · rename_i absent
    simp [absent]
  · rename_i number
    rw [Option.isSome_map, numbered_isSome]
    exact (or_iff_left number).symm

theorem optionalByte_of_optionalOf {n : Nat} {b : Byte} {o : Option (Fin n)} (h : optionalOf n b = some o) :
    optionalByte o = b := by
  unfold optionalOf at h
  split at h
  · rename_i absent
    obtain rfl := Option.some.inj h
    exact absent.symm
  · obtain ⟨i, hi, rfl⟩ := Option.map_eq_some_iff.mp h
    exact byteOf_of_numbered hi

theorem classNumberOf_isSome {b : Byte} : (classNumberOf b).isSome = true ↔ 1 ≤ b.toNat ∧ b.toNat ≤ 4 := by
  unfold classNumberOf
  split
  · rename_i h
    simp [h]
  · rename_i h
    have pos : b.toNat ≠ 0 := fun k => h (BitVec.eq_of_toNat_eq k)
    have := b.isLt
    rw [numbered_isSome, BitVec.toNat_sub]
    simp
    omega

theorem byteOf_of_classNumberOf {b : Byte} {c : PriorityClass} (h : classNumberOf b = some c) : byteOf (c.val + 1) = b := by
  unfold classNumberOf at h
  split at h
  · exact nomatch h
  · have := byteOf_of_numbered h
    have add : byteOf (c.val + 1) = byteOf c.val + 1 := by simp [byteOf, BitVec.ofNat_add]
    rw [add, this, BitVec.sub_add_cancel]

theorem kindOf_isSome {b : Byte} : (kindOf b).isSome = true ↔ b.toNat ≤ 2 := by
  unfold kindOf
  split_ifs <;> simp_all [← BitVec.toNat_inj]
  omega

theorem code_of_kindOf {b : Byte} {k : Kind} (h : kindOf b = some k) : k.code = b := by
  unfold kindOf at h
  split_ifs at h with h₀ h₁ h₂ <;> obtain rfl := Option.some.inj h
  · exact h₀.symm
  · exact h₁.symm
  · exact h₂.symm

theorem faultResponseOf_isSome {b : Byte} : (faultResponseOf b).isSome = true ↔ b.toNat ≤ 1 := by
  unfold faultResponseOf
  split_ifs <;> simp_all [← BitVec.toNat_inj]
  omega

theorem code_of_faultResponseOf {b : Byte} {r : FaultResponse} (h : faultResponseOf b = some r) : r.code = b := by
  unfold faultResponseOf at h
  split_ifs at h with h₀ h₁ <;> obtain rfl := Option.some.inj h
  · exact h₀.symm
  · exact h₁.symm

theorem chanOf_isSome {b : Byte} : (chanOf b).isSome = true ↔ b.toNat ≤ 1 := by
  unfold chanOf
  split_ifs <;> simp_all [← BitVec.toNat_inj]
  omega

theorem code_of_chanOf {b : Byte} {c : Chan} (h : chanOf b = some c) : chanCode c = b := by
  unfold chanOf at h
  split_ifs at h with h₀ h₁ <;> obtain rfl := Option.some.inj h
  · exact h₀.symm
  · exact h₁.symm

theorem sourceOf_isSome {b : Byte} : (sourceOf b).isSome = true ↔ b.toNat ≤ 31 ∨ b = 0x40 ∨ b = 0x41 := by
  unfold sourceOf
  split_ifs <;> simp_all [numbered_isSome]
  omega

theorem code_of_sourceOf {b : Byte} {x : Source} (h : sourceOf b = some x) : x.code = b := by
  unfold sourceOf at h
  split_ifs at h with h₀ h₁
  · obtain rfl := Option.some.inj h
    exact h₀.symm
  · obtain rfl := Option.some.inj h
    exact h₁.symm
  · obtain ⟨n, hn, rfl⟩ := Option.map_eq_some_iff.mp h
    exact byteOf_of_numbered hn

/-- A record decodes field by field (R185). -/
theorem decodePoint_eq_some {b : PointBytes} {c : PointConfig} :
    decodePoint b = some c ↔
      kindOf b.kind = some c.kind ∧ classNumberOf b.priority = some c.priority ∧ sourceOf b.source = some c.source ∧
      b.onDelay = c.onDelay ∧ b.offDelay = c.offDelay ∧ faultResponseOf b.faultResponse = some c.faultResponse ∧
      optionalOf 8 b.group = some c.group ∧ optionalOf 32 b.lamp = some c.lamp ∧ optionalOf 32 b.alertCue = some c.alertCue ∧
      optionalOf 32 b.ringbackCue = some c.ringbackCue ∧ chanOf b.channel = some c.channel := by
  obtain ⟨kind, priority, source, onDelay, offDelay, faultResponse, group, lamp, alertCue, ringbackCue, channel⟩ := c
  simp only [decodePoint, Option.bind_eq_bind, Option.bind_eq_some_iff, Option.pure_def, Option.some.injEq,
    PointConfig.mk.injEq]
  constructor
  · rintro ⟨_, h₁, _, h₂, _, h₃, _, h₄, _, h₅, _, h₆, _, h₇, _, h₈, _, h₉, rfl, rfl, rfl, rfl, rfl, rfl, rfl, rfl, rfl, rfl, rfl⟩
    exact ⟨h₁, h₂, h₃, rfl, rfl, h₄, h₅, h₆, h₇, h₈, h₉⟩
  · rintro ⟨h₁, h₂, h₃, hon, hoff, h₄, h₅, h₆, h₇, h₈, h₉⟩
    exact ⟨_, h₁, _, h₂, _, h₃, _, h₄, _, h₅, _, h₆, _, h₇, _, h₈, _, h₉, rfl, rfl, rfl, hon, hoff, rfl, rfl, rfl, rfl, rfl, rfl⟩

/-- A record that decodes is encoded in the bytes it came in (R185). -/
theorem encode_of_decodePoint {b : PointBytes} {c : PointConfig} (h : decodePoint b = some c) :
    c.encode = [b.kind, b.priority, b.source, b.onDelay, b.offDelay, b.faultResponse, b.group, b.lamp, b.alertCue,
      b.ringbackCue, b.channel] := by
  obtain ⟨kind, priority, source, onDelay, offDelay, fault, group, lamp, alertCue, ringbackCue, channel⟩ :=
    decodePoint_eq_some.mp h
  unfold PointConfig.encode
  rw [code_of_kindOf kind, byteOf_of_classNumberOf priority, code_of_sourceOf source, onDelay, offDelay,
    code_of_faultResponseOf fault, optionalByte_of_optionalOf group, optionalByte_of_optionalOf lamp,
    optionalByte_of_optionalOf alertCue, optionalByte_of_optionalOf ringbackCue, code_of_chanOf channel]

/-- The records that decode are those with every field in its range (R2, R184). -/
theorem decodePoint_isSome {b : PointBytes} :
    (∃ c, decodePoint b = some c) ↔
      b.kind.toNat ≤ 2 ∧ (1 ≤ b.priority.toNat ∧ b.priority.toNat ≤ 4) ∧
      (b.source.toNat ≤ 31 ∨ b.source = 0x40 ∨ b.source = 0x41) ∧ b.faultResponse.toNat ≤ 1 ∧
      (b.group.toNat < 8 ∨ b.group = 0xFF) ∧ (b.lamp.toNat < 32 ∨ b.lamp = 0xFF) ∧
      (b.alertCue.toNat < 32 ∨ b.alertCue = 0xFF) ∧ (b.ringbackCue.toNat < 32 ∨ b.ringbackCue = 0xFF) ∧
      b.channel.toNat ≤ 1 := by
  simp only [← kindOf_isSome, ← classNumberOf_isSome, ← sourceOf_isSome, ← faultResponseOf_isSome (b := b.faultResponse),
    ← optionalOf_isSome, ← chanOf_isSome (b := b.channel), Option.isSome_iff_exists]
  constructor
  · rintro ⟨c, h⟩
    obtain ⟨kind, priority, source, -, -, fault, group, lamp, alertCue, ringbackCue, channel⟩ := decodePoint_eq_some.mp h
    exact ⟨⟨_, kind⟩, ⟨_, priority⟩, ⟨_, source⟩, ⟨_, fault⟩, ⟨_, group⟩, ⟨_, lamp⟩, ⟨_, alertCue⟩, ⟨_, ringbackCue⟩,
      ⟨_, channel⟩⟩
  · rintro ⟨⟨_, kind⟩, ⟨_, priority⟩, ⟨_, source⟩, ⟨_, fault⟩, ⟨_, group⟩, ⟨_, lamp⟩, ⟨_, alertCue⟩, ⟨_, ringbackCue⟩,
      ⟨_, channel⟩⟩
    exact ⟨⟨_, _, _, b.onDelay, b.offDelay, _, _, _, _, _, _⟩, decodePoint_eq_some.mpr
      ⟨kind, priority, source, rfl, rfl, fault, group, lamp, alertCue, ringbackCue, channel⟩⟩

theorem Source.code_eq_internal {x : Source} : x.code = 0x41 ↔ x = .internal := by
  cases x with
  | line n =>
    have code : (Source.line n).code.toNat = n.val := by
      have := n.isLt
      simp only [Source.code, byteOf, BitVec.toNat_ofNat]
      omega
    simp only [reduceCtorEq, iff_false]
    intro h
    rw [h] at code
    have := n.isLt
    simp at code
    omega
  | host => decide
  | internal => decide

theorem Kind.code_eq_auto {k : Kind} : k.code = 0 ↔ k = .auto := by cases k <;> decide

/-- A decoded record fits an internal point as AUTO with INTERNAL, and a general one unless INTERNAL (R2, R3). -/
theorem PointConfig.fits_iff {b : PointBytes} {c : PointConfig} (h : decodePoint b = some c) (p : PointId) :
    c.fits p = true ↔ (p.val < 62 → b.source ≠ 0x41) ∧ (62 ≤ p.val → b.kind = 0 ∧ b.source = 0x41) := by
  obtain ⟨kind, -, source, -⟩ := decodePoint_eq_some.mp h
  simp only [← code_of_kindOf kind, ← code_of_sourceOf source, ne_eq, Source.code_eq_internal, Kind.code_eq_auto]
  unfold PointConfig.fits isInternal
  rcases Nat.lt_or_ge p.val 62 with lt | ge
  · have : ¬ 62 ≤ p.val := by omega
    simp [lt, this]
  · have : ¬ p.val < 62 := by omega
    simp [ge, this]

/-- Settles O7: the checks in their order, each decoded field against its byte, and the report. -/
theorem pointRecordWrittenAndRead : Obligations.PointRecordWrittenAndRead := by
  refine ⟨fun b rec s h => ?_, fun p rec s h => ?_, fun p rec s out h => ?_, fun p rec => ?_, fun p rec c s out dec fits => ?_,
    fun b s h => ?_, fun p s => ?_⟩
  · refine exec_answers rfl (t := s) ?_
    show ownWritePoint b rec s = _
    simp [ownWritePoint, pointOf_none h, State.refuse]
  · refine exec_answers rfl (t := s) ?_
    show ownWritePoint (byteOf p.val) rec s = _
    simp [ownWritePoint, h, State.refuse]
  · refine exec_answers rfl (t := s) ?_
    show ownWritePoint (byteOf p.val) rec s = _
    cases dec : decodePoint rec with
    | none => simp [ownWritePoint, out, dec, State.refuse]
    | some c => simp [ownWritePoint, out, dec, h c dec, State.refuse]
  · have ranges := decodePoint_isSome (b := rec)
    constructor
    · rintro ⟨c, dec, fits⟩
      obtain ⟨kind, priority, source, fault, group, lamp, alertCue, ringbackCue, channel⟩ := ranges.mp ⟨c, dec⟩
      obtain ⟨general, internal⟩ := (PointConfig.fits_iff dec p).mp fits
      exact ⟨kind, priority.1, priority.2, source, fault, group.imp_left Nat.le_of_lt_succ, lamp.imp_left Nat.le_of_lt_succ,
        alertCue.imp_left Nat.le_of_lt_succ, ringbackCue.imp_left Nat.le_of_lt_succ, channel, general, internal⟩
    · rintro ⟨kind, low, high, source, fault, group, lamp, alertCue, ringbackCue, channel, general, internal⟩
      obtain ⟨c, dec⟩ := ranges.mpr ⟨kind, ⟨low, high⟩, source, fault, group.imp_left Nat.lt_succ_of_le,
        lamp.imp_left Nat.lt_succ_of_le, alertCue.imp_left Nat.lt_succ_of_le, ringbackCue.imp_left Nat.lt_succ_of_le, channel⟩
      exact ⟨c, dec, (PointConfig.fits_iff dec p).mpr ⟨general, internal⟩⟩
  · refine ⟨encode_of_decodePoint dec, exec_answers rfl ?_⟩
    have raw : (c.source == .host && (s.filterOf p).hostRaw) = if c.source = .host then (s.filterOf p).hostRaw else false := by
      split <;> simp [*]
    show ownWritePoint (byteOf p.val) rec s = _
    simp [ownWritePoint, out, dec, fits, State.replyOk, State.writeConfig, raw]
  · refine exec_answers rfl (t := s) ?_
    show ownReadPoint b s = _
    simp [ownReadPoint, pointOf_none h, State.refuse]
  · refine exec_answers rfl (t := s) ?_
    show ownReadPoint (byteOf p.val) s = _
    simp [ownReadPoint, State.replyOk]

/-- Settles O10: each number checked before its entry is read or written. -/
theorem classIntervalsAndThresholdReads : Obligations.ClassIntervalsAndThresholdReads := by
  have noClass : ∀ b : Byte, b.toNat < 1 ∨ 4 < b.toNat → classNumberOf b = none := by
    intro b h
    cases number : classNumberOf b with
    | none => rfl
    | some c =>
      have := classNumberOf_isSome.mp (number ▸ rfl : (classNumberOf b).isSome = true)
      omega
  refine ⟨fun b i s h => ?_, fun c i s h => ?_, fun b s h => ?_, fun c s => ?_, fun b s h => ?_, fun k s => ?_⟩
  · refine exec_answers rfl (t := s) ?_
    show ownWriteClass b i s = s.refuse .range
    unfold ownWriteClass
    split
    · rfl
    · rename_i c number
      rcases h with low | high | long
      · exact absurd (number.symm.trans (noClass b (.inl low))) (by simp)
      · exact absurd (number.symm.trans (noClass b (.inr high))) (by simp)
      · exact if_pos long
  · refine exec_answers rfl ?_
    show ownWriteClass (byteOf (c.val + 1)) i s = _
    simp [ownWriteClass, Nat.not_lt.mpr h, State.replyOk]
  · refine exec_answers rfl (t := s) ?_
    show ownReadClass b s = _
    simp [ownReadClass, noClass b h, State.refuse]
  · refine exec_answers rfl (t := s) ?_
    show ownReadClass (byteOf (c.val + 1)) s = _
    simp [ownReadClass, State.replyOk]
  · refine exec_answers rfl (t := s) ?_
    show ownReadThresholds b s = _
    simp [ownReadThresholds, numbered_none (n := 4) h, State.refuse]
  · refine exec_answers rfl (t := s) ?_
    show ownReadThresholds (byteOf k.val) s = _
    simp [ownReadThresholds, numbered_byteOf (n := 4) (by omega) k, State.replyOk]

end Sys2Proof.Machine

namespace Sys2Proof.Machine

set_option Elab.async false

/-! ## Which points and flags a claim on the alarm picture touches -/

open Function (update)

variable {s t : State} {p : PointId} {a : AlarmState} {ovf : State → State} {S : PointId → Prop}

/-- The flags that claims on the alarm picture set: NEW_ALERT, RETURNED, DEFERRED and those of the channels. -/
def Event.ofPicture (e : Event) : Bool :=
  match e with
  | .newAlert | .returned | .deferred => true
  | _ => e.ofChannels

/-- Only points of `S` have changed their alarm state or their qualification, no point its host raw condition (R30), and
only flags of the picture are set. -/
structure State.Touches (S : PointId → Prop) (s t : State) : Prop where
  alarm : ∀ q, ¬ S q → t.alarmOf q = s.alarmOf q
  filter : ∀ q, ¬ S q → t.filterOf q = s.filterOf q
  hostRaw : ∀ q, (t.filterOf q).hostRaw = (s.filterOf q).hostRaw
  flags : ∀ e : Event, e.ofPicture = false → t.flag e = s.flag e

theorem State.Touches.refl (s : State) : State.Touches S s s :=
  ⟨fun _ _ => rfl, fun _ _ => rfl, fun _ => rfl, fun _ _ => rfl⟩

theorem State.Touches.trans {u : State} (h : State.Touches S s t) (k : State.Touches S t u) : State.Touches S s u :=
  ⟨fun q hq => (k.alarm q hq).trans (h.alarm q hq), fun q hq => (k.filter q hq).trans (h.filter q hq),
    fun q => (k.hostRaw q).trans (h.hostRaw q), fun e he => (k.flags e he).trans (h.flags e he)⟩

theorem Event.ofChannels_of_ofPicture {e : Event} (h : e.ofPicture = false) : e.ofChannels = false := by
  cases e <;> first | rfl | exact h

theorem State.SoundFrame.touches (h : State.SoundFrame s t) : State.Touches S s t :=
  ⟨fun q _ => by simp only [State.alarmOf, h.alarm_eq], fun q _ => by simp only [State.filterOf, h.filter_eq],
    fun q => by simp only [State.filterOf, h.filter_eq], fun e he => h.flags e (Event.ofChannels_of_ofPicture he)⟩

theorem State.Touches.raise (s : State) {e : Event} (h : e.ofPicture = true) : State.Touches S s (s.raise e) := by
  refine ⟨fun _ _ => rfl, fun _ _ => rfl, fun _ => rfl, fun f hf => ?_⟩
  have ne : e ≠ f := by rintro rfl; simp [h] at hf
  simp [State.flag_raise, ne]

/-- The roster, the deferred list and the groups are no part of what a point or a flag is. -/
theorem State.Touches.lists (s : State) (ro : List RosterRecord) (n : Nat) (de : List PointId) (st : Stamp)
    (gr : Table GroupRecord 8) :
    State.Touches S s
      { s with roster := ro, generalCount := n, deferred := de, stampCounter := st, groups := gr } :=
  ⟨fun _ _ => rfl, fun _ _ => rfl, fun _ => rfl, fun _ _ => rfl⟩

theorem State.Touches.setAlarm (s : State) (h : S p) (a : AlarmState) : State.Touches S s (s.setAlarm p a) := by
  refine ⟨fun q hq => ?_, fun _ _ => rfl, fun _ => rfl, fun _ _ => rfl⟩
  rw [s.setAlarm_alarmOf, Function.update_of_ne]
  rintro rfl
  exact hq h

theorem State.Touches.setFilter (s : State) (h : S p) {f : Filter} (host : f.hostRaw = (s.filterOf p).hostRaw) :
    State.Touches S s (s.setFilter p f) := by
  have read : ∀ q, (s.setFilter p f).filterOf q = update s.filterOf p f q := congrFun (s.setFilter_filterOf p f)
  refine ⟨fun _ _ => rfl, fun q hq => ?_, fun q => ?_, fun _ _ => rfl⟩
  · rw [read, Function.update_of_ne]
    rintro rfl
    exact hq h
  · rw [read]
    rcases eq_or_ne q p with rfl | ne
    · rw [Function.update_self, host]
    · rw [Function.update_of_ne ne]

theorem State.Touches.modifyRecord (s : State) (p : PointId) (f : RosterRecord → RosterRecord) :
    State.Touches S s (s.modifyRecord p f) := .lists s _ s.generalCount s.deferred s.stampCounter s.groups

theorem State.Touches.armQuiet (s : State) : State.Touches S s s.armQuiet :=
  .lists s s.roster s.generalCount s.deferred s.stampCounter _

theorem State.Touches.emptySlot (s : State) (g : GroupId) : State.Touches S s (s.emptySlot g) := by
  unfold State.emptySlot
  split
  · exact .lists s _ s.generalCount s.deferred s.stampCounter _
  · exact .refl s

theorem State.Touches.releaseSlot (s : State) (p : PointId) (v : Bool) : State.Touches S s (s.releaseSlot p v) := by
  unfold State.releaseSlot
  split
  · split
    · exact .emptySlot s _
    · exact .refl s
  · exact .refl s

theorem State.Touches.decideFirstOut (s : State) (p : PointId) : State.Touches S s (s.decideFirstOut p) := by
  unfold State.decideFirstOut
  split
  · exact .lists s _ s.generalCount s.deferred s.stampCounter _
  · exact .refl s

/-- What an admission does after the point has taken its state concerns no other point. -/
theorem State.Touches.admitPoint_after (s : State) (p : PointId) : State.Touches S (s.setAlarm p .alert) (s.admitPoint p) :=
  (((State.Touches.lists (s.setAlarm p .alert) _ _ s.deferred _ s.groups).trans (.decideFirstOut (s.enterRoster p) p)).trans
    (.raise _ rfl)).trans (State.SoundFrame.compareSince _ s).touches

theorem State.Touches.admitPoint (s : State) (h : S p) : State.Touches S s (s.admitPoint p) :=
  (State.Touches.setAlarm s h _).trans (.admitPoint_after s p)

theorem State.Touches.moveRecord (s : State) (h : S p) (st : RecordState) (f : RosterRecord → RosterRecord) :
    State.Touches S s (s.moveRecord p st f) := (State.Touches.setAlarm s h _).trans (.modifyRecord _ p _)

theorem State.Touches.recurrence (s : State) (h : S p) : State.Touches S s (s.recurrence p) :=
  (State.Touches.moveRecord s h _ _).trans ((State.SoundFrame.renewRecord _ p).trans (.compareSince _ s)).touches

theorem State.Touches.returnRecord (s : State) (h : S p) : State.Touches S s (s.returnRecord p) :=
  (((State.Touches.moveRecord s h _ _).trans (State.SoundFrame.renewRecord _ p).touches).trans (.raise _ rfl)).trans
    (State.SoundFrame.compareSince _ s).touches

section Overflow

variable (hovf : ∀ u, State.Touches S u (ovf u))
include hovf

theorem State.Touches.handIfEmptied (before : List PointId) (s : State) :
    State.Touches S s (handIfEmptied ovf before s) := by
  unfold Machine.handIfEmptied
  split
  · exact hovf s
  · exact .refl s

/-- What a deferral does after the point has taken its state is the hand-over to point 63. -/
theorem State.Touches.defer_after (s : State) (p : PointId) :
    State.Touches S (s.setAlarm p .deferred) (s.defer ovf p) := by
  have entry : State.Touches S (s.setAlarm p .deferred)
      (({ s.setAlarm p .deferred with deferred := s.insertDeferred p } : State).raise .deferred) :=
    (State.Touches.lists (s.setAlarm p .deferred) s.roster s.generalCount _ s.stampCounter s.groups).trans (.raise _ rfl)
  unfold State.defer
  dsimp only
  split
  · exact entry.trans (hovf _)
  · exact entry

theorem State.Touches.leaveDeferred_after (s : State) (p : PointId) (a : AlarmState) :
    State.Touches S (s.setAlarm p a) (s.leaveDeferred ovf p a) :=
  ((State.Touches.lists (s.setAlarm p a) s.roster s.generalCount _ s.stampCounter s.groups).trans (.armQuiet _)).trans
    (.handIfEmptied hovf _ _)

theorem State.Touches.requestAdmission (s : State) (h : S p) : State.Touches S s (s.requestAdmission ovf p) := by
  unfold State.requestAdmission
  split
  · exact .admitPoint s h
  · exact (State.Touches.setAlarm s h _).trans (.defer_after hovf s p)

theorem State.Touches.admitHead (s : State) (heads : ∀ q ∈ s.deferred, S q) : State.Touches S s (s.admitHead ovf) := by
  unfold State.admitHead
  split
  · exact .refl s
  · rename_i q rest list
    have head : S q := heads q (by simp [list])
    exact ((State.Touches.lists s s.roster s.generalCount rest s.stampCounter s.groups).trans
      (.admitPoint { s with deferred := rest } head)).trans (.handIfEmptied hovf _ _)

/-- What a retirement does after the point has taken its state is the admission of the head, for a general point. -/
theorem State.Touches.retire_after (s : State) (p : PointId) (a : AlarmState)
    (heads : isGeneral p = true → ∀ q ∈ s.deferred, S q) : State.Touches S (s.setAlarm p a) (s.retire ovf p a) := by
  unfold State.retire
  split
  · exact .refl _
  · rename_i r _
    have gone : State.Touches S (s.setAlarm p a)
        ((((s.leaveRoster p a).releaseSlot p r.firstOut).armQuiet).compareSince s) :=
      (((State.Touches.lists (s.setAlarm p a) _ _ s.deferred s.stampCounter s.groups).trans
        (.releaseSlot (s.leaveRoster p a) p _)).trans (.armQuiet _)).trans (State.SoundFrame.compareSince _ s).touches
    have list : ∀ v, ((((s.leaveRoster p a).releaseSlot p v).armQuiet).compareSince s).deferred = s.deferred := by
      intro v
      rw [State.compareSince_deferred]
      show ((s.leaveRoster p a).releaseSlot p v).deferred = s.deferred
      unfold State.releaseSlot State.emptySlot
      split
      · split
        · split <;> rfl
        · rfl
      · rfl
    dsimp only
    split
    · exact gone.trans (.admitHead hovf _ (by rw [list]; exact heads ‹_›))
    · exact gone

theorem State.Touches.riseWith (s : State) (h : S p) : State.Touches S s (s.riseWith ovf p) := by
  rcases s.riseWith_cases ovf p with ⟨-, eq⟩ | ⟨-, eq⟩ | eq <;> rw [eq]
  · exact .requestAdmission hovf s h
  · exact .recurrence s h
  · exact .refl s

theorem State.Touches.fallWith (s : State) (h : S p) (heads : isGeneral p = true → ∀ q ∈ s.deferred, S q) :
    State.Touches S s (s.fallWith ovf p) := by
  rcases s.fallWith_cases ovf p with ⟨-, -, eq⟩ | ⟨-, -, eq⟩ | ⟨-, -, eq⟩ | ⟨-, -, eq⟩ | eq <;> rw [eq]
  · exact .returnRecord s h
  · exact (State.Touches.setAlarm s h _).trans (.retire_after hovf s p _ heads)
  · exact .moveRecord s h _ _
  · exact (State.Touches.setAlarm s h _).trans (.leaveDeferred_after hovf s p _)
  · exact .refl s

theorem State.Touches.takeRawWith (s : State) (h : S p) (v : Bool) (heads : isGeneral p = true → ∀ q ∈ s.deferred, S q) :
    State.Touches S s (s.takeRawWith ovf p v) := by
  rcases s.takeRawWith_cases ovf p v with
    ⟨-, eq⟩ | ⟨-, f, -, host, -, ⟨-, eq⟩ | ⟨-, -, -, eq⟩ | ⟨-, -, -, eq⟩⟩ <;> rw [eq]
  · exact .refl s
  · exact .setFilter s h host
  · exact (State.Touches.setFilter s h host).trans (.riseWith hovf _ h)
  · exact (State.Touches.setFilter s h host).trans (.fallWith hovf _ h heads)

end Overflow

/-- The hand-over of point 63's condition touches point 63 alone (R75). -/
theorem State.Touches.handOverflow (s : State) (h : S overflowPoint) : State.Touches S s s.handOverflow :=
  .takeRawWith (fun u => .refl u) s h _ fun general => absurd general (by decide)

/-- The hand-over of point 62's condition touches the internal points alone (R29, R75). -/
theorem State.Touches.handLineFault (s : State) (h : S lineFaultPoint) (k : S overflowPoint) :
    State.Touches S s s.handLineFault :=
  .takeRawWith (fun u => .handOverflow u k) s h _ fun general => absurd general (by decide)

/-- What a departure does after the point has taken its state (R10). -/
theorem State.Touches.leavePicture_after (s : State) (p : PointId) (a : AlarmState) (h : S overflowPoint)
    (heads : isGeneral p = true → ∀ q ∈ s.deferred, S q) : State.Touches S (s.setAlarm p a) (s.leavePicture p a) := by
  unfold State.leavePicture
  split
  case h_5 => exact .leaveDeferred_after (fun u => .handOverflow u h) s p a
  case h_6 | h_7 | h_8 => exact .refl _
  all_goals exact .retire_after (fun u => .handOverflow u h) s p a heads

end Sys2Proof.Machine

namespace Sys2Proof.Machine

set_option Elab.async false

/-! ## Bringing a point into service and taking it out (R8 to R10, R29) -/

open Function (update)

variable {s t : State} {p : PointId} {a : AlarmState} {ovf : State → State}

/-! ### The faulted-line set after a change of service -/

/-- Two derived sets with the same members are the same list. -/
theorem State.derivedFaulted_ext (h : ∀ n, n ∈ s.derivedFaulted ↔ n ∈ t.derivedFaulted) :
    s.derivedFaulted = t.derivedFaulted := by
  refine List.filter_congr fun n hn => ?_
  have := h n
  simp only [State.derivedFaulted, List.mem_filter, hn, true_and] at this
  exact Bool.eq_iff_iff.mpr this

/-- The derived set reads the lines, and the configuration and the service of the points. -/
theorem State.derivedFaulted_congr (lines : t.lines = s.lines) (inUse : ∀ n, t.lineInUse n = s.lineInUse n) :
    t.derivedFaulted = s.derivedFaulted := by
  unfold State.derivedFaulted
  simp only [lines, inUse]

theorem State.PictureFrame.derivedFaulted (h : State.PictureFrame s t) : t.derivedFaulted = s.derivedFaulted := by
  refine State.derivedFaulted_congr h.lines fun n => ?_
  simp only [State.lineInUse, State.inService, State.cfg, h.config, h.service]

/-- The service of a point that is not sourced from a line is not read for the derived set. -/
theorem State.derivedFaulted_of_service (config : t.config = s.config) (lines : t.lines = s.lines)
    (service : ∀ q, q ≠ p → t.service[q] = s.service[q]) (source : ∀ n, (s.cfg p).source ≠ .line n) :
    t.derivedFaulted = s.derivedFaulted := by
  refine State.derivedFaulted_congr lines fun n => ?_
  unfold State.lineInUse
  congr 1
  funext q
  have cfg : t.cfg q = s.cfg q := by simp only [State.cfg, config]
  rcases eq_or_ne q p with rfl | ne
  · rw [cfg, beq_eq_false_iff_ne.mpr (source n), Bool.and_false, Bool.and_false]
  · rw [cfg, State.inService, State.inService, service q ne]

/-- The re-derivation makes the set the one derived, and sets LINE_FAULT when that changes it (R29). -/
theorem State.rederiveFaulted_eq (s : State) :
    s.rederiveFaulted.faulted = s.derivedFaulted ∧ s.rederiveFaulted.derivedFaulted = s.derivedFaulted ∧
      (s.rederiveFaulted.flag .lineFault = true ↔ s.flag .lineFault = true ∨ s.derivedFaulted ≠ s.faulted) := by
  unfold State.rederiveFaulted
  dsimp only
  split
  · rename_i same
    simp [same]
  · rename_i changed
    refine ⟨rfl, rfl, ?_⟩
    simp [State.flag_raise, changed]

/-- A re-derivation raises no other flag (R29). -/
theorem State.rederiveFaulted_flag (s : State) {e : Event} (h : e ≠ .lineFault) : s.rederiveFaulted.flag e = s.flag e := by
  unfold State.rederiveFaulted
  dsimp only
  split
  · rfl
  · rw [State.flag_raise, decide_eq_false h.symm, Bool.or_false]
    rfl

/-- After the service of one point has changed the faulted-line set is the one derived, and LINE_FAULT has been set exactly
on a change of its membership (R9, R10, R29). -/
theorem State.serviceChanged_follows {u : State} (config : u.config = s.config) (lines : u.lines = s.lines)
    (service : ∀ q, q ≠ p → u.service[q] = s.service[q]) (faulted : u.faulted = s.faulted)
    (flag : u.flag .lineFault = s.flag .lineFault) (derived : s.faulted = s.derivedFaulted) :
    (u.serviceChanged p).faulted = (u.serviceChanged p).derivedFaulted ∧
      ((u.serviceChanged p).flag .lineFault = true ↔
        s.flag .lineFault = true ∨ ∃ n, ¬ (n ∈ (u.serviceChanged p).faulted ↔ n ∈ s.faulted)) := by
  have cfg : u.cfg p = s.cfg p := by simp only [State.cfg, config]
  have elsewhere : ∀ {w : State}, (∀ n, (s.cfg p).source ≠ .line n) → w = u →
      w.faulted = w.derivedFaulted ∧
        (w.flag .lineFault = true ↔ s.flag .lineFault = true ∨ ∃ n, ¬ (n ∈ w.faulted ↔ n ∈ s.faulted)) := by
    rintro w source rfl
    refine ⟨faulted.trans (derived.trans (State.derivedFaulted_of_service config lines service source).symm), ?_⟩
    simp [faulted, flag]
  cases source : (s.cfg p).source with
  | line n =>
    obtain ⟨now, same, fault⟩ := u.rederiveFaulted_eq
    have frame : State.PictureFrame u.rederiveFaulted u.rederiveFaulted.handLineFault := .takeRaw _ _ _
    have touches : State.Touches (fun _ => True) u.rederiveFaulted u.rederiveFaulted.handLineFault :=
      .handLineFault _ trivial trivial
    have eq : u.serviceChanged p = u.rederiveFaulted.handLineFault := by
      unfold State.serviceChanged
      rw [cfg, source]
    rw [eq, frame.faulted, frame.derivedFaulted, now, same, touches.flags _ rfl, fault, flag, faulted]
    refine ⟨rfl, or_congr_right ?_⟩
    rw [derived, ← not_forall]
    exact not_congr ⟨fun eq n => by rw [eq], State.derivedFaulted_ext⟩
  | host =>
    exact elsewhere (by simp [source]) (by unfold State.serviceChanged; rw [cfg, source])
  | internal =>
    exact elsewhere (by simp [source]) (by unfold State.serviceChanged; rw [cfg, source])

/-- What follows the change of a point's service touches the internal points at most, and a line's point is none (R3). -/
theorem State.ConfigLegal.serviceChanged_point (h : s.ConfigLegal) (p : PointId) :
    (s.serviceChanged p).alarmOf p = s.alarmOf p ∧ (s.serviceChanged p).filterOf p = s.filterOf p := by
  unfold State.serviceChanged
  split
  · rename_i n source
    have general : isInternal p = false := by
      by_contra internal
      have := h.internalSource p (by simpa using internal)
      rw [source] at this
      exact nomatch this
    have touches : State.Touches (fun q => isInternal q = true) s.rederiveFaulted s.rederiveFaulted.handLineFault :=
      .handLineFault _ (by decide) (by decide)
    have same := State.SamePicture.rederiveFaulted s
    have out : ¬ isInternal p = true := by simp [general]
    rw [touches.alarm p out, touches.filter p out]
    simp only [State.alarmOf, State.filterOf, same.alarm, same.filter, and_self]
  · exact ⟨rfl, rfl⟩
  · exact ⟨rfl, rfl⟩

/-- What of a state no change of service reaches. -/
theorem State.serviceChanged_frame (s : State) (p : PointId) :
    (s.serviceChanged p).config = s.config ∧ (s.serviceChanged p).service = s.service ∧
      (s.serviceChanged p).lines = s.lines ∧ (s.serviceChanged p).shelves = s.shelves := by
  unfold State.serviceChanged
  split
  · have frame : State.PictureFrame s.rederiveFaulted s.rederiveFaulted.handLineFault := .takeRaw _ _ _
    rw [frame.config, frame.service, frame.lines, frame.shelves]
    unfold State.rederiveFaulted
    dsimp only
    split <;> exact ⟨rfl, rfl, rfl, rfl⟩
  · exact ⟨rfl, rfl, rfl, rfl⟩
  · exact ⟨rfl, rfl, rfl, rfl⟩

/-- A change of service sets no flag but LINE_FAULT and those of the picture. -/
theorem State.serviceChanged_flag (s : State) (p : PointId) {e : Event} (picture : e.ofPicture = false)
    (other : e ≠ .lineFault) : (s.serviceChanged p).flag e = s.flag e := by
  unfold State.serviceChanged
  split
  · have touches : State.Touches (fun _ => True) s.rederiveFaulted s.rederiveFaulted.handLineFault :=
      .handLineFault _ trivial trivial
    rw [touches.flags e picture, s.rederiveFaulted_flag other]
  · rfl
  · rfl

/-! ### A qualification that starts from its source (R31, R33) -/

theorem State.setFilter_self (s : State) (p : PointId) : s.setFilter p (s.filterOf p) = s := by
  simp [State.setFilter, State.filterOf]

/-- A point that is not held by its source takes the raw condition that the source gives (R33). -/
theorem State.takeSource_of_free (config : s.ConfigLegal) (service : s.inService p = true)
    (unfrozen : (s.filterOf p).frozen = false) (free : s.sourceFrozen p = false) :
    ∃ ovf : State → State, (∀ u, State.Touches (· = overflowPoint) u (ovf u)) ∧
      s.takeSource p = s.takeRawWith ovf p (s.sourceRaw p) := by
  have overflow : ∀ u : State, State.Touches (· = overflowPoint) u u.handOverflow := fun u => .handOverflow u rfl
  unfold State.takeSource State.sourceRaw
  cases source : (s.cfg p).source with
  | line n =>
    refine ⟨State.handOverflow, overflow, ?_⟩
    have same : s.setFilter p { s.filterOf p with frozen := false } = s := by
      have kept : { s.filterOf p with frozen := false } = s.filterOf p := by rw [← unfrozen]
      rw [kept, s.setFilter_self]
    have held : ¬ ((s.cfg p).faultResponse = .hold ∧ (s.lines[n]).classification.isFault = true) := by
      simpa [State.sourceFrozen, source] using free
    simp only [State.takeLine, service, Bool.true_eq_false, if_false, if_neg held, same]
    rfl
  | host => exact ⟨State.handOverflow, overflow, rfl⟩
  | internal =>
    have internal : p = lineFaultPoint ∨ p = overflowPoint := by
      by_contra k
      have general : isGeneral p = true := by
        simp only [isGeneral, decide_eq_true_eq]
        simp only [not_or, ← Fin.val_ne_iff] at k
        have := p.isLt
        have : p.val ≠ 62 := k.1
        have : p.val ≠ 63 := k.2
        omega
      exact config.generalSource p general source
    rcases internal with rfl | rfl
    · exact ⟨State.handOverflow, overflow, rfl⟩
    · exact ⟨id, fun u => .refl u, rfl⟩

/-- A point held by its source starts frozen (R28, R33). -/
theorem State.takeSource_of_held (service : s.inService p = true) (held : s.sourceFrozen p = true) :
    s.takeSource p = s.setFilter p { s.filterOf p with frozen := true } := by
  unfold State.sourceFrozen at held
  unfold State.takeSource
  cases source : (s.cfg p).source with
  | line n =>
    rw [source] at held
    have hold : (s.cfg p).faultResponse = .hold ∧ (s.lines[n]).classification.isFault = true := by simpa using held
    simp only [State.takeLine, service, Bool.true_eq_false, if_false, if_pos hold]
  | host => simp [source] at held
  | internal => simp [source] at held

theorem State.admitPoint_alarmOf (s : State) (p : PointId) : (s.admitPoint p).alarmOf p = .alert := by
  rw [(State.Touches.admitPoint_after (S := fun _ => False) s p).alarm p not_false]
  simp

/-- A point in NORMAL whose condition rises at once is admitted, or deferred when no general place is free (R39, R67). -/
theorem State.riseWith_normal (hovf : ∀ u, State.Touches (· = overflowPoint) u (ovf u)) (normal : s.alarmOf p = .normal) :
    (s.riseWith ovf p).alarmOf p =
      (if isGeneral p ∧ Config.generalPlaces ≤ s.generalCount then .deferred else .alert) ∧
    (s.riseWith ovf p).filterOf p = s.filterOf p := by
  have rises : s.riseWith ovf p = s.requestAdmission ovf p := by simp [State.riseWith, normal]
  rw [rises]
  rcases s.requestAdmission_cases ovf p with ⟨room, eq⟩ | ⟨general, crowded, eq⟩
  · have free : ¬ (isGeneral p = true ∧ Config.generalPlaces ≤ s.generalCount) := by
      simp only [isInternal, isGeneral, decide_eq_true_eq] at room ⊢
      omega
    rw [eq, if_neg free]
    exact ⟨s.admitPoint_alarmOf p, (State.Touches.admitPoint_after (S := fun _ => False) s p).filter p not_false⟩
  · have general : isGeneral p = true := by
      simp only [isInternal, isGeneral, decide_eq_true_eq, decide_eq_false_iff_not] at general ⊢
      omega
    have other : p ≠ overflowPoint := by
      rintro rfl
      exact absurd general (by decide)
    have touches := State.Touches.defer_after hovf s p
    rw [eq, if_pos ⟨general, crowded⟩, touches.alarm p other, touches.filter p other]
    simp

end Sys2Proof.Machine

namespace Sys2Proof.Machine

set_option Elab.async false

/-! ### What a qualification starts from its source -/

variable {s t u : State} {p : PointId}

/-- A point in NORMAL with its qualification stopped has become `t` by starting it from its source in `s` (R9, R31, R33). -/
structure State.Starts (s t : State) (p : PointId) : Prop where
  frozen : (t.filterOf p).frozen = s.sourceFrozen p
  silent : s.sourceFrozen p = true ∨ s.sourceRaw p = false →
    t.alarmOf p = .normal ∧ (t.filterOf p).raw = false ∧ (t.filterOf p).qualified = false ∧
      (t.filterOf p).onTimer = none ∧ (t.filterOf p).offTimer = none
  waits : s.sourceFrozen p = false → s.sourceRaw p = true → (s.cfg p).onDelay ≠ 0 →
    t.alarmOf p = .normal ∧ (t.filterOf p).raw = true ∧ (t.filterOf p).qualified = false ∧
      (t.filterOf p).onTimer = some ((s.cfg p).onDelay.toNat * 40000) ∧ (t.filterOf p).offTimer = none
  rises : s.sourceFrozen p = false → s.sourceRaw p = true → (s.cfg p).onDelay = 0 →
    (t.filterOf p).raw = true ∧ (t.filterOf p).qualified = true ∧
      t.alarmOf p = if isGeneral p ∧ 38 ≤ s.generalCount then .deferred else .alert

theorem State.takeSource_starts_of_held (service : s.inService p = true) (normal : s.alarmOf p = .normal)
    (stopped : (s.filterOf p).Stopped) (held : s.sourceFrozen p = true) : State.Starts s (s.takeSource p) p := by
  have filter : (s.takeSource p).filterOf p = { s.filterOf p with frozen := true } := by
    rw [State.takeSource_of_held service held, State.setFilter_filterOf, Function.update_self]
  have alarm : (s.takeSource p).alarmOf p = .normal := by
    rw [State.takeSource_of_held service held]
    exact normal
  constructor
  case frozen => rw [filter, held]
  case silent => exact fun _ => by simp [filter, alarm, stopped.raw, stopped.qualified, stopped.onTimer, stopped.offTimer]
  all_goals exact fun free => absurd held (by simp [free])

theorem State.takeSource_starts_of_free (config : s.ConfigLegal) (service : s.inService p = true)
    (normal : s.alarmOf p = .normal) (stopped : (s.filterOf p).Stopped) (free : s.sourceFrozen p = false) :
    State.Starts s (s.takeSource p) p := by
  obtain ⟨ovf, hovf, eq⟩ := State.takeSource_of_free config service stopped.frozen free
  rw [eq]
  cases present : s.sourceRaw p with
  | false =>
    have same : s.takeRawWith ovf p false = s := by simp [State.takeRawWith, stopped.raw]
    rw [same]
    exact ⟨by rw [stopped.frozen, free],
      fun _ => ⟨normal, stopped.raw, stopped.qualified, stopped.onTimer, stopped.offTimer⟩,
      fun _ raw => absurd raw (by simp [present]), fun _ raw => absurd raw (by simp [present])⟩
  | true =>
    have loud : ¬ (s.sourceFrozen p = true ∨ s.sourceRaw p = false) := by simp [free, present]
    by_cases delay : (s.cfg p).onDelay = 0
    · have risen : s.takeRawWith ovf p true = (s.setFilter p { s.filterOf p with
          raw := true, qualified := true, onTimer := none, offTimer := none }).riseWith ovf p := by
        simp [State.takeRawWith, service, stopped.raw, stopped.qualified, delay]
      obtain ⟨alarm, filter⟩ := State.riseWith_normal (s := s.setFilter p { s.filterOf p with
          raw := true, qualified := true, onTimer := none, offTimer := none }) hovf normal
      rw [State.setFilter_filterOf, Function.update_self] at filter
      rw [risen]
      exact ⟨by rw [filter, free, ← stopped.frozen], fun k => absurd k loud, fun _ _ k => absurd delay k,
        fun _ _ _ => ⟨by rw [filter], by rw [filter], alarm⟩⟩
    · have waiting : s.takeRawWith ovf p true =
          s.setFilter p { s.filterOf p with raw := true, onTimer := some ((s.cfg p).onDelay.toNat * 40000) } := by
        have changes : ¬ (s.inService p = false ∨ (s.filterOf p).raw = true) := by simp [service, stopped.raw]
        simp only [State.takeRawWith, if_neg changes, stopped.qualified, if_neg delay]
        rfl
      have filter : (s.takeRawWith ovf p true).filterOf p =
          { s.filterOf p with raw := true, onTimer := some ((s.cfg p).onDelay.toNat * 40000) } := by
        rw [waiting, State.setFilter_filterOf, Function.update_self]
      have alarm : (s.takeRawWith ovf p true).alarmOf p = .normal := by
        rw [waiting]
        exact normal
      exact ⟨by rw [filter, free, ← stopped.frozen], fun k => absurd k loud,
        fun _ _ _ => by simp [filter, alarm, stopped.qualified, stopped.offTimer], fun _ _ k => absurd k delay⟩

/-- The start depends on what the source gives, on the point's delay and on the room in the roster. -/
theorem State.Starts.transfer {v : State} (h : State.Starts u v p) (frozen : u.sourceFrozen p = s.sourceFrozen p)
    (raw : u.sourceRaw p = s.sourceRaw p) (cfg : u.cfg p = s.cfg p) (room : u.generalCount = s.generalCount)
    (filter : t.filterOf p = v.filterOf p) (alarm : t.alarmOf p = v.alarmOf p) : State.Starts s t p := by
  obtain ⟨hfrozen, silent, waits, rises⟩ := h
  rw [← filter, frozen] at hfrozen
  rw [← filter, ← alarm, frozen, raw] at silent
  rw [← filter, ← alarm, frozen, raw, cfg] at waits
  rw [← filter, ← alarm, frozen, raw, cfg, room] at rises
  exact ⟨hfrozen, silent, waits, rises⟩

/-- A point put into service stands in NORMAL with its qualification stopped, before its source is taken (R9). -/
def State.entered (s : State) (p : PointId) : State :=
  ((s.setService p .inService).setAlarm p .normal).stopQualification p

theorem State.bringIn_eq (s : State) (p : PointId) : s.bringIn p = ((s.entered p).takeSource p).serviceChanged p := rfl

theorem State.entered_filterOf (s : State) (p : PointId) : (s.entered p).filterOf p = (s.filterOf p).restart := by
  unfold State.entered State.stopQualification
  rw [State.setFilter_filterOf, Function.update_self]
  rfl

theorem State.entered_alarmOf (s : State) (p : PointId) : (s.entered p).alarmOf p = .normal :=
  (congrFun ((s.setService p .inService).setAlarm_alarmOf p .normal) p).trans (Function.update_self ..)

theorem State.entered_sourceRaw (s : State) (p : PointId) : (s.entered p).sourceRaw p = s.sourceRaw p := by
  unfold State.sourceRaw
  rw [s.entered_filterOf]
  rfl

/-- Taking a source sets no flag but those of the picture. -/
theorem State.Touches.takeSource (s : State) (p : PointId) : State.Touches (fun _ => True) s (s.takeSource p) := by
  have raw : ∀ (u : State) v, State.Touches (fun _ => True) u (u.takeRaw p v) := fun u v =>
    .takeRawWith (fun w => .handOverflow w trivial) u trivial v fun _ _ _ => trivial
  unfold State.takeSource
  split
  · unfold State.takeLine
    dsimp only
    split
    · exact .refl s
    · split
      · exact .setFilter (p := p) s trivial rfl
      · refine State.Touches.trans (State.Touches.setFilter (p := p) s trivial ?_) (raw _ _)
        rfl
  · exact raw s _
  · split
    · exact .handLineFault s trivial trivial
    · split
      · exact .handOverflow s trivial
      · exact .refl s

theorem State.bringIn_starts (config : s.ConfigLegal) (p : PointId) : State.Starts s (s.bringIn p) p := by
  have entry : State.SameSettings s (s.entered p) := ⟨rfl, rfl, rfl, rfl⟩
  have service : (s.entered p).inService p = true :=
    State.inService_iff.mpr ((s.setService_serviceOf p p .inService).trans (if_pos rfl))
  have stopped : ((s.entered p).filterOf p).Stopped := by
    rw [s.entered_filterOf]
    exact (s.filterOf p).restart_stopped
  have starts : State.Starts (s.entered p) ((s.entered p).takeSource p) p := by
    cases held : (s.entered p).sourceFrozen p with
    | true => exact State.takeSource_starts_of_held service (s.entered_alarmOf p) stopped held
    | false => exact State.takeSource_starts_of_free (entry.legal config) service (s.entered_alarmOf p) stopped held
  have source := State.PictureFrame.takeSource (s.entered p) p
  obtain ⟨alarm, filter⟩ := (source.sameSettings.legal (entry.legal config)).serviceChanged_point p
  rw [s.bringIn_eq]
  exact starts.transfer rfl (s.entered_sourceRaw p) rfl rfl filter alarm

/-- Settles O8: the point is entered, its source taken, and the faulted lines derived again. -/
theorem setServiceInStartsQualification : Obligations.SetServiceInStartsQualification := by
  refine ⟨fun b s h => ?_, fun p s service => ?_, fun p s config service => ?_⟩
  · refine exec_answers rfl (t := s) ?_
    show ownSetServiceIn b s = _
    simp [ownSetServiceIn, pointOf_none h, State.refuse]
  · refine exec_answers rfl (t := s) ?_
    show ownSetServiceIn (byteOf p.val) s = _
    simp [ownSetServiceIn, State.inService_iff.mpr service, State.replyOk]
  · have out : s.inService p = false := by simp [State.inService, service]
    have source := State.PictureFrame.takeSource (s.entered p) p
    obtain ⟨hconfig, hservice, hlines, hshelves⟩ := ((s.entered p).takeSource p).serviceChanged_frame p
    obtain ⟨frozen, silent, waits, rises⟩ := State.bringIn_starts config p
    refine ⟨_, exec_answers rfl (t := s.bringIn p) (a := .okWith []) ?_, rfl, hservice.trans source.service,
      hconfig.trans source.config, hlines.trans source.lines, hshelves.trans source.shelves, frozen, silent, waits, rises,
      State.serviceChanged_follows (u := (s.entered p).takeSource p) (source.config.trans rfl) (source.lines.trans rfl) (fun q ne => ?_)
        (source.faulted.trans rfl) ((State.Touches.takeSource (s.entered p) p).flags _ rfl)⟩
    · show ownSetServiceIn (byteOf p.val) s = _
      simp [ownSetServiceIn, out, State.replyOk]
    · rw [source.service]
      exact (s.setService_serviceOf p q .inService).trans (if_neg ne.symm)

end Sys2Proof.Machine

namespace Sys2Proof.Machine

set_option Elab.async false

/-! ### A point that leaves the picture (R10) -/

variable {s : State} {p : PointId}

/-- A point put out of service, its shelve entry gone and its qualification stopped, before it leaves the picture (R10, R11). -/
def State.withdrawn (s : State) (p : PointId) : State :=
  (({ s with shelves := s.shelves.filter fun e => e.point != p } : State).setService p .outService).stopQualification p

theorem State.takeOut_eq (s : State) (p : PointId) :
    s.takeOut p = ((s.withdrawn p).leavePicture p .outOfService).serviceChanged p := rfl

theorem State.withdrawn_hostRaw (s : State) (p : PointId) : ((s.withdrawn p).filterOf p).hostRaw = (s.filterOf p).hostRaw := by
  unfold State.withdrawn State.stopQualification
  rw [State.setFilter_filterOf, Function.update_self]
  rfl

/-- A departure keeps every host raw condition and sets no flag but those of the picture. -/
theorem State.Touches.leavePicture (s : State) (p : PointId) (a : AlarmState) :
    State.Touches (fun _ => True) s (s.leavePicture p a) :=
  (State.Touches.setAlarm s trivial a).trans (.leavePicture_after s p a trivial fun _ _ _ => trivial)

/-- What follows a change of service keeps every host raw condition. -/
theorem State.serviceChanged_hostRaw (s : State) (p q : PointId) :
    ((s.serviceChanged p).filterOf q).hostRaw = (s.filterOf q).hostRaw := by
  unfold State.serviceChanged
  split
  · have touches : State.Touches (fun _ => True) s.rederiveFaulted s.rederiveFaulted.handLineFault :=
      .handLineFault _ trivial trivial
    have same := State.SamePicture.rederiveFaulted s
    rw [touches.hostRaw q]
    simp only [State.filterOf, same.filter]
  · rfl
  · rfl

/-- A point out of service stands in OUT_OF_SERVICE, in none of the lists, with its qualification stopped (R10, R31, R36, R69). -/
theorem State.PictureParts.of_outService (h : s.PictureParts) (out : s.service[p] = .outService) :
    s.alarmOf p = .outOfService ∧ s.recordOf p = none ∧ p ∉ s.deferred ∧ (s.filterOf p).Stopped := by
  have alarm : s.alarmOf p = .outOfService := (h.points p).service.mp out
  refine ⟨alarm, ?_, ?_, (h.points p).stopped out⟩
  · rw [← Option.not_isSome_iff_eq_none, h.recordOf_isSome, alarm]
    decide
  · rw [h.deferred.mem, alarm]
    decide

/-- A stopped qualification is what its host raw condition says (R30, R31). -/
theorem Filter.Stopped.eq {f : Filter} (h : f.Stopped) :
    f = { hostRaw := f.hostRaw, raw := false, qualified := false, onTimer := none, offTimer := none, frozen := false } := by
  obtain ⟨hostRaw, raw, qualified, onTimer, offTimer, frozen⟩ := f
  obtain ⟨rfl, rfl, rfl, rfl, rfl⟩ := h
  rfl

/-- Settles O9: the picture stays legal, so a point out of service is in none of its lists. -/
theorem setServiceOutClearsPoint : Obligations.SetServiceOutClearsPoint := by
  refine ⟨fun b s h => ?_, fun p s service => ?_, fun p s _ legal service => ?_⟩
  · refine exec_answers rfl (t := s) ?_
    show ownSetServiceOut b s = _
    simp [ownSetServiceOut, pointOf_none h, State.refuse]
  · have out : s.inService p = false := by simp [State.inService, service]
    refine exec_answers rfl (t := s) ?_
    show ownSetServiceOut (byteOf p.val) s = _
    simp [ownSetServiceOut, out, State.replyOk]
  · have departure := State.PictureFrame.leavePicture (s.withdrawn p) p .outOfService
    have touches := State.Touches.leavePicture (s.withdrawn p) p .outOfService
    obtain ⟨config, hservice, -, shelves⟩ := ((s.withdrawn p).leavePicture p .outOfService).serviceChanged_frame p
    have services : (s.takeOut p).service = s.service.put p .outService := by
      rw [s.takeOut_eq, hservice, departure.service]
      rfl
    have list : (s.takeOut p).shelves = s.shelves.filter fun e => e.point != p := by
      rw [s.takeOut_eq, shelves, departure.shelves]
      rfl
    obtain ⟨alarm, record, deferred, stopped⟩ := (legal.parts.takeOut p).of_outService (p := p) (by simp [services])
    have host : ((s.takeOut p).filterOf p).hostRaw = (s.filterOf p).hostRaw :=
      ((State.serviceChanged_hostRaw _ p p).trans (touches.hostRaw p)).trans (s.withdrawn_hostRaw p)
    refine ⟨_, exec_answers rfl (t := s.takeOut p) (a := .okWith []) ?_, rfl, services, config.trans departure.config, alarm,
      record, deferred, fun e => ?_, stopped.eq.trans (by rw [host]),
      (State.serviceChanged_flag _ p rfl (by decide)).trans (touches.flags _ rfl),
      State.serviceChanged_follows (u := (s.withdrawn p).leavePicture p .outOfService) (departure.config.trans rfl)
        (departure.lines.trans rfl) (fun q ne => ?_) (departure.faulted.trans rfl) (touches.flags _ rfl)⟩
    · show ownSetServiceOut (byteOf p.val) s = _
      simp [ownSetServiceOut, State.inService_iff.mpr service, State.replyOk]
    · show e ∈ (s.takeOut p).shelves ↔ _
      rw [list]
      simp
    · rw [departure.service]
      exact (s.setService_serviceOf p q .outService).trans (if_neg ne.symm)

end Sys2Proof.Machine

namespace Sys2Proof.Machine

set_option Elab.async false

/-! ## What a claim on the alarm picture does to what the sources are read from

Edges, admissions and removals reach the qualification of no point but point 63, and that only by the hand-over of its
condition, which the deferred list gives (R75). -/

variable {s t u : State} {p q : PointId} {ovf : State → State}

/-- A claim within the alarm picture that leaves every qualification as it was. -/
structure State.Plain (s t : State) : Prop extends State.PictureFrame s t where
  filter : t.filter = s.filter

/-- A claim within the alarm picture that leaves every qualification and the deferred list as they were. -/
structure State.Still (s t : State) : Prop extends State.Plain s t where
  deferred : t.deferred = s.deferred

theorem State.Plain.trans (h : State.Plain s t) (k : State.Plain t u) : State.Plain s u :=
  ⟨h.toPictureFrame.trans k.toPictureFrame, k.filter.trans h.filter⟩

/-- A rewriting of the deferred list alone. -/
theorem State.Plain.setDeferred (s : State) (l : List PointId) : State.Plain s { s with deferred := l } :=
  ⟨.update s s.alarm s.filter s.roster s.generalCount l s.stampCounter s.groups s.events, rfl⟩

theorem State.Still.refl (s : State) : State.Still s s := ⟨⟨.refl s, rfl⟩, rfl⟩

theorem State.Still.trans (h : State.Still s t) (k : State.Still t u) : State.Still s u :=
  ⟨h.toPlain.trans k.toPlain, k.deferred.trans h.deferred⟩

theorem State.SoundFrame.still (h : State.SoundFrame s t) : State.Still s t := ⟨⟨h.picture, h.filter_eq⟩, h.deferred_eq⟩

theorem State.Still.setAlarm (s : State) (p : PointId) (a : AlarmState) : State.Still s (s.setAlarm p a) :=
  ⟨⟨.setAlarm s p a, rfl⟩, rfl⟩

theorem State.Still.setGroup (s : State) (g : GroupId) (r : GroupRecord) : State.Still s (s.setGroup g r) :=
  ⟨⟨.setGroup s g r, rfl⟩, rfl⟩

theorem State.Still.setRoster (s : State) (l : List RosterRecord) : State.Still s (s.setRoster l) :=
  ⟨⟨.setRoster s l, rfl⟩, rfl⟩

theorem State.Still.raise (s : State) (e : Event) : State.Still s (s.raise e) := ⟨⟨.raise s e, rfl⟩, rfl⟩

theorem State.Still.armQuiet (s : State) : State.Still s s.armQuiet := ⟨⟨.armQuiet s, rfl⟩, rfl⟩

theorem State.Still.emptySlot (s : State) (g : GroupId) : State.Still s (s.emptySlot g) := by
  unfold State.emptySlot
  split
  · exact (State.Still.setGroup s g _).trans (.setRoster _ _)
  · exact .refl s

theorem State.Still.releaseSlot (s : State) (p : PointId) (v : Bool) : State.Still s (s.releaseSlot p v) := by
  unfold State.releaseSlot
  split
  · split
    · exact .emptySlot s _
    · exact .refl s
  · exact .refl s

theorem State.Still.decideFirstOut (s : State) (p : PointId) : State.Still s (s.decideFirstOut p) := by
  unfold State.decideFirstOut
  split
  · exact (State.Still.setGroup s _ _).trans (.setRoster _ _)
  · exact .refl s

/-- An admission reaches no qualification and not the deferred list (R68). -/
theorem State.Still.admitPoint (s : State) (p : PointId) : State.Still s (s.admitPoint p) := by
  have enters : State.Still s (s.enterRoster p) :=
    ⟨⟨.update s (s.alarm.put p .alert) s.filter _ _ s.deferred _ s.groups s.events, rfl⟩, rfl⟩
  exact ((enters.trans (.decideFirstOut _ p)).trans (.raise _ _)).trans (State.SoundFrame.compareSince _ s).still

theorem State.Still.moveRecord (s : State) (p : PointId) (st : RecordState) (f : RosterRecord → RosterRecord) :
    State.Still s (s.moveRecord p st f) := (State.Still.setAlarm s p _).trans (.setRoster _ _)

theorem State.Still.recurrence (s : State) (p : PointId) : State.Still s (s.recurrence p) :=
  (State.Still.moveRecord s p _ _).trans ((State.SoundFrame.renewRecord _ p).trans (.compareSince _ s)).still

theorem State.Still.returnRecord (s : State) (p : PointId) : State.Still s (s.returnRecord p) :=
  (((State.Still.moveRecord s p _ _).trans (State.SoundFrame.renewRecord _ p).still).trans (.raise _ _)).trans
    (State.SoundFrame.compareSince _ s).still

theorem State.Still.silenceAll (s : State) : State.Still s s.silenceAll :=
  (State.Still.setRoster s _).trans (State.SoundFrame.compareSince _ s).still

theorem State.Still.expireReannounce (s : State) (p : PointId) (st : Stamp) :
    State.Still s (s.expireReannounce p st) := by
  unfold State.expireReannounce
  split
  · split
    · exact (State.Still.setRoster s _).trans ((State.SoundFrame.renewRecord _ p).trans (.compareSince _ s)).still
    · exact .refl s
  · exact .refl s

/-- A retirement up to the admission of the head of the deferred list (R72). -/
theorem State.Still.retired (s : State) (p : PointId) (a : AlarmState) (v : Bool) :
    State.Still s ((s.retired p a v).compareSince s) := by
  have leaves : State.Still s (s.leaveRoster p a) :=
    ⟨⟨.update s (s.alarm.put p a) s.filter _ _ s.deferred s.stampCounter s.groups s.events, rfl⟩, rfl⟩
  exact ((leaves.trans (.releaseSlot _ p v)).trans (.armQuiet _)).trans (State.SoundFrame.compareSince _ s).still

/-! ### Claims that may hand point 63 its condition -/

/-- A claim reaches no qualification itself, and hands point 63 its condition last if it has filled or emptied the deferred
list (R75). -/
def State.Hands (ovf : State → State) (s t : State) : Prop :=
  ∃ u, State.Plain s u ∧ (t = u ∧ (u.deferred = [] ↔ s.deferred = []) ∨ t = ovf u)

theorem State.Still.hands (h : State.Still s t) : State.Hands ovf s t := ⟨t, h.toPlain, .inl ⟨rfl, by rw [h.deferred]⟩⟩

/-- A removal from the deferred list hands over exactly when it has emptied the list (R71, R73). -/
theorem State.Plain.handIfEmptied (h : State.Plain s u) (empty : s.deferred = [] → u.deferred = []) :
    State.Hands ovf s (handIfEmptied ovf s.deferred u) := by
  refine ⟨u, h, ?_⟩
  unfold Machine.handIfEmptied
  split
  · exact .inr rfl
  · rename_i kept
    refine .inl ⟨rfl, fun now => ?_, empty⟩
    simpa [now] using kept

theorem State.Hands.after (k : State.Still s t) (h : State.Hands ovf t u) : State.Hands ovf s u := by
  obtain ⟨v, plain, last⟩ := h
  exact ⟨v, k.toPlain.trans plain, by rwa [k.deferred] at last⟩

theorem State.Hands.leaveDeferred (s : State) (p : PointId) (a : AlarmState) :
    State.Hands ovf s (s.leaveDeferred ovf p a) := by
  refine State.Plain.handIfEmptied ?_ fun empty => ?_
  · exact ((State.Still.setAlarm s p a).toPlain.trans (.setDeferred _ _)).trans (State.Still.armQuiet _).toPlain
  · show s.deferred.erase p = []
    simp [empty]

theorem State.Hands.requestAdmission (s : State) (p : PointId) : State.Hands ovf s (s.requestAdmission ovf p) := by
  rcases s.requestAdmission_cases ovf p with ⟨-, eq⟩ | ⟨-, -, eq⟩ <;> rw [eq]
  · exact (State.Still.admitPoint s p).hands
  · have entry : State.Plain s (({ s.setAlarm p .deferred with deferred := s.insertDeferred p } : State).raise .deferred) :=
      ((State.Still.setAlarm s p _).toPlain.trans (.setDeferred _ _)).trans (State.Still.raise _ _).toPlain
    refine ⟨_, entry, ?_⟩
    unfold State.defer
    dsimp only
    split
    · exact .inr rfl
    · rename_i waiting
      refine .inl ⟨rfl, ?_⟩
      have some : s.deferred ≠ [] := by simpa using waiting
      have placed : s.insertDeferred p ≠ [] := by simp [State.insertDeferred]
      exact iff_of_false placed some

theorem State.Hands.admitHead (s : State) : State.Hands ovf s (s.admitHead ovf) := by
  unfold State.admitHead
  split
  · exact (State.Still.refl s).hands
  · rename_i q rest list
    exact ((State.Plain.setDeferred s rest).trans (State.Still.admitPoint _ q).toPlain).handIfEmptied
      fun empty => absurd (list ▸ empty) (List.cons_ne_nil q rest)

/-- A retirement ends with the admission of the head of the deferred list, for a general point (R72). -/
theorem State.retire_cases (ovf : State → State) (s : State) (p : PointId) (a : AlarmState) :
    s.retire ovf p a = s.setAlarm p a ∨ ∃ v, s.retire ovf p a = (s.retired p a v).compareSince s ∨
      isGeneral p = true ∧ s.retire ovf p a = ((s.retired p a v).compareSince s).admitHead ovf := by
  unfold State.retire
  split
  · exact .inl rfl
  · rename_i r _
    refine .inr ⟨r.firstOut, ?_⟩
    dsimp only
    split
    · exact .inr ⟨‹_›, rfl⟩
    · exact .inl rfl

theorem State.Hands.retire (s : State) (p : PointId) (a : AlarmState) : State.Hands ovf s (s.retire ovf p a) := by
  rcases s.retire_cases ovf p a with eq | ⟨v, eq | ⟨-, eq⟩⟩ <;> rw [eq]
  · exact (State.Still.setAlarm s p a).hands
  · exact (State.Still.retired s p a v).hands
  · exact .after (.retired s p a v) (.admitHead _)

/-- A retirement fills no deferred list, whatever it hands over. -/
theorem State.retire_deferred_nil (p : PointId) (a : AlarmState) (empty : s.deferred = []) :
    (s.retire ovf p a).deferred = [] := by
  rcases s.retire_cases ovf p a with eq | ⟨v, eq | ⟨-, eq⟩⟩ <;> rw [eq]
  · exact empty
  · exact (State.Still.retired s p a v).deferred.trans empty
  · have none := (State.Still.retired s p a v).deferred.trans empty
    simp only [State.admitHead, none]

theorem State.Hands.riseWith (s : State) (p : PointId) : State.Hands ovf s (s.riseWith ovf p) := by
  rcases s.riseWith_cases ovf p with ⟨-, eq⟩ | ⟨-, eq⟩ | eq <;> rw [eq]
  · exact .requestAdmission s p
  · exact (State.Still.recurrence s p).hands
  · exact (State.Still.refl s).hands

theorem State.Hands.fallWith (s : State) (p : PointId) : State.Hands ovf s (s.fallWith ovf p) := by
  rcases s.fallWith_cases ovf p with ⟨-, -, eq⟩ | ⟨-, -, eq⟩ | ⟨-, -, eq⟩ | ⟨-, -, eq⟩ | eq <;> rw [eq]
  · exact (State.Still.returnRecord s p).hands
  · exact .retire s p _
  · exact (State.Still.moveRecord s p _ _).hands
  · exact .leaveDeferred s p _
  · exact (State.Still.refl s).hands

theorem State.Hands.acknowledgeWith (s : State) (src : AckSource) (p : PointId) :
    State.Hands ovf s (s.acknowledgeWith ovf src p) := by
  have keeps : ∀ st, State.Still s ((s.moveRecord p st (RosterRecord.acknowledge src)).compareSince s) := fun st =>
    (State.Still.moveRecord s p st _).trans (State.SoundFrame.compareSince _ s).still
  rcases s.acknowledgeWith_cases ovf src p with ⟨-, -, eq⟩ | ⟨-, -, eq⟩ | ⟨-, -, eq⟩ | ⟨-, -, eq⟩ | eq <;> rw [eq]
  · exact (keeps _).hands
  · exact (keeps _).hands
  · exact .retire s p _
  · exact .retire s p _
  · exact (State.Still.refl s).hands

theorem State.acknowledgeWith_deferred_nil (src : AckSource) (p : PointId) (empty : s.deferred = []) :
    (s.acknowledgeWith ovf src p).deferred = [] := by
  have keeps : ∀ st, ((s.moveRecord p st (RosterRecord.acknowledge src)).compareSince s).deferred = [] := fun st =>
    ((State.Still.moveRecord s p st _).trans (State.SoundFrame.compareSince _ s).still).deferred.trans empty
  rcases s.acknowledgeWith_cases ovf src p with ⟨-, -, eq⟩ | ⟨-, -, eq⟩ | ⟨-, -, eq⟩ | ⟨-, -, eq⟩ | eq <;> rw [eq]
  · exact keeps _
  · exact keeps _
  · exact State.retire_deferred_nil p _ empty
  · exact State.retire_deferred_nil p _ empty
  · exact empty

theorem State.Hands.leavePicture (s : State) (p : PointId) (a : AlarmState) :
    State.Hands State.handOverflow s (s.leavePicture p a) := by
  unfold State.leavePicture
  split
  case h_5 => exact .leaveDeferred s p a
  case h_6 | h_7 | h_8 => exact (State.Still.setAlarm s p a).hands
  all_goals exact .retire s p a

theorem State.Hands.endShelve (s : State) (p : PointId) : State.Hands State.handOverflow s (s.endShelve p) := by
  unfold State.endShelve
  dsimp only
  split
  · exact .after (.setAlarm s p _) (.riseWith _ p)
  · exact (State.Still.setAlarm s p _).hands

/-- Without a hand-over a claim reaches no qualification. -/
theorem State.Hands.plain (h : State.Hands id s t) : State.Plain s t := by
  obtain ⟨u, plain, ⟨rfl, -⟩ | rfl⟩ := h <;> exact plain

/-- An action on several records hands point 63 its condition once, at its end (R50, R51, R53). -/
theorem State.Hands.takeNamed (s : State) (sel : RosterRecord → Bool) {act : PointId → State → State}
    (hands : ∀ p u, State.Hands id u (act p u)) (empty : ∀ p u, u.deferred = [] → (act p u).deferred = []) :
    State.Hands State.handOverflow s (s.takeNamed sel act) := by
  have each : State.Plain s (s.forEachNamed sel act) ∧ (s.deferred = [] → (s.forEachNamed sel act).deferred = []) := by
    refine List.foldlRecOn (motive := fun u => State.Plain s u ∧ (s.deferred = [] → u.deferred = [])) _ _
      ⟨(State.Still.refl s).toPlain, id⟩ ?_
    rintro u ⟨plain, none⟩ n -
    split
    · exact ⟨plain.trans (hands _ u).plain, fun k => empty _ u (none k)⟩
    · exact ⟨plain, none⟩
  exact each.1.handIfEmptied each.2

theorem State.Hands.acknowledgeAll (s : State) (src : AckSource) (sel : RosterRecord → Bool) :
    State.Hands State.handOverflow s (s.acknowledgeAll src sel) :=
  .takeNamed s _ (fun p u => .acknowledgeWith u src p) fun p _ => State.acknowledgeWith_deferred_nil src p

theorem State.Hands.resetEvery (s : State) : State.Hands State.handOverflow s s.resetEvery :=
  .takeNamed s _ (fun p u => .retire u p _) fun p _ => State.retire_deferred_nil p _

end Sys2Proof.Machine

namespace Sys2Proof.Machine

set_option Elab.async false

/-! ## Raw conditions that follow their sources (R27 to R30, R75) -/

open Function (update)

variable {s t u : State} {p q : PointId}

/-- A point in service is frozen as its source says, and where it is not held its raw condition is its source's. -/
def State.FollowsAt (s : State) (p : PointId) : Prop :=
  s.inService p = true → (s.filterOf p).frozen = s.sourceFrozen p ∧
    (s.sourceFrozen p = false → (s.filterOf p).raw = s.sourceRaw p)

/-- The host raw condition belongs to HOST points alone (R30). -/
def State.HostRawLegal (s : State) : Prop := ∀ p, (s.cfg p).source ≠ .host → (s.filterOf p).hostRaw = false

theorem State.sourcesFollowed_iff :
    s.SourcesFollowed ↔ s.faulted = s.derivedFaulted ∧ (∀ p, s.FollowsAt p) ∧ s.HostRawLegal :=
  ⟨fun h => ⟨h.faulted, fun p service => ⟨h.frozen p service, h.raw p service⟩, h.hostRaw⟩,
    fun ⟨faulted, follows, host⟩ =>
      ⟨faulted, fun p service => (follows p service).1, fun p service => (follows p service).2, host⟩⟩

/-- A point follows its source as before when nothing that its source and its qualification are read from has changed. -/
theorem State.FollowsAt.congr (h : s.FollowsAt p) (cfg : t.cfg p = s.cfg p) (service : t.service[p] = s.service[p])
    (lines : ∀ n, (s.cfg p).source = .line n → (t.lines[n]).classification = (s.lines[n]).classification)
    (frozen : (t.filterOf p).frozen = (s.filterOf p).frozen)
    (raw : (t.filterOf p).raw = (s.filterOf p).raw) (hostRaw : (t.filterOf p).hostRaw = (s.filterOf p).hostRaw)
    (fault : (s.cfg p).source = .internal → p = lineFaultPoint → t.faulted = s.faulted)
    (overflow : (s.cfg p).source = .internal → p = overflowPoint → (t.deferred = [] ↔ s.deferred = [])) :
    t.FollowsAt p := by
  have held : t.sourceFrozen p = s.sourceFrozen p := by
    unfold State.sourceFrozen
    rw [cfg]
    cases source : (s.cfg p).source with
    | line n => simp only [lines n source]
    | host | internal => rfl
  have gives : t.sourceRaw p = s.sourceRaw p := by
    unfold State.sourceRaw
    rw [cfg]
    cases source : (s.cfg p).source with
    | line n => simp only [lines n source]
    | host => exact hostRaw
    | internal =>
      dsimp only
      split
      · rw [fault source ‹_›]
      · split
        · rw [Bool.eq_iff_iff]
          simpa using not_congr (overflow source ‹_›)
        · rfl
  intro inService
  have := h (by simpa only [State.inService, service] using inService)
  rwa [frozen, held, raw, gives]

/-! ### What leaves the sources and the qualifications alone -/

/-- Nothing has changed that sources and qualifications are read from. -/
structure State.SameSources (s t : State) : Prop where
  config : t.config = s.config
  service : t.service = s.service
  lines : t.lines = s.lines
  faulted : t.faulted = s.faulted
  filter : t.filter = s.filter
  deferred : t.deferred = s.deferred

theorem State.Apart.sameSources (h : State.Apart s t) : State.SameSources s t :=
  ⟨h.config, h.service, h.lines, h.faulted, h.filter, h.deferred⟩

theorem State.Still.sameSources (h : State.Still s t) : State.SameSources s t :=
  ⟨h.config, h.service, h.lines, h.faulted, h.filter, h.deferred⟩

theorem State.SameSources.followsAt (h : State.SameSources s t) (follows : s.FollowsAt p) : t.FollowsAt p := by
  have filter : t.filterOf p = s.filterOf p := by simp only [State.filterOf, h.filter]
  exact follows.congr (by simp only [State.cfg, h.config]) (by rw [h.service]) (fun _ _ => by rw [h.lines])
    (by rw [filter]) (by rw [filter]) (by rw [filter]) (fun _ _ => h.faulted) fun _ _ => by rw [h.deferred]

theorem State.SameSources.sourcesFollowed (h : State.SameSources s t) (follows : s.SourcesFollowed) :
    t.SourcesFollowed := by
  obtain ⟨faulted, each, host⟩ := State.sourcesFollowed_iff.mp follows
  refine State.sourcesFollowed_iff.mpr ⟨?_, fun p => h.followsAt (each p), fun p source => ?_⟩
  · rw [h.faulted, faulted]
    refine (State.derivedFaulted_congr h.lines fun n => ?_).symm
    simp only [State.lineInUse, State.inService, State.cfg, h.config, h.service]
  · simp only [State.cfg, State.filterOf, h.config, h.filter] at source ⊢
    exact host p source

/-! ### Claims on the alarm picture -/

/-- What a claim on the alarm picture does to the qualifications: none but point 63's has changed, and that one still follows
the deferred list, or follows it now (R75). -/
structure State.Relays (s t : State) : Prop extends State.PictureFrame s t where
  filter : ∀ q, q ≠ overflowPoint → t.filterOf q = s.filterOf q
  hostRaw : ∀ q, (t.filterOf q).hostRaw = (s.filterOf q).hostRaw
  frozen : ∀ q, (t.filterOf q).frozen = (s.filterOf q).frozen
  overflow : ((t.filterOf overflowPoint).raw = (s.filterOf overflowPoint).raw ∧ (t.deferred = [] ↔ s.deferred = [])) ∨
    (t.inService overflowPoint = true → (t.filterOf overflowPoint).raw = !t.deferred.isEmpty)

theorem State.PictureFrame.inService (h : State.PictureFrame s t) (p : PointId) : t.inService p = s.inService p := by
  simp only [State.inService, h.service]

theorem State.PictureFrame.cfg (h : State.PictureFrame s t) (p : PointId) : t.cfg p = s.cfg p := by
  simp only [State.cfg, h.config]

theorem State.Plain.filterOf (h : State.Plain s t) (p : PointId) : t.filterOf p = s.filterOf p := by
  simp only [State.filterOf, h.filter]

theorem State.Plain.relays (h : State.Plain s t) (list : t.deferred = [] ↔ s.deferred = []) : State.Relays s t :=
  ⟨h.toPictureFrame, fun q _ => h.filterOf q, fun q => by rw [h.filterOf], fun q => by rw [h.filterOf],
    .inl ⟨by rw [h.filterOf], list⟩⟩

/-- The edges of point 63 leave the deferred list as it is: an internal point is never deferred, and a fall comes when the
list is empty (R67, R73, R75). -/
theorem State.overflow_edge_still {v : Bool} (list : v = !s.deferred.isEmpty) :
    (v = true → State.Still s (s.riseWith id overflowPoint)) ∧ (v = false → State.Still s (s.fallWith id overflowPoint)) := by
  refine ⟨fun _ => ?_, fun absent => ?_⟩
  · rcases s.riseWith_cases id overflowPoint with ⟨-, eq⟩ | ⟨-, eq⟩ | eq <;> rw [eq]
    · exact .admitPoint s _
    · exact .recurrence s _
    · exact .refl s
  · have empty : s.deferred = [] := by simpa [absent] using list
    have none : (s.fallWith id overflowPoint).deferred = [] := by
      rcases s.fallWith_cases id overflowPoint with ⟨-, -, eq⟩ | ⟨-, -, eq⟩ | ⟨-, -, eq⟩ | ⟨-, -, eq⟩ | eq <;> rw [eq]
      · exact (State.Still.returnRecord s _).deferred.trans empty
      · exact State.retire_deferred_nil _ _ empty
      · exact (State.Still.moveRecord s _ _ _).deferred.trans empty
      · show (handIfEmptied id s.deferred _).deferred = []
        simp [handIfEmptied, empty, State.armQuiet]
      · exact empty
    exact ⟨(State.Hands.fallWith s overflowPoint).plain, none.trans empty.symm⟩

end Sys2Proof.Machine

namespace Sys2Proof.Machine

set_option Elab.async false

/-! ### A raw condition handed to a point (R27, R31) -/

open Function (update)

variable {s t u : State} {p q : PointId} {ovf : State → State}

/-- What R31's table makes of a qualification. -/
def Filter.taken (c : PointConfig) (f : Filter) (v : Bool) : Filter :=
  if f.raw = v then f
  else
    match v, f.qualified with
    | true, false =>
      if c.onDelay = 0 then { f with raw := true, qualified := true, onTimer := none, offTimer := none }
      else { f with raw := true, onTimer := some (c.onDelay.toNat * Config.delayUnit) }
    | true, true => { f with raw := true, offTimer := none }
    | false, false => { f with raw := false, onTimer := none }
    | false, true =>
      if c.offDelay = 0 then { f with raw := false, qualified := false, onTimer := none, offTimer := none }
      else { f with raw := false, offTimer := some (c.offDelay.toNat * Config.delayUnit) }

theorem Filter.taken_takes (c : PointConfig) (f : Filter) (v : Bool) : Filter.Takes c f v (f.taken c v) := by
  constructor
  case same => exact fun same => if_pos same
  case starts =>
    rintro raw rfl absent delay
    simp only [Filter.taken, raw, absent, Bool.false_eq_true, if_false]
    exact if_neg delay
  case runsOut =>
    rintro raw rfl present delay
    simp only [Filter.taken, raw, present, Bool.true_eq_false, if_false]
    exact if_neg delay
  all_goals
    intros
    simp [Filter.taken, *]

/-- The table leaves the host raw condition and the freeze alone, and gives the point the raw condition handed to it. -/
theorem Filter.taken_keeps (c : PointConfig) (f : Filter) (v : Bool) :
    (f.taken c v).raw = v ∧ (f.taken c v).hostRaw = f.hostRaw ∧ (f.taken c v).frozen = f.frozen := by
  unfold Filter.taken
  split
  · exact ⟨‹_›, rfl, rfl⟩
  · split
    · split <;> exact ⟨rfl, rfl, rfl⟩
    · exact ⟨rfl, rfl, rfl⟩
    · exact ⟨rfl, rfl, rfl⟩
    · split <;> exact ⟨rfl, rfl, rfl⟩

/-- A raw condition that an in-service point takes goes through R31's table, and an edge that the table gives is taken. -/
theorem State.takeRawWith_eq (service : s.inService p = true) (v : Bool) :
    s.takeRawWith ovf p v =
      if ((s.filterOf p).taken (s.cfg p) v).qualified = (s.filterOf p).qualified then
        s.setFilter p ((s.filterOf p).taken (s.cfg p) v)
      else if v then (s.setFilter p ((s.filterOf p).taken (s.cfg p) v)).riseWith ovf p
      else (s.setFilter p ((s.filterOf p).taken (s.cfg p) v)).fallWith ovf p := by
  by_cases same : (s.filterOf p).raw = v
  · simp [State.takeRawWith, Filter.taken, same, s.setFilter_self]
  · have changes : ¬ (s.inService p = false ∨ (s.filterOf p).raw = v) := by simp [service, same]
    unfold State.takeRawWith Filter.taken
    dsimp only
    rw [if_neg changes, if_neg same]
    cases v <;> cases (s.filterOf p).qualified <;> dsimp only
    case false.false => rw [if_pos rfl]
    case true.true => rw [if_pos rfl]
    all_goals
      split
      · simp
      · rw [if_pos rfl]

theorem State.setFilter_setFilter (s : State) (p : PointId) (f g : Filter) :
    (s.setFilter p f).setFilter p g = s.setFilter p g := by
  simp [State.setFilter, Table.put]

theorem State.Hands.takeRawWith (service : s.inService p = true) (v : Bool) :
    State.Hands ovf (s.setFilter p ((s.filterOf p).taken (s.cfg p) v)) (s.takeRawWith ovf p v) := by
  rw [State.takeRawWith_eq service]
  split
  · exact (State.Still.refl _).hands
  · split
    · exact .riseWith _ p
    · exact .fallWith _ p

/-- A point out of service takes no raw condition. -/
theorem State.takeRawWith_outService (out : s.inService p = false) (v : Bool) : s.takeRawWith ovf p v = s := by
  simp [State.takeRawWith, out]

/-- Point 63 takes its condition from the deferred list, and its edges leave the list as it is (R75). -/
theorem State.handOverflow_still (service : s.inService overflowPoint = true) :
    State.Still (s.setFilter overflowPoint
      ((s.filterOf overflowPoint).taken (s.cfg overflowPoint) (!s.deferred.isEmpty))) s.handOverflow := by
  obtain ⟨rises, falls⟩ := State.overflow_edge_still (v := !s.deferred.isEmpty) (s := s.setFilter overflowPoint
    ((s.filterOf overflowPoint).taken (s.cfg overflowPoint) (!s.deferred.isEmpty))) rfl
  unfold State.handOverflow
  rw [State.takeRawWith_eq service]
  split
  · exact .refl _
  · split
    · exact rises ‹_›
    · rename_i present
      exact falls (Bool.eq_false_iff.mpr present)

theorem State.handOverflow_follows (service : s.inService overflowPoint = true) :
    (s.handOverflow.filterOf overflowPoint).raw = !s.handOverflow.deferred.isEmpty := by
  have still := State.handOverflow_still service
  rw [still.filterOf, still.deferred, State.filterOf_setFilter_self]
  exact (Filter.taken_keeps _ _ _).1

/-- The hand-over reaches point 63 alone, and neither its host raw condition nor its freeze (R75). -/
theorem State.handOverflow_filterOf (s : State) (q : PointId) :
    (q ≠ overflowPoint → s.handOverflow.filterOf q = s.filterOf q) ∧
      (s.handOverflow.filterOf q).hostRaw = (s.filterOf q).hostRaw ∧
      (s.handOverflow.filterOf q).frozen = (s.filterOf q).frozen := by
  cases service : s.inService overflowPoint with
  | false =>
    rw [State.handOverflow, State.takeRawWith_outService service]
    exact ⟨fun _ => rfl, rfl, rfl⟩
  | true =>
    rw [(State.handOverflow_still service).filterOf, State.filterOf_setFilter]
    split
    · rename_i own
      subst own
      exact ⟨fun ne => absurd rfl ne, (Filter.taken_keeps _ _ _).2⟩
    · exact ⟨fun _ => rfl, rfl, rfl⟩

theorem State.Relays.handOverflow (s : State) : State.Relays s s.handOverflow :=
  ⟨.handOverflow s, fun q => (s.handOverflow_filterOf q).1, fun q => (s.handOverflow_filterOf q).2.1,
    fun q => (s.handOverflow_filterOf q).2.2,
    .inr fun service => State.handOverflow_follows ((State.PictureFrame.handOverflow s).inService _ ▸ service)⟩

/-- A claim that ends with its hand-over, if it has one, relays the deferred list to point 63. -/
theorem State.Hands.relays (h : State.Hands State.handOverflow s t) : State.Relays s t := by
  obtain ⟨u, plain, ⟨rfl, list⟩ | rfl⟩ := h
  · exact plain.relays list
  · have handed := State.Relays.handOverflow u
    exact ⟨plain.toPictureFrame.trans handed.toPictureFrame, fun q ne => (handed.filter q ne).trans (plain.filterOf q),
      fun q => (handed.hostRaw q).trans (by rw [plain.filterOf]), fun q => (handed.frozen q).trans (by rw [plain.filterOf]),
      .inr fun service => State.handOverflow_follows ((State.PictureFrame.handOverflow u).inService _ ▸ service)⟩

/-! ### Points that follow their sources, under a claim -/

theorem State.ConfigLegal.overflow_source (h : s.ConfigLegal) : (s.cfg overflowPoint).source = .internal :=
  h.internalSource _ rfl

theorem State.ConfigLegal.lineFault_source (h : s.ConfigLegal) : (s.cfg lineFaultPoint).source = .internal :=
  h.internalSource _ rfl

/-- A claim on the alarm picture leaves every point following its source that did (R27 to R30, R75). -/
theorem State.Relays.followsAt (h : State.Relays s t) (config : s.ConfigLegal) (follows : s.FollowsAt q) : t.FollowsAt q := by
  have transfer : (t.filterOf q).raw = (s.filterOf q).raw → (q = overflowPoint → (t.deferred = [] ↔ s.deferred = [])) →
      t.FollowsAt q := fun raw list =>
    follows.congr (h.cfg q) (by rw [h.service]) (fun _ _ => by rw [h.lines]) (h.frozen q) raw (h.hostRaw q) (fun _ _ => h.faulted)
      fun _ own => list own
  rcases eq_or_ne q overflowPoint with rfl | ne
  · rcases h.overflow with ⟨raw, list⟩ | now
    · exact transfer raw fun _ => list
    · intro service
      have internal : (t.cfg overflowPoint).source = .internal := (h.cfg _).symm ▸ config.overflow_source
      have before := (follows (h.inService _ ▸ service)).1
      have held : s.sourceFrozen overflowPoint = false := by simp [State.sourceFrozen, config.overflow_source]
      have free : t.sourceFrozen overflowPoint = false := by simp [State.sourceFrozen, internal]
      refine ⟨by rw [h.frozen, before, held, free], fun _ => ?_⟩
      rw [now service]
      simp [State.sourceRaw, internal, show overflowPoint ≠ lineFaultPoint by decide]
  · exact transfer (by rw [h.filter q ne]) fun own => absurd own ne

theorem State.Relays.hostRawLegal (h : State.Relays s t) (host : s.HostRawLegal) : t.HostRawLegal := fun q source => by
  rw [h.hostRaw]
  exact host q (by rwa [h.cfg] at source)

theorem State.Relays.sourcesFollowed (h : State.Relays s t) (config : s.ConfigLegal) (follows : s.SourcesFollowed) :
    t.SourcesFollowed := by
  obtain ⟨faulted, each, host⟩ := State.sourcesFollowed_iff.mp follows
  refine State.sourcesFollowed_iff.mpr ⟨?_, fun q => h.followsAt config (each q), h.hostRawLegal host⟩
  rw [h.faulted, faulted, h.toPictureFrame.derivedFaulted]

/-- A rewriting of one point's qualification leaves every other point as it was. -/
theorem State.FollowsAt.setFilter_ne {f : Filter} (h : s.FollowsAt q) (ne : q ≠ p) : (s.setFilter p f).FollowsAt q := by
  have read : (s.setFilter p f).filterOf q = s.filterOf q := by rw [State.setFilter_filterOf, Function.update_of_ne ne]
  exact h.congr rfl rfl (fun _ _ => rfl) (by rw [read]) (by rw [read]) (by rw [read]) (fun _ _ => rfl) fun _ _ => .rfl

theorem State.HostRawLegal.setFilter {f : Filter} (h : s.HostRawLegal) (host : f.hostRaw = (s.filterOf p).hostRaw) :
    (s.setFilter p f).HostRawLegal := fun q source => by
  rw [State.filterOf_setFilter]
  split
  · rename_i own
    rw [host, own]
    exact h q source
  · exact h q source

end Sys2Proof.Machine

namespace Sys2Proof.Machine

set_option Elab.async false

/-! ### A point takes its source's condition (R27, R28, R33) -/

variable {s t u : State} {p q : PointId} {ovf : State → State} {α : Type}

/-- The qualification that a point comes to when it takes its source as it stands: frozen where the source holds it, and
otherwise freed and taken through R31's table (R27, R28). -/
def State.sourced (s : State) (p : PointId) : Filter :=
  if s.sourceFrozen p then { s.filterOf p with frozen := true }
  else ({ s.filterOf p with frozen := false } : Filter).taken (s.cfg p) (s.sourceRaw p)

/-- In service a point is not frozen unless it is sourced from a line (R28). -/
def State.LooseAt (s : State) (p : PointId) : Prop :=
  s.inService p = true → (∀ n, (s.cfg p).source ≠ .line n) → (s.filterOf p).frozen = false

/-- In service no point is frozen but those sourced from lines (R28). -/
def State.Loose (s : State) : Prop := ∀ p, s.LooseAt p

theorem State.sourced_keeps (s : State) (p : PointId) :
    (s.sourced p).hostRaw = (s.filterOf p).hostRaw ∧ (s.sourced p).frozen = s.sourceFrozen p ∧
      (s.sourceFrozen p = false → (s.sourced p).raw = s.sourceRaw p) := by
  obtain ⟨raw, host, frozen⟩ :=
    Filter.taken_keeps (s.cfg p) { s.filterOf p with frozen := false } (s.sourceRaw p)
  unfold State.sourced
  cases s.sourceFrozen p
  · exact ⟨host, frozen, fun _ => raw⟩
  · exact ⟨rfl, rfl, fun free => absurd free (by decide)⟩

theorem State.sourceFrozen_of_ne_line (source : ∀ n, (s.cfg p).source ≠ .line n) : s.sourceFrozen p = false := by
  unfold State.sourceFrozen
  split
  · rename_i n line
    exact absurd line (source n)
  · rfl
  · rfl

/-- A point out of service takes nothing from its source. -/
theorem State.takeSource_outService (out : s.inService p = false) : s.takeSource p = s := by
  unfold State.takeSource
  split
  · simp [State.takeLine, out]
  · exact State.takeRawWith_outService out _
  · split
    · rename_i own
      subst own
      exact State.takeRawWith_outService out _
    · split
      · rename_i own
        subst own
        exact State.takeRawWith_outService out _
      · rfl

/-- A point in service that its source does not hold is freed and takes the condition that the source gives; point 63's edges
leave the deferred list as it is (R28, R33, R75). -/
theorem State.takeSource_free (config : s.ConfigLegal) (service : s.inService p = true) (loose : s.LooseAt p)
    (free : s.sourceFrozen p = false) :
    (p ≠ overflowPoint ∧ s.takeSource p =
        (s.setFilter p { s.filterOf p with frozen := false }).takeRaw p (s.sourceRaw p)) ∨
      p = overflowPoint ∧ s.takeSource p = s.handOverflow ∧ (s.filterOf p).frozen = false ∧
        s.sourceRaw p = !s.deferred.isEmpty := by
  have unfrozen : (∀ n, (s.cfg p).source ≠ .line n) → s.setFilter p { s.filterOf p with frozen := false } = s := by
    intro source
    have kept : { s.filterOf p with frozen := false } = s.filterOf p := by rw [← loose service source]
    rw [kept, s.setFilter_self]
  have overflow := config.overflow_source
  unfold State.takeSource State.sourceRaw
  cases source : (s.cfg p).source with
  | line n =>
    have other : p ≠ overflowPoint := by rintro rfl; rw [source] at overflow; exact nomatch overflow
    have open' : ¬ ((s.cfg p).faultResponse = .hold ∧ (s.lines[n]).classification.isFault = true) := by
      simpa [State.sourceFrozen, source] using free
    refine .inl ⟨other, ?_⟩
    simp only [State.takeLine, service, Bool.true_eq_false, if_false, if_neg open']
  | host =>
    have other : p ≠ overflowPoint := by rintro rfl; rw [source] at overflow; exact nomatch overflow
    exact .inl ⟨other, by rw [unfrozen (by simp [source])]⟩
  | internal =>
    rcases eq_or_ne p overflowPoint with rfl | other
    · exact .inr ⟨rfl, rfl, loose service (by simp [source]), rfl⟩
    · have own : p = lineFaultPoint := by
        by_contra k
        refine config.generalSource p ?_ source
        have : p.val ≠ 62 := fun eq => k (Fin.ext eq)
        have : p.val ≠ 63 := fun eq => other (Fin.ext eq)
        simp only [isGeneral, decide_eq_true_eq]
        omega
      subst own
      exact .inl ⟨other, by rw [unfrozen (by simp [source])]; rfl⟩

/-- Taking its source gives a point the qualification `sourced`, and relays what its edge makes of the deferred list. -/
theorem State.takeSource_sourced (config : s.ConfigLegal) (service : s.inService p = true) (loose : s.LooseAt p) :
    State.Relays (s.setFilter p (s.sourced p)) (s.takeSource p) ∧ (s.takeSource p).filterOf p = s.sourced p := by
  unfold State.sourced
  cases held : s.sourceFrozen p with
  | true =>
    rw [State.takeSource_of_held service held, if_pos rfl]
    exact ⟨(State.Still.refl _).toPlain.relays .rfl, State.filterOf_setFilter_self _ _ _⟩
  | false =>
    rw [if_neg Bool.false_ne_true]
    rcases State.takeSource_free config service loose held with ⟨other, eq⟩ | ⟨rfl, eq, unfrozen, raw⟩ <;> rw [eq]
    · have hands := State.Hands.takeRawWith (ovf := State.handOverflow)
        (s := s.setFilter p { s.filterOf p with frozen := false }) (p := p) service (s.sourceRaw p)
      rw [State.filterOf_setFilter_self, State.setFilter_cfg, State.setFilter_setFilter] at hands
      exact ⟨hands.relays, (hands.relays.filter p other).trans (State.filterOf_setFilter_self _ _ _)⟩
    · have kept : { s.filterOf overflowPoint with frozen := false } = s.filterOf overflowPoint := by rw [← unfrozen]
      rw [kept, raw]
      have still := State.handOverflow_still service
      exact ⟨still.toPlain.relays (by rw [still.deferred]), (still.filterOf _).trans (State.filterOf_setFilter_self _ _ _)⟩

theorem State.takeRaw_filterOf_ne (ne : q ≠ p) (other : q ≠ overflowPoint) (v : Bool) :
    (s.takeRaw p v).filterOf q = s.filterOf q := by
  unfold State.takeRaw
  cases service : s.inService p with
  | false => rw [State.takeRawWith_outService service]
  | true =>
    rw [(State.Hands.takeRawWith service v).relays.filter q other, State.filterOf_setFilter, if_neg ne.symm]

/-- Of the qualifications, taking a source reaches that of its point and point 63's. -/
theorem State.takeSource_filterOf_ne (ne : q ≠ p) (other : q ≠ overflowPoint) :
    (s.takeSource p).filterOf q = s.filterOf q := by
  unfold State.takeSource
  split
  · unfold State.takeLine
    split
    · rfl
    · split
      · rw [State.filterOf_setFilter, if_neg ne.symm]
      · rw [State.takeRaw_filterOf_ne ne other, State.filterOf_setFilter, if_neg ne.symm]
  · exact State.takeRaw_filterOf_ne ne other _
  · split
    · rename_i own
      exact State.takeRaw_filterOf_ne (own ▸ ne) other _
    · split
      · exact (s.handOverflow_filterOf q).1 other
      · rfl

/-- A point that has taken its source follows it, and every point that did still does. -/
theorem State.takeSource_followsAt (config : s.ConfigLegal) (loose : s.Loose) :
    (s.takeSource p).FollowsAt p ∧ (s.FollowsAt q → (s.takeSource p).FollowsAt q) := by
  cases service : s.inService p with
  | false =>
    rw [State.takeSource_outService service]
    exact ⟨fun on => absurd on (by simp [service]), id⟩
  | true =>
    have relays := (State.takeSource_sourced config service (loose p)).1
    have legal : (s.setFilter p (s.sourced p)).ConfigLegal := (State.PictureFrame.setFilter s p _).sameSettings.legal config
    obtain ⟨host, frozen, raw⟩ := s.sourced_keeps p
    have own : (s.setFilter p (s.sourced p)).FollowsAt p := by
      have gives : (s.setFilter p (s.sourced p)).sourceRaw p = s.sourceRaw p := by
        simp only [State.sourceRaw, State.filterOf_setFilter_self, host]
        rfl
      intro _
      rw [State.filterOf_setFilter_self, gives]
      exact ⟨frozen, raw⟩
    refine ⟨relays.followsAt legal own, fun follows => ?_⟩
    rcases eq_or_ne q p with rfl | ne
    · exact relays.followsAt legal own
    · exact relays.followsAt legal (follows.setFilter_ne ne)

theorem State.Relays.loose (h : State.Relays s t) (loose : s.Loose) : t.Loose := fun q service source => by
  rw [h.frozen]
  exact loose q (h.inService q ▸ service) (h.cfg q ▸ source)

theorem State.Loose.takeSource (h : s.Loose) (config : s.ConfigLegal) (p : PointId) : (s.takeSource p).Loose := by
  cases service : s.inService p with
  | false => rwa [State.takeSource_outService service]
  | true =>
    refine (State.takeSource_sourced config service (h p)).1.loose fun q on source => ?_
    rw [State.filterOf_setFilter]
    split
    · rename_i own
      subst own
      exact (s.sourced_keeps p).2.1.trans (State.sourceFrozen_of_ne_line source)
    · exact h q on source

theorem State.loose_of_followsAt (follows : ∀ q, s.inService q = true → (∀ n, (s.cfg q).source ≠ .line n) → s.FollowsAt q) :
    s.Loose := fun q service source =>
  ((follows q service source service).1).trans (State.sourceFrozen_of_ne_line source)

/-! ### Several points take their sources at one moment (R27, R33, R35) -/

/-- Each of the claims of one moment has its turn, with some of the others before it and the rest behind (R38). -/
theorem State.takeAll_split {claims : List α} {x : α} (mem : x ∈ claims) (s : State) (take : α → State → State) :
    ∃ before after, (before ++ x :: after).Perm claims ∧
      s.takeAll claims take = after.foldl (fun t y => take y t)
        (take x (before.foldl (fun t y => take y t) { s with freeCount := s.freeCount + 1 })) := by
  obtain ⟨before, after, eq⟩ := List.append_of_mem (mem_arrange (occasion := s.freeCount).mpr mem)
  refine ⟨before, after, eq ▸ arrange_perm _ _, ?_⟩
  rw [State.takeAll, eq, List.foldl_append, List.foldl_cons]

/-- What taking a source keeps, taking several keeps. -/
theorem State.foldl_takeSource {P : State → Prop} (keep : ∀ p u, P u → P (u.takeSource p)) (l : List PointId) (start : P s) :
    P (l.foldl (fun t p => t.takeSource p) s) :=
  List.foldlRecOn l _ start fun u hu p _ => keep p u hu

/-- What points that take their sources keep: the settings, and that only points of lines are frozen. -/
theorem State.foldl_takeSource_loose (config : s.ConfigLegal) (loose : s.Loose) (l : List PointId) :
    State.PictureFrame s (l.foldl (fun t p => t.takeSource p) s) ∧ (l.foldl (fun t p => t.takeSource p) s).Loose :=
  State.foldl_takeSource (P := fun u => State.PictureFrame s u ∧ u.Loose)
    (fun p u hu => ⟨hu.1.trans (.takeSource u p), hu.2.takeSource (hu.1.sameSettings.legal config) p⟩) l ⟨.refl s, loose⟩

theorem State.foldl_takeSource_followsAt (config : s.ConfigLegal) (loose : s.Loose) (l : List PointId)
    (follows : s.FollowsAt q) : (l.foldl (fun t p => t.takeSource p) s).FollowsAt q := by
  refine (State.foldl_takeSource (P := fun u => (u.ConfigLegal ∧ u.Loose) ∧ u.FollowsAt q) (fun p u hu => ?_) l
    ⟨⟨config, loose⟩, follows⟩).2
  obtain ⟨⟨legal, free⟩, follows⟩ := hu
  exact ⟨⟨(State.PictureFrame.takeSource u p).sameSettings.legal legal, free.takeSource legal p⟩,
    (State.takeSource_followsAt legal free).2 follows⟩

theorem State.Loose.setFreeCount (h : s.Loose) (n : Nat) : ({ s with freeCount := n } : State).Loose := h

/-- Points that take their sources at one moment follow them afterwards, and the others still do if they did. -/
theorem State.takeAll_takeSource_followsAt (config : s.ConfigLegal) (loose : s.Loose) {claims : List PointId}
    (follows : q ∉ claims → s.FollowsAt q) : (s.takeAll claims fun p u => u.takeSource p).FollowsAt q := by
  have legal : ({ s with freeCount := s.freeCount + 1 } : State).ConfigLegal :=
    (State.Apart.setFreeCount s _).sameSettings.legal config
  by_cases mem : q ∈ claims
  · obtain ⟨before, after, -, eq⟩ := State.takeAll_split mem s fun p u => u.takeSource p
    obtain ⟨frame, free⟩ := State.foldl_takeSource_loose legal (loose.setFreeCount _) before
    have legal' := frame.sameSettings.legal legal
    rw [eq]
    exact State.foldl_takeSource_followsAt ((State.PictureFrame.takeSource _ q).sameSettings.legal legal')
      (free.takeSource legal' q) after (State.takeSource_followsAt (q := q) legal' free).1
  · exact State.foldl_takeSource_followsAt legal (loose.setFreeCount _) _
      ((State.Apart.setFreeCount s _).sameSources.followsAt (follows mem))

theorem State.foldl_takeSource_filterOf (other : q ≠ overflowPoint) {l : List PointId} (out : q ∉ l) (s : State) :
    (l.foldl (fun t p => t.takeSource p) s).filterOf q = s.filterOf q := by
  induction l generalizing s with
  | nil => rfl
  | cons p l ih =>
    obtain ⟨ne, out⟩ : q ≠ p ∧ q ∉ l := by simpa [not_or] using out
    exact (ih out _).trans (State.takeSource_filterOf_ne ne other)

/-- What a source gives a point depends on the frame of the alarm picture and the host's condition alone; point 63's reads
the deferred list besides. -/
theorem State.PictureFrame.source (frame : State.PictureFrame s t) (other : p ≠ overflowPoint)
    (host : (t.filterOf p).hostRaw = (s.filterOf p).hostRaw) :
    t.sourceFrozen p = s.sourceFrozen p ∧ t.sourceRaw p = s.sourceRaw p := by
  refine ⟨by simp only [State.sourceFrozen, frame.cfg, frame.lines], ?_⟩
  simp only [State.sourceRaw, frame.cfg, frame.lines, frame.faulted, host, if_neg other]

theorem State.PictureFrame.sourced (frame : State.PictureFrame s t) (other : p ≠ overflowPoint)
    (filter : t.filterOf p = s.filterOf p) : t.sourced p = s.sourced p := by
  obtain ⟨frozen, raw⟩ := frame.source other (congrArg Filter.hostRaw filter)
  simp only [State.sourced, frozen, raw, filter, frame.cfg]

/-- Of points that take their sources at one moment, once each, every one comes to the qualification its source gives. -/
theorem State.takeAll_takeSource_sourced (config : s.ConfigLegal) (loose : s.LooseAt p) {claims : List PointId}
    (distinct : claims.Nodup) (mem : p ∈ claims) (service : s.inService p = true) (other : p ≠ overflowPoint) :
    (s.takeAll claims fun p u => u.takeSource p).filterOf p = s.sourced p := by
  obtain ⟨before, after, perm, eq⟩ := State.takeAll_split mem s fun p u => u.takeSource p
  obtain ⟨early, late⟩ : p ∉ before ∧ p ∉ after := by
    have once := perm.nodup_iff.mpr distinct
    rw [List.nodup_middle, List.nodup_cons, List.mem_append, not_or] at once
    exact once.1
  let v : State := { s with freeCount := s.freeCount + 1 }
  have frame : State.PictureFrame v (before.foldl (fun (t : State) p => t.takeSource p) v) :=
    State.foldl_takeSource (fun p u hu => hu.trans (.takeSource u p)) before (.refl _)
  have filter := State.foldl_takeSource_filterOf other early v
  rw [eq, State.foldl_takeSource_filterOf other late, (State.takeSource_sourced
    (frame.sameSettings.legal ((State.Apart.setFreeCount s _).sameSettings.legal config)) (frame.inService p ▸ service)
    fun on source => filter ▸ loose (frame.inService p ▸ on) (frame.cfg p ▸ source)).2]
  exact frame.sourced other filter

theorem State.HostRawLegal.takeAll_takeSource (h : s.HostRawLegal) (claims : List PointId) :
    (s.takeAll claims fun p u => u.takeSource p).HostRawLegal := by
  refine State.takeAll_induct (P := State.HostRawLegal) h fun p _ u hu q source => ?_
  rw [(State.Touches.takeSource u p).hostRaw]
  exact hu q ((State.PictureFrame.takeSource u p).cfg q ▸ source)

end Sys2Proof.Machine

namespace Sys2Proof.Machine

set_option Elab.async false

/-! ## Every step keeps raw conditions following their sources (R27 to R30, R75) -/

open Function (update)

variable {s t u : State} {p q : PointId}

theorem State.SourcesFollowed.loose (h : s.SourcesFollowed) : s.Loose :=
  State.loose_of_followsAt fun q _ _ => (State.sourcesFollowed_iff.mp h).2.1 q

theorem State.mem_pointsOn {ns : List LineId} :
    p ∈ s.pointsOn ns ↔ s.inService p = true ∧ ∃ n ∈ ns, (s.cfg p).source = .line n := by
  simp only [State.pointsOn, allPoints, List.mem_filter, List.mem_finRange, true_and, Bool.and_eq_true, and_congr_right_iff]
  intro _
  cases (s.cfg p).source <;> simp

/-! ### A new faulted-line set (R29) -/

/-- Point 62 alone reads the faulted-line set. -/
theorem State.FollowsAt.rederiveFaulted (h : s.FollowsAt q) (other : q ≠ lineFaultPoint) :
    s.rederiveFaulted.FollowsAt q := by
  have same := State.SamePicture.rederiveFaulted s
  have filter : s.rederiveFaulted.filterOf q = s.filterOf q := by simp only [State.filterOf, same.filter]
  have lines : s.rederiveFaulted.lines = s.lines := by
    unfold State.rederiveFaulted
    dsimp only
    split <;> rfl
  exact h.congr (by simp only [State.cfg, same.config]) (by rw [same.service]) (fun _ _ => by rw [lines]) (by rw [filter])
    (by rw [filter]) (by rw [filter]) (fun _ own => absurd own other) fun _ _ => by rw [same.deferred]

theorem State.Loose.rederiveFaulted (h : s.Loose) : s.rederiveFaulted.Loose := by
  have same := State.SamePicture.rederiveFaulted s
  simpa only [State.Loose, State.LooseAt, State.inService, State.cfg, State.filterOf, same.config, same.service, same.filter] using h

theorem State.HostRawLegal.rederiveFaulted (h : s.HostRawLegal) : s.rederiveFaulted.HostRawLegal := by
  have same := State.SamePicture.rederiveFaulted s
  simpa only [State.HostRawLegal, State.cfg, State.filterOf, same.config, same.filter] using h

/-- The faulted-line set derived again is the one that its derivation gives. -/
theorem State.rederiveFaulted_follows (s : State) : s.rederiveFaulted.faulted = s.rederiveFaulted.derivedFaulted :=
  s.rederiveFaulted_eq.1.trans s.rederiveFaulted_eq.2.1.symm

/-- A change of lines reaches its readers: the points on them, and point 62 (R27, R29, R35). -/
theorem State.linesChanged_sourcesFollowed (config : s.ConfigLegal) (loose : s.Loose) (host : s.HostRawLegal)
    (ns : List LineId) (follows : ∀ q, q ∉ s.pointsOn ns → s.FollowsAt q) : (s.linesChanged ns).SourcesFollowed := by
  have frame := State.linesChanged_frame s ns
  have same := State.SamePicture.rederiveFaulted s
  have points : s.rederiveFaulted.pointsOn ns = s.pointsOn ns := by
    simp only [State.pointsOn, State.inService, State.cfg, same.config, same.service]
  refine State.sourcesFollowed_iff.mpr ⟨?_, fun q => ?_, host.rederiveFaulted.takeAll_takeSource _⟩
  · exact frame.faulted.trans (s.rederiveFaulted_follows.trans frame.derivedFaulted.symm)
  · refine State.takeAll_takeSource_followsAt ((State.SameSettings.rederiveFaulted s).legal config) loose.rederiveFaulted
      fun out => ?_
    obtain ⟨off, other⟩ : q ∉ s.pointsOn ns ∧ q ≠ lineFaultPoint := by
      simpa [not_or, points] using out
    exact (follows q off).rederiveFaulted other

/-- After a change of service point 62 follows the set derived again (R9, R10, R29). -/
theorem State.serviceChanged_sourcesFollowed (config : s.ConfigLegal) (host : s.HostRawLegal)
    (follows : ∀ q, s.FollowsAt q) (derived : (∀ n, (s.cfg p).source ≠ .line n) → s.faulted = s.derivedFaulted) :
    (s.serviceChanged p).SourcesFollowed := by
  have kept : (∀ n, (s.cfg p).source ≠ .line n) → s.SourcesFollowed := fun source =>
    State.sourcesFollowed_iff.mpr ⟨derived source, follows, host⟩
  unfold State.serviceChanged
  cases source : (s.cfg p).source with
  | host => exact kept (by simp [source])
  | internal => exact kept (by simp [source])
  | line n =>
    have legal := (State.SameSettings.rederiveFaulted s).legal config
    have hands : s.rederiveFaulted.takeSource lineFaultPoint = s.rederiveFaulted.handLineFault := by
      simp only [State.takeSource, legal.lineFault_source, if_true]
    have loose := (State.loose_of_followsAt fun q _ _ => follows q).rederiveFaulted
    have frame := State.PictureFrame.takeSource s.rederiveFaulted lineFaultPoint
    show s.rederiveFaulted.handLineFault.SourcesFollowed
    rw [← hands]
    refine State.sourcesFollowed_iff.mpr ⟨?_, fun q => ?_, fun q src => ?_⟩
    · exact frame.faulted.trans (s.rederiveFaulted_follows.trans frame.derivedFaulted.symm)
    · rcases eq_or_ne q lineFaultPoint with rfl | ne
      · exact (State.takeSource_followsAt (q := lineFaultPoint) legal loose).1
      · exact (State.takeSource_followsAt legal loose).2 ((follows q).rederiveFaulted ne)
    · rw [(State.Touches.takeSource _ _).hostRaw]
      exact host.rederiveFaulted q (frame.cfg q ▸ src)

/-! ### The Line Monitor (R21, R23, R25) -/

/-- A new table of lines reaches the points on the lines `ns` when no other line has changed its classification. -/
theorem State.SourcesFollowed.setLines (h : s.SourcesFollowed) {l : Table LineRecord 32}
    {k : Table ThresholdSet 4} {ns : List LineId} (legal : ({ s with lines := l, thresholds := k } : State).ConfigLegal)
    (others : ∀ n, n ∉ ns → (l[n]).classification = (s.lines[n]).classification) :
    (({ s with lines := l, thresholds := k } : State).linesChanged ns).SourcesFollowed := by
  obtain ⟨-, each, host⟩ := State.sourcesFollowed_iff.mp h
  refine State.linesChanged_sourcesFollowed legal h.loose host ns fun q off service => ?_
  refine (each q).congr rfl rfl (fun n source => others n fun mem => off ?_) rfl rfl rfl (fun _ _ => rfl)
    (fun _ _ => .rfl) service
  exact State.mem_pointsOn.mpr ⟨service, n, mem, source⟩

theorem State.SameSettings.symm (h : State.SameSettings s t) : State.SameSettings t s :=
  ⟨h.config.symm, h.classInterval.symm, h.thresholds.symm, h.tones.symm⟩

/-- A line written with its mode and classification kept shows every reader what it showed. -/
theorem State.setLine_reads {n : LineId} {l : LineRecord} (mode : l.mode = (s.lines[n]).mode)
    (same : l.classification = (s.lines[n]).classification) (m : LineId) :
    (((s.setLine n l).lines[m]).mode = (s.lines[m]).mode) ∧
      ((s.setLine n l).lines[m]).classification = (s.lines[m]).classification := by
  rw [State.setLine_lines, Table.getElem_put]
  split
  · rename_i eq
    exact eq ▸ ⟨mode, same⟩
  · exact ⟨rfl, rfl⟩

theorem State.setLine_derivedFaulted {n : LineId} {l : LineRecord} (mode : l.mode = (s.lines[n]).mode)
    (same : l.classification = (s.lines[n]).classification) : (s.setLine n l).derivedFaulted = s.derivedFaulted := by
  refine State.derivedFaulted_ext fun m => ?_
  simp only [State.derivedFaulted, List.mem_filter, State.setLine_reads mode same m]
  rfl

/-- A line written with its classification kept reaches no reader but the faulted-line set's (R21). -/
theorem State.SourcesFollowed.setLine_same (h : s.SourcesFollowed) (n : LineId) {l : LineRecord}
    (mode : l.mode = (s.lines[n]).mode) (same : l.classification = (s.lines[n]).classification) :
    (s.setLine n l).SourcesFollowed := by
  obtain ⟨faulted, each, host⟩ := State.sourcesFollowed_iff.mp h
  refine State.sourcesFollowed_iff.mpr ⟨faulted.trans (State.setLine_derivedFaulted mode same).symm, fun q => ?_, host⟩
  exact (each q).congr rfl rfl (fun m _ => (State.setLine_reads mode same m).2) rfl rfl rfl (fun _ _ => rfl) fun _ _ => .rfl

theorem State.adopts_eq_some {l : LineRecord} {level : Byte} {c : Classification} (h : s.adopts l level = some c) :
    c = s.classify l level ∧ l.lastLevel.map (s.classify l) = some c ∧ c ≠ l.classification := by
  unfold State.adopts at h
  cases last : l.lastLevel with
  | none => simp [last] at h
  | some x =>
    simp only [last, Option.ite_none_right_eq_some, Option.some.injEq] at h
    obtain ⟨⟨agree, new⟩, rfl⟩ := h
    exact ⟨rfl, by simp [agree], new⟩

theorem State.adopts_eq_none {l : LineRecord} {level : Byte} (h : s.adopts l level = none) :
    l.lastLevel.map (s.classify l) = some (s.classify l level) → s.classify l level = l.classification := by
  unfold State.adopts at h
  cases last : l.lastLevel with
  | none => simp
  | some x =>
    simp only [last, ite_eq_right_iff, reduceCtorEq, imp_false, not_and, not_not] at h
    intro agree
    exact h (by simpa using agree)

theorem State.SourcesFollowed.sampleLine (h : s.SourcesFollowed) (config : s.ConfigLegal) (n : LineId) (level : Byte) :
    (s.sampleLine n level).SourcesFollowed := by
  unfold State.sampleLine
  dsimp only
  split
  · refine State.SourcesFollowed.setLines (l := s.lines.put n _) (k := s.thresholds) h
      ((State.SameSettings.setLine s n _).legal config) fun m off => ?_
    rw [Table.getElem_put, if_neg (by rintro rfl; exact off List.mem_cons_self)]
  · exact h.setLine_same n rfl rfl

theorem State.SourcesFollowed.writeLineSettings (h : s.SourcesFollowed) (config : s.ConfigLegal) (n : LineId)
    (m : LineMode) (q : Polarity) (k : SetId) : (s.writeLineSettings n m q k).SourcesFollowed := by
  refine State.SourcesFollowed.setLines (l := s.lines.put n _) (k := s.thresholds) h
    ((State.SameSettings.setLine s n _).legal config) fun i off => ?_
  rw [Table.getElem_put]
  split
  · rename_i eq
    subst eq
    by_contra changed
    rw [if_neg changed] at off
    exact off List.mem_cons_self
  · rfl

/-! ### Thresholds (R25) -/

/-- The state with a threshold set written and its lines classified under it, before the change reaches its readers. -/
def State.reclassifiedSet (s : State) (k : SetId) (x : ThresholdSet) : State :=
  { s with
    thresholds := s.thresholds.put k x
    lines := s.lines.map fun (l : LineRecord) =>
      if l.set = k then ({ s with thresholds := s.thresholds.put k x } : State).reclassified l else l }

theorem State.writeThresholdSet_eq (s : State) (k : SetId) (x : ThresholdSet) :
    s.writeThresholdSet k x =
      (s.reclassifiedSet k x).linesChanged (({ s with thresholds := s.thresholds.put k x } : State).staleLines k) := rfl

theorem State.reclassifiedSet_lines (s : State) (k : SetId) (x : ThresholdSet) (n : LineId) :
    (s.reclassifiedSet k x).lines[n] = if (s.lines[n]).set = k then
      ({ s with thresholds := s.thresholds.put k x } : State).reclassified s.lines[n] else s.lines[n] := by
  simp [State.reclassifiedSet]

/-- The stale lines of a set are those whose classification its new levels change (R25). -/
theorem State.mem_staleLines (s : State) (k : SetId) (x : ThresholdSet) (n : LineId) :
    n ∈ ({ s with thresholds := s.thresholds.put k x } : State).staleLines k ↔
      ((s.reclassifiedSet k x).lines[n]).classification ≠ (s.lines[n]).classification := by
  rw [s.reclassifiedSet_lines]
  simp only [State.staleLines, allLines, List.mem_filter, List.mem_finRange, true_and, Bool.and_eq_true, beq_iff_eq,
    bne_iff_ne]
  split <;> simp_all

theorem State.reclassifiedSet_configLegal (config : s.ConfigLegal) (k : SetId) {x : ThresholdSet}
    (ordered : x.s.toNat < x.a.toNat ∧ x.a.toNat < x.o.toNat) : (s.reclassifiedSet k x).ConfigLegal :=
  (State.SameSettings.linesChanged _ _).symm.legal (config.writeThresholdSet k ordered)

theorem State.SourcesFollowed.writeThresholdSet (h : s.SourcesFollowed) (config : s.ConfigLegal) (k : SetId)
    {x : ThresholdSet} (ordered : x.s.toNat < x.a.toNat ∧ x.a.toNat < x.o.toNat) :
    (s.writeThresholdSet k x).SourcesFollowed := by
  rw [s.writeThresholdSet_eq]
  refine State.SourcesFollowed.setLines (l := (s.reclassifiedSet k x).lines) (k := s.thresholds.put k x) h
    (State.reclassifiedSet_configLegal config k ordered) fun n off => ?_
  by_contra changed
  exact off ((s.mem_staleLines k x n).mpr changed)

end Sys2Proof.Machine

namespace Sys2Proof.Machine

set_option Elab.async false

/-! ### Points and service (R6, R9, R10, R30) -/

open Function (update)

variable {s t u : State} {p q : PointId}

/-- Sources and qualifications are read as before everywhere but at one point. -/
structure State.SameElsewhere (p : PointId) (s t : State) : Prop where
  cfg : ∀ q, q ≠ p → t.cfg q = s.cfg q
  service : ∀ q : PointId, q ≠ p → t.service[q] = s.service[q]
  filter : ∀ q, q ≠ p → t.filterOf q = s.filterOf q
  lines : t.lines = s.lines
  faulted : t.faulted = s.faulted
  deferred : t.deferred = s.deferred

theorem State.SameElsewhere.followsAt (h : State.SameElsewhere p s t) (ne : q ≠ p) (follows : s.FollowsAt q) :
    t.FollowsAt q := by
  have filter := h.filter q ne
  exact follows.congr (h.cfg q ne) (h.service q ne) (fun _ _ => by rw [h.lines]) (by rw [filter]) (by rw [filter])
    (by rw [filter]) (fun _ _ => h.faulted) fun _ _ => by rw [h.deferred]

theorem State.setFilter_filterOf_ne {f : Filter} (ne : q ≠ p) : (s.setFilter p f).filterOf q = s.filterOf q := by
  rw [State.setFilter_filterOf, Function.update_of_ne ne]

theorem State.SameElsewhere.setFilter (s : State) (p : PointId) (f : Filter) : State.SameElsewhere p s (s.setFilter p f) :=
  ⟨fun _ _ => rfl, fun _ _ => rfl, fun _ => State.setFilter_filterOf_ne, rfl, rfl, rfl⟩

theorem State.SameElsewhere.entered (s : State) (p : PointId) : State.SameElsewhere p s (s.entered p) :=
  ⟨fun _ _ => rfl, fun q ne => (s.setService_serviceOf p q _).trans (if_neg ne.symm),
    fun _ => State.setFilter_filterOf_ne (s := (s.setService p .inService).setAlarm p .normal), rfl, rfl, rfl⟩

theorem State.SameElsewhere.withdrawn (s : State) (p : PointId) : State.SameElsewhere p s (s.withdrawn p) :=
  ⟨fun _ _ => rfl, fun q ne => (s.setService_serviceOf p q _).trans (if_neg ne.symm),
    fun _ => State.setFilter_filterOf_ne
      (s := ({ s with shelves := s.shelves.filter fun e => e.point != p } : State).setService p .outService), rfl, rfl, rfl⟩

theorem State.SameElsewhere.writeConfig (s : State) (p : PointId) (c : PointConfig) :
    State.SameElsewhere p s (s.writeConfig p c) :=
  ⟨fun q ne => by rw [s.writeConfig_cfg, Function.update_of_ne ne], fun _ _ => rfl,
    fun _ => State.setFilter_filterOf_ne, rfl, rfl, rfl⟩

/-- WRITE POINT finds its point out of service, and leaves a host raw condition to HOST points alone (R6, R30). -/
theorem State.SourcesFollowed.writeConfig (h : s.SourcesFollowed) (out : s.service[p] = .outService) (c : PointConfig) :
    (s.writeConfig p c).SourcesFollowed := by
  obtain ⟨faulted, each, host⟩ := State.sourcesFollowed_iff.mp h
  have elsewhere := State.SameElsewhere.writeConfig s p c
  have off : s.inService p = false := by simp [State.inService, out]
  refine State.sourcesFollowed_iff.mpr ⟨faulted.trans ?_, fun q => ?_, fun q source => ?_⟩
  · refine (State.derivedFaulted_congr (s := s) (t := s.writeConfig p c) rfl fun n => ?_).symm
    refine congrArg (allPoints.any ·) (funext fun q => ?_)
    rcases eq_or_ne q p with rfl | ne
    · show (s.inService q && _) = (s.inService q && _)
      rw [off, Bool.false_and, Bool.false_and]
    · rw [elsewhere.cfg q ne]
      rfl
  · rcases eq_or_ne q p with rfl | ne
    · exact fun service => absurd (show s.inService q = true from service) (by simp [off])
    · exact elsewhere.followsAt ne (each q)
  · rcases eq_or_ne q p with rfl | ne
    · rw [s.writeConfig_cfg, Function.update_self] at source
      have own : (s.writeConfig q c).filterOf q =
          { s.filterOf q with hostRaw := c.source == .host && (s.filterOf q).hostRaw } := s.filterOf_setFilter_self q _
      rw [own, beq_eq_false_iff_ne.mpr source, Bool.false_and]
    · rw [elsewhere.filter q ne]
      exact host q (elsewhere.cfg q ne ▸ source)

theorem State.HostRawLegal.entered (h : s.HostRawLegal) (p : PointId) : (s.entered p).HostRawLegal :=
  State.HostRawLegal.setFilter (s := (s.setService p .inService).setAlarm p .normal) h rfl

theorem State.HostRawLegal.withdrawn (h : s.HostRawLegal) (p : PointId) : (s.withdrawn p).HostRawLegal :=
  State.HostRawLegal.setFilter
    (s := ({ s with shelves := s.shelves.filter fun e => e.point != p } : State).setService p .outService) h rfl

theorem State.SourcesFollowed.bringIn (h : s.SourcesFollowed) (config : s.ConfigLegal) (p : PointId) :
    (s.bringIn p).SourcesFollowed := by
  obtain ⟨faulted, each, host⟩ := State.sourcesFollowed_iff.mp h
  have elsewhere := State.SameElsewhere.entered s p
  have legal : (s.entered p).ConfigLegal := State.SameSettings.legal (s := s) ⟨rfl, rfl, rfl, rfl⟩ config
  have loose : (s.entered p).Loose := fun q service source => by
    rcases eq_or_ne q p with rfl | ne
    · rw [s.entered_filterOf]
      exact (s.filterOf q).restart_stopped.frozen
    · exact ((elsewhere.followsAt ne (each q) service).1).trans (State.sourceFrozen_of_ne_line source)
  have frame := State.PictureFrame.takeSource (s.entered p) p
  rw [s.bringIn_eq]
  refine State.serviceChanged_sourcesFollowed (frame.sameSettings.legal legal) (fun q source => ?_) (fun q => ?_)
    fun source => ?_
  · rw [(State.Touches.takeSource _ p).hostRaw]
    exact (host.entered p) q (frame.cfg q ▸ source)
  · rcases eq_or_ne q p with rfl | ne
    · exact (State.takeSource_followsAt (q := q) legal loose).1
    · exact (State.takeSource_followsAt legal loose).2 (elsewhere.followsAt ne (each q))
  · refine frame.faulted.trans (faulted.trans (State.derivedFaulted_of_service (s := s) (p := p) frame.config frame.lines
      (fun q ne => ?_) fun n => frame.cfg p ▸ source n).symm)
    rw [frame.service]
    exact elsewhere.service q ne

theorem State.SourcesFollowed.takeOut (h : s.SourcesFollowed) (config : s.ConfigLegal) (p : PointId) :
    (s.takeOut p).SourcesFollowed := by
  obtain ⟨faulted, each, host⟩ := State.sourcesFollowed_iff.mp h
  have elsewhere := State.SameElsewhere.withdrawn s p
  have legal : (s.withdrawn p).ConfigLegal := State.SameSettings.legal (s := s) ⟨rfl, rfl, rfl, rfl⟩ config
  have relays := (State.Hands.leavePicture (s.withdrawn p) p .outOfService).relays
  have out : (s.withdrawn p).inService p = false := by
    have : (s.withdrawn p).service[p] = .outService := (s.setService_serviceOf p p _).trans (if_pos rfl)
    simp only [State.inService, this]
    rfl
  rw [s.takeOut_eq]
  refine State.serviceChanged_sourcesFollowed (relays.sameSettings.legal legal) (relays.hostRawLegal (host.withdrawn p))
    (fun q => relays.followsAt legal ?_) fun source => ?_
  · rcases eq_or_ne q p with rfl | ne
    · exact fun service => absurd service (by simp [out])
    · exact elsewhere.followsAt ne (each q)
  · refine relays.faulted.trans (faulted.trans (State.derivedFaulted_of_service (s := s) (p := p) relays.config relays.lines
      (fun q ne => ?_) fun n => relays.cfg p ▸ source n).symm)
    rw [relays.service]
    exact elsewhere.service q ne

/-- The host raw condition that a HOST point is given is the raw condition it takes (R30). -/
theorem State.SourcesFollowed.setHostRaw (h : s.SourcesFollowed) (config : s.ConfigLegal)
    (source : (s.cfg p).source = .host) (v : Bool) : (s.setHostRaw p v).SourcesFollowed := by
  obtain ⟨faulted, each, host⟩ := State.sourcesFollowed_iff.mp h
  have elsewhere := State.SameElsewhere.setFilter s p { s.filterOf p with hostRaw := v }
  have legal : (s.setFilter p { s.filterOf p with hostRaw := v }).ConfigLegal :=
    (State.PictureFrame.setFilter s p _).sameSettings.legal config
  have loose : (s.setFilter p { s.filterOf p with hostRaw := v }).Loose := fun q service line => by
    rw [State.filterOf_setFilter]
    split
    · rename_i own
      subst own
      exact h.loose p service line
    · exact h.loose q service line
  have takes : (s.setFilter p { s.filterOf p with hostRaw := v }).takeSource p = s.setHostRaw p v := by
    simp only [State.takeSource, State.setFilter_cfg, source, State.filterOf_setFilter_self]
    rfl
  have frame := State.PictureFrame.takeSource (s.setFilter p { s.filterOf p with hostRaw := v }) p
  rw [← takes]
  refine State.sourcesFollowed_iff.mpr ⟨?_, fun q => ?_, fun q other => ?_⟩
  · exact frame.faulted.trans (faulted.trans frame.derivedFaulted.symm)
  · rcases eq_or_ne q p with rfl | ne
    · exact (State.takeSource_followsAt (q := q) legal loose).1
    · exact (State.takeSource_followsAt legal loose).2 (elsewhere.followsAt ne (each q))
  · rw [(State.Touches.takeSource _ p).hostRaw]
    have other' : (s.cfg q).source ≠ .host := frame.cfg q ▸ other
    have ne : q ≠ p := by
      rintro rfl
      exact other' source
    rw [elsewhere.filter q ne]
    exact host q other'

theorem State.SourcesFollowed.hostCondition (h : s.SourcesFollowed) (config : s.ConfigLegal) (b : Byte) (v : Bool) :
    (s.hostCondition b v).1.SourcesFollowed := by
  unfold State.hostCondition
  split
  · exact h
  · split
    · exact h
    · rename_i source
      split
      · exact h
      · exact h.setHostRaw config (not_not.mp source) v

/-! ### Timers and resets (R28, R32, R33, R57) -/

/-- A rewriting of a qualification that leaves its raw conditions and its freeze as they were. -/
theorem State.SourcesFollowed.setFilter {f : Filter} (h : s.SourcesFollowed) (raw : f.raw = (s.filterOf p).raw)
    (host : f.hostRaw = (s.filterOf p).hostRaw) (frozen : f.frozen = (s.filterOf p).frozen) :
    (s.setFilter p f).SourcesFollowed := by
  obtain ⟨faulted, each, legal⟩ := State.sourcesFollowed_iff.mp h
  refine State.sourcesFollowed_iff.mpr ⟨faulted, fun q => ?_, legal.setFilter host⟩
  rcases eq_or_ne q p with rfl | ne
  · refine (each q).congr rfl rfl (fun _ _ => rfl) ?_ ?_ ?_ (fun _ _ => rfl) fun _ _ => .rfl
    all_goals rwa [State.filterOf_setFilter_self]
  · exact (State.SameElsewhere.setFilter s p f).followsAt ne (each q)

theorem State.SourcesFollowed.expireOnDelay (h : s.SourcesFollowed) (config : s.ConfigLegal) (p : PointId) :
    (s.expireOnDelay p).SourcesFollowed := by
  unfold State.expireOnDelay
  dsimp only
  split
  · exact (State.Hands.riseWith _ p).relays.sourcesFollowed ((State.PictureFrame.setFilter s p _).sameSettings.legal config)
      (h.setFilter rfl rfl rfl)
  · exact h

theorem State.SourcesFollowed.expireOffDelay (h : s.SourcesFollowed) (config : s.ConfigLegal) (p : PointId) :
    (s.expireOffDelay p).SourcesFollowed := by
  unfold State.expireOffDelay
  dsimp only
  split
  · exact (State.Hands.fallWith _ p).relays.sourcesFollowed ((State.PictureFrame.setFilter s p _).sameSettings.legal config)
      (h.setFilter rfl rfl rfl)
  · exact h

/-- One period of the timers changes no raw condition and no freeze. -/
theorem State.SourcesFollowed.countAll (h : s.SourcesFollowed) : s.countAll.SourcesFollowed := by
  have count : ∀ q, s.countAll.filterOf q = (s.filterOf q).count := fun q => by simp [State.filterOf, State.countAll]
  have kept : ∀ f : Filter, f.count.raw = f.raw ∧ f.count.hostRaw = f.hostRaw ∧ f.count.frozen = f.frozen := fun f => by
    unfold Filter.count
    split <;> exact ⟨rfl, rfl, rfl⟩
  obtain ⟨faulted, each, host⟩ := State.sourcesFollowed_iff.mp h
  refine State.sourcesFollowed_iff.mpr ⟨faulted, fun q => ?_, fun q source => ?_⟩
  · obtain ⟨raw, hostRaw, frozen⟩ := kept (s.filterOf q)
    exact (each q).congr rfl rfl (fun _ _ => rfl) (by rw [count, frozen]) (by rw [count, raw]) (by rw [count, hostRaw])
      (fun _ _ => rfl) fun _ _ => .rfl
  · rw [count, (kept _).2.1]
    exact host q source

theorem State.restartBlocks_filterOf (s : State) (p : PointId) : s.restartBlocks.filterOf p = .start := by
  simp [State.filterOf, State.restartBlocks]

theorem State.mem_pointsInService : p ∈ s.pointsInService ↔ s.inService p = true := by
  simp [State.pointsInService, allPoints]

theorem State.restartBlocks_configLegal (config : s.ConfigLegal) : s.restartBlocks.ConfigLegal :=
  State.SameSettings.legal (s := s) ⟨rfl, rfl, rfl, rfl⟩ config

theorem State.restartBlocks_loose (s : State) : s.restartBlocks.Loose := fun p _ _ => by
  rw [s.restartBlocks_filterOf]
  rfl

/-- After a RESTART every point in service has taken its source (R33, R57). -/
theorem State.SourcesFollowed.restartAll (h : s.SourcesFollowed) (config : s.ConfigLegal) : s.restartAll.SourcesFollowed := by
  have frame : State.PictureFrame { s.restartBlocks with freeCount := s.restartBlocks.freeCount + 1 } s.restartAll :=
    State.takeAll_induct (.refl _) fun p _ u hu => hu.trans (.takeSource u p)
  have host : s.restartBlocks.HostRawLegal := fun p _ => by
    rw [s.restartBlocks_filterOf]
    rfl
  refine State.sourcesFollowed_iff.mpr ⟨?_, fun q => ?_, host.takeAll_takeSource _⟩
  · exact frame.faulted.trans (h.faulted.trans frame.derivedFaulted.symm)
  · exact State.takeAll_takeSource_followsAt (State.restartBlocks_configLegal config) s.restartBlocks_loose fun out service =>
      absurd (State.mem_pointsInService.mpr service) out

theorem State.SourcesFollowed.powerOn (s : State) : s.powerOn.SourcesFollowed := by
  obtain ⟨-, -, -, -, -, followed, -⟩ := resetMeetsInvariants
  exact State.SameSources.sourcesFollowed (s := State.reset) ⟨rfl, rfl, rfl, rfl, rfl, rfl⟩ followed

/-! ### The other claims on the picture -/

theorem State.Still.sourcesFollowed (h : State.Still s t) (follows : s.SourcesFollowed) : t.SourcesFollowed :=
  h.sameSources.sourcesFollowed follows

theorem State.Apart.sourcesFollowed (h : State.Apart s t) (follows : s.SourcesFollowed) : t.SourcesFollowed :=
  h.sameSources.sourcesFollowed follows

theorem State.Hands.sourcesFollowed (h : State.Hands State.handOverflow s t) (config : s.ConfigLegal)
    (follows : s.SourcesFollowed) : t.SourcesFollowed := h.relays.sourcesFollowed config follows

theorem State.SourcesFollowed.setShelves (h : s.SourcesFollowed) (l : List ShelveEntry) :
    ({ s with shelves := l } : State).SourcesFollowed :=
  State.SameSources.sourcesFollowed (s := s) ⟨rfl, rfl, rfl, rfl, rfl, rfl⟩ h

theorem State.ConfigLegal.setShelves (h : s.ConfigLegal) (l : List ShelveEntry) :
    ({ s with shelves := l } : State).ConfigLegal := State.SameSettings.legal (s := s) ⟨rfl, rfl, rfl, rfl⟩ h

theorem State.SourcesFollowed.unshelvePoint (h : s.SourcesFollowed) (config : s.ConfigLegal) (p : PointId) :
    (s.unshelvePoint p).SourcesFollowed :=
  (State.Hands.endShelve _ p).sourcesFollowed (config.setShelves _) (h.setShelves _)

theorem State.SourcesFollowed.expireShelve (h : s.SourcesFollowed) (config : s.ConfigLegal) (p : PointId) :
    (s.expireShelve p).SourcesFollowed := by
  unfold State.expireShelve
  split
  · exact (State.Apart.raise _ _).sourcesFollowed (h.unshelvePoint config p)
  · exact h

theorem State.SourcesFollowed.ownShelve (h : s.SourcesFollowed) (config : s.ConfigLegal) (b : Byte) (m : Half) :
    (ownShelve b m s).1.SourcesFollowed := by
  unfold Machine.ownShelve
  split
  · exact h
  · split
    · exact h
    · split
      · exact h
      · split
        · exact h
        · split
          · exact h.setShelves _
          · split
            · exact h
            · exact (State.Hands.leavePicture _ _ _).sourcesFollowed (config.setShelves _) (h.setShelves _)

theorem State.Still.ownWriteGroup (s : State) (g v : Byte) : State.Still s (ownWriteGroup g v s).1 := by
  unfold Machine.ownWriteGroup
  split
  · split
    · exact .refl s
    · split
      · exact .setGroup s _ _
      · exact (State.Still.emptySlot s _).trans (.setGroup _ _ _)
  · exact .refl s

theorem State.Still.ownClearFirstOut (s : State) (g : Byte) : State.Still s (ownClearFirstOut g s).1 := by
  unfold Machine.ownClearFirstOut
  split
  · exact .refl s
  · rename_i g _
    have emptied := State.Still.emptySlot s g
    show State.Still s ((s.emptySlot g).armIfQuiet g)
    unfold State.armIfQuiet
    split
    · exact emptied.trans (.setGroup _ _ _)
    · exact emptied

theorem State.SourcesFollowed.endStep (h : s.SourcesFollowed) (c : Chan) : (s.endStep c).SourcesFollowed := by
  rcases s.endStep_sound c with sound | ⟨o, sound⟩
  · exact sound.still.sourcesFollowed h
  · refine sound.still.sourcesFollowed ?_
    cases o with
    | record p st => exact (State.Still.setRoster s _).sourcesFollowed h
    | test => exact (State.Apart.setTestSounded s _).sourcesFollowed h

theorem State.SourcesFollowed.expireDebounce (h : s.SourcesFollowed) (config : s.ConfigLegal) (k : Key) :
    (s.expireDebounce k).SourcesFollowed := by
  unfold State.expireDebounce
  dsimp only
  split
  · exact h
  · have keys := State.Apart.setKeys s (s.keys.put k { s.keys.get k with pressed := !(s.keys.get k).pressed, timer := none })
    have follows := keys.sourcesFollowed h
    have legal := keys.sameSettings.legal config
    split
    · unfold State.release
      split
      · exact (State.Apart.setTests _ _ _).sourcesFollowed follows
      · exact follows
    · unfold State.press
      split
      · refine (State.Apart.raise _ _).sourcesFollowed ?_
        cases k with
        | kack => exact (State.Hands.acknowledgeAll _ .panel _).sourcesFollowed legal follows
        | ksil => exact (State.Still.silenceAll _).sourcesFollowed follows
        | krst => exact (State.Hands.resetEvery _).sourcesFollowed legal follows
        | ktst => exact (State.Apart.setTests _ _ _).sourcesFollowed follows
      · exact follows

/-! ### The passing of time and the step -/

theorem State.SourcesFollowed.takeDue (h : s.SourcesFollowed) (config : s.ConfigLegal) (d : Due) :
    (s.takeDue d).SourcesFollowed := by
  unfold State.takeDue
  split
  · cases d with
    | onDelay p => exact h.expireOnDelay config p
    | offDelay p => exact h.expireOffDelay config p
    | shelve =>
      unfold State.expire
      dsimp only
      split
      · exact h.expireShelve config _
      · exact h
    | reannounce p st => exact (State.Still.expireReannounce s p st).sourcesFollowed h
    | age p => exact (State.Still.setRoster s _).sourcesFollowed h
    | debounce k => exact h.expireDebounce config k
    | panelTest => exact (State.Apart.setTests s _ _).sourcesFollowed h
    | hostTest => exact (State.Apart.setTests s _ _).sourcesFollowed h
    | stepEnd c => exact h.endStep c
    | editIdle => exact (State.Apart.expireEdit s).sourcesFollowed h
    | linkReset => exact (State.Apart.expireLink s).sourcesFollowed h
  · exact h

theorem State.SourcesFollowed.tick (h : s.SourcesFollowed) (config : s.ConfigLegal) : s.tick.SourcesFollowed := by
  refine (State.takeAll_induct (P := fun u => u.ConfigLegal ∧ u.SourcesFollowed) ⟨?_, ?_⟩ fun d _ u hu => ?_).2
  · exact State.SameSettings.legal (s := s) ⟨rfl, rfl, rfl, rfl⟩ config
  · exact (State.Apart.setFreeCount _ _).sourcesFollowed h.countAll
  · exact ⟨(State.SameSettings.takeDue u d).legal hu.1, hu.2.takeDue hu.1 d⟩

/-- Every owner keeps raw conditions following their sources. -/
theorem State.SourcesFollowed.ownerTakes (h : s.SourcesFollowed) (config : s.ConfigLegal) (picture : s.PictureLegal)
    (c : Instr) : (ownerTakes c s).1.SourcesFollowed := by
  by_cases read : isRead c = true
  · rw [ownerTakes_read c s read]
    exact h
  by_cases apart : isApart c = true
  · exact (ownerTakes_apart c s apart).sourcesFollowed h
  cases c
  case writePoint b rec =>
    show (ownWritePoint b rec s).1.SourcesFollowed
    unfold ownWritePoint
    split
    · exact h
    · rename_i p _
      split
      · exact h
      · rename_i out
        split
        · exact h
        · split
          · exact h.writeConfig ((picture.service p).mpr (not_not.mp out)) _
          · exact h
  case setServiceIn b =>
    show (ownSetServiceIn b s).1.SourcesFollowed
    unfold ownSetServiceIn
    split
    · exact h
    · split
      · exact h
      · exact h.bringIn config _
  case setServiceOut b =>
    show (ownSetServiceOut b s).1.SourcesFollowed
    unfold ownSetServiceOut
    split
    · exact h
    · split
      · exact h.takeOut config _
      · exact h
  case writeClass n i =>
    show (ownWriteClass n i s).1.SourcesFollowed
    unfold ownWriteClass
    split
    · exact h
    · split
      · exact h
      · exact State.SameSources.sourcesFollowed (s := s) ⟨rfl, rfl, rfl, rfl, rfl, rfl⟩ h
  case writeTones n l =>
    show (ownWriteTones n l s).1.SourcesFollowed
    unfold ownWriteTones
    split
    · exact h
    · split
      · exact h
      · exact State.SameSources.sourcesFollowed (s := s) ⟨rfl, rfl, rfl, rfl, rfl, rfl⟩ h
  case writeLine n m q k =>
    show (ownWriteLine n m q k s).1.SourcesFollowed
    unfold ownWriteLine
    split
    · dsimp only
      split
      · exact h
      · exact h.writeLineSettings config _ _ _ _
    · exact h
  case writeThresholds k x a o =>
    show (ownWriteThresholds k x a o s).1.SourcesFollowed
    unfold ownWriteThresholds
    split
    · exact h
    · split
      · exact h
      · rename_i ordered
        split
        · exact h
        · exact h.writeThresholdSet config _ (not_not.mp ordered)
  case assertPoint b => exact h.hostCondition config b true
  case releasePoint b => exact h.hostCondition config b false
  case ack b e st =>
    show (ownAck b e st s).1.SourcesFollowed
    unfold ownAck
    split
    · split
      · split <;> exact h
      · split
        · exact h
        · split
          · exact (State.Hands.acknowledgeWith s .host _).sourcesFollowed config h
          · exact h
    · exact h
  case ackGroup g =>
    show (ownAckGroup g s).1.SourcesFollowed
    unfold ownAckGroup
    split
    · exact h
    · exact (State.Hands.acknowledgeAll s .host _).sourcesFollowed config h
  case ackAll => exact (State.Hands.acknowledgeAll s .host _).sourcesFollowed config h
  case reset b =>
    show (ownReset b s).1.SourcesFollowed
    unfold ownReset
    split
    · exact h
    · split
      · exact (State.Hands.retire s _ _).sourcesFollowed config h
      · exact h
  case resetAll => exact (State.Hands.resetEvery s).sourcesFollowed config h
  case writeGroup g v => exact (State.Still.ownWriteGroup s g v).sourcesFollowed h
  case clearFirstOut g => exact (State.Still.ownClearFirstOut s g).sourcesFollowed h
  case shelve b m => exact h.ownShelve config b m
  case unshelve b =>
    show (ownUnshelve b s).1.SourcesFollowed
    unfold ownUnshelve
    split
    · exact h
    · split
      · exact h.unshelvePoint config _
      · exact h
  case silence => exact (State.Still.silenceAll s).sourcesFollowed h
  case restart => exact h.restartAll config
  all_goals first | exact absurd rfl read | exact absurd rfl apart | exact h

/-- Every command keeps raw conditions following their sources. -/
theorem State.SourcesFollowed.exec (h : s.SourcesFollowed) (config : s.ConfigLegal) (picture : s.PictureLegal) (c : Instr)
    (run : exec c s = .next t) : t.SourcesFollowed := by
  by_cases host : isHostCommand c = true
  · rw [exec_host c s host] at run
    obtain rfl := Host.Outcome.next.inj run
    exact (Reply.apart_handOver _ c).sourcesFollowed (h.ownerTakes config picture c)
  by_cases apart : isApartEvent c = true
  · exact (exec_apart c apart run).sourcesFollowed h
  cases c
  case commandCompletion marked =>
    rcases execCommandCompletion_cases marked run with apart | ⟨c, apart⟩
    · exact apart.sourcesFollowed h
    · exact apart.sourcesFollowed (h.ownerTakes config picture c)
  case powerOnReset => exact Host.Outcome.next.inj run ▸ .powerOn s
  case lineSample n level => exact Host.Outcome.next.inj run ▸ h.sampleLine config n level
  case onDelayExpiry p => exact Host.Outcome.next.inj run ▸ h.expireOnDelay config p
  case offDelayExpiry p => exact Host.Outcome.next.inj run ▸ h.expireOffDelay config p
  case shelveExpiry p => exact Host.Outcome.next.inj run ▸ h.expireShelve config p
  case reannounceExpiry p st => exact Host.Outcome.next.inj run ▸ (State.Still.expireReannounce s p st).sourcesFollowed h
  case debounceExpiry k => exact Host.Outcome.next.inj run ▸ h.expireDebounce config k
  case stepEnd c => exact Host.Outcome.next.inj run ▸ h.endStep c
  case ageIncrement p => exact Host.Outcome.next.inj run ▸ (State.Still.setRoster s _).sourcesFollowed h
  all_goals first | exact absurd rfl host | exact absurd rfl apart

/-- Settles O58: every step leaves sources and qualifications alone, hands a point its source's condition, or relays a change of
the deferred list to point 63. -/
theorem stepKeepsSourcesFollowed : Obligations.StepKeepsSourcesFollowed := by
  intro s t config picture follows run
  unfold step at run
  split at run
  · rename_i c rest _
    have queue := State.Apart.setPending s rest
    exact (queue.sourcesFollowed follows).exec (queue.sameSettings.legal config) (queue.parts picture.parts).legal c run
  · exact Host.Outcome.next.inj run ▸ follows.tick config

end Sys2Proof.Machine

namespace Sys2Proof.Machine

set_option Elab.async false

/-! ## Levels, delay expiries and host conditions (R19, R20, R30 to R32) -/

variable {s t u : State} {p q : PointId} {ovf : State → State}

/-! ### Bands and classifications (R19, R20) -/

theorem classifyBand_low (pol : Polarity) : classifyBand pol .low = if pol = .normal then .active else .inactive := by
  cases pol <;> rfl

theorem classifyBand_high (pol : Polarity) : classifyBand pol .high = if pol = .normal then .inactive else .active := by
  cases pol <;> rfl

theorem classifyBand_short (pol : Polarity) : classifyBand pol .short = .wireShort := by cases pol <;> rfl

theorem classifyBand_opened (pol : Polarity) : classifyBand pol .opened = .wireOpen := by cases pol <;> rfl

theorem bandOf_supervised (t : ThresholdSet) (level : Byte) :
    bandOf .supervised t level =
      if level.toNat < t.s.toNat then .short else if level.toNat < t.a.toNat then .low
      else if level.toNat < t.o.toNat then .high else .opened := rfl

theorem bandOf_unsupervised (t : ThresholdSet) (level : Byte) :
    bandOf .unsupervised t level = if level.toNat < t.a.toNat then .low else .high := rfl

/-- Settles O11: the thresholds decide the band, and band and polarity the classification. -/
theorem levelsClassifyByBand : Obligations.LevelsClassifyByBand := by
  intro s l level
  unfold State.classify
  refine ⟨fun mode low => ?_, fun mode s low => ?_, fun mode s a low => ?_, fun mode s a o => ?_, fun mode low => ?_,
    fun mode a => ?_⟩ <;> rw [mode]
  · rw [bandOf_supervised, if_pos low, classifyBand_short]
  · rw [bandOf_supervised, if_neg s.not_gt, if_pos low, classifyBand_low]
  · rw [bandOf_supervised, if_neg s.not_gt, if_neg a.not_gt, if_pos low, classifyBand_high]
  · rw [bandOf_supervised, if_neg s.not_gt, if_neg a.not_gt, if_neg o.not_gt, classifyBand_opened]
  · rw [bandOf_unsupervised, if_pos low, classifyBand_low]
  · rw [bandOf_unsupervised, if_neg a.not_gt, classifyBand_high]

/-! ### The persistence expiries (R28, R32) -/

theorem State.expireOnDelay_running (running : (s.filterOf p).onTimer ≠ none) (free : (s.filterOf p).frozen = false) :
    s.expireOnDelay p = (s.setFilter p { s.filterOf p with qualified := true, onTimer := none }).rise p :=
  if_pos ⟨Option.isSome_iff_ne_none.mpr running, free⟩

theorem State.expireOnDelay_stopped (stopped : (s.filterOf p).onTimer = none ∨ (s.filterOf p).frozen = true) :
    s.expireOnDelay p = s := by
  refine if_neg fun ⟨running, free⟩ => ?_
  rcases stopped with idle | frozen
  · simp [idle] at running
  · simp [frozen] at free

theorem State.expireOffDelay_running (running : (s.filterOf p).offTimer ≠ none) (free : (s.filterOf p).frozen = false) :
    s.expireOffDelay p = (s.setFilter p { s.filterOf p with qualified := false, offTimer := none }).fall p :=
  if_pos ⟨Option.isSome_iff_ne_none.mpr running, free⟩

theorem State.expireOffDelay_stopped (stopped : (s.filterOf p).offTimer = none ∨ (s.filterOf p).frozen = true) :
    s.expireOffDelay p = s := by
  refine if_neg fun ⟨running, free⟩ => ?_
  rcases stopped with idle | frozen
  · simp [idle] at running
  · simp [frozen] at free

/-- Settles O16: each expiry by whether its timer runs and is not frozen. -/
theorem delayExpiriesHandEdges : Obligations.DelayExpiriesHandEdges := fun _ _ =>
  ⟨fun running free => congrArg Host.Outcome.next (State.expireOnDelay_running running free),
    fun stopped => congrArg Host.Outcome.next (State.expireOnDelay_stopped stopped),
    fun running free => congrArg Host.Outcome.next (State.expireOffDelay_running running free),
    fun stopped => congrArg Host.Outcome.next (State.expireOffDelay_stopped stopped)⟩

/-! ### ASSERT and RELEASE (R30, R31) -/

theorem State.hostCondition_range {b : Byte} (h : 63 < b.toNat) (v : Bool) :
    s.hostCondition b v = (s, some (.refusal .range)) := by
  simp [State.hostCondition, pointOf_none h, State.refuse]

theorem State.hostCondition_source (source : (s.cfg p).source ≠ .host) (v : Bool) :
    s.hostCondition (byteOf p.val) v = (s, some (.refusal .source)) := by
  simp [State.hostCondition, source, State.refuse]

theorem State.hostCondition_held {v : Bool} (source : (s.cfg p).source = .host) (held : (s.filterOf p).hostRaw = v) :
    s.hostCondition (byteOf p.val) v = (s, some (.okWith [])) := by
  simp [State.hostCondition, source, held, State.replyOk]

theorem State.hostCondition_sets {v : Bool} (source : (s.cfg p).source = .host) (new : (s.filterOf p).hostRaw ≠ v) :
    s.hostCondition (byteOf p.val) v = (s.setHostRaw p v, some (.okWith [])) := by
  simp [State.hostCondition, source, new, State.replyOk]

/-- A point out of service takes no raw condition from the host (R30). -/
theorem State.setHostRaw_outService (out : s.inService p = false) (v : Bool) :
    s.setHostRaw p v = s.setFilter p { s.filterOf p with hostRaw := v } :=
  State.takeRawWith_outService (s := s.setFilter p { s.filterOf p with hostRaw := v }) out v

/-- A point in service takes the host's condition through R31's table. -/
theorem State.setHostRaw_eq (service : s.inService p = true) {v : Bool} {g : Filter}
    (table : ({ s.filterOf p with hostRaw := v } : Filter).taken (s.cfg p) v = g) :
    s.setHostRaw p v =
      if g.qualified = (s.filterOf p).qualified then s.setFilter p g
      else if v then (s.setFilter p g).rise p else (s.setFilter p g).fall p := by
  have eq := State.takeRawWith_eq (ovf := State.handOverflow)
    (s := s.setFilter p { s.filterOf p with hostRaw := v }) (p := p) service v
  rw [State.filterOf_setFilter_self, State.setFilter_cfg, State.setFilter_setFilter, table] at eq
  exact eq

/-- Settles O15: each cell of R31's table, for a host condition that changes. -/
theorem hostConditionCommands : Obligations.HostConditionCommands := by
  refine ⟨fun b s h => ⟨exec_answers rfl (State.hostCondition_range h true), exec_answers rfl (State.hostCondition_range h false)⟩,
    fun p s source => ⟨exec_answers rfl (State.hostCondition_source source true),
      exec_answers rfl (State.hostCondition_source source false)⟩, fun p s source => ?_⟩
  have asserts : ∀ {t}, (s.filterOf p).hostRaw = false → s.setHostRaw p true = t →
      exec (.assertPoint (byteOf p.val)) s = .next (t.answered (.assertPoint (byteOf p.val)) (.okWith [])) := by
    rintro t host rfl
    exact exec_answers rfl (State.hostCondition_sets source (by simp [host]))
  have releases : ∀ {t}, (s.filterOf p).hostRaw = true → s.setHostRaw p false = t →
      exec (.releasePoint (byteOf p.val)) s = .next (t.answered (.releasePoint (byteOf p.val)) (.okWith [])) := by
    rintro t host rfl
    exact exec_answers rfl (State.hostCondition_sets source (by simp [host]))
  have table : ∀ v, Filter.Takes (s.cfg p) { s.filterOf p with hostRaw := v } v
      (({ s.filterOf p with hostRaw := v } : Filter).taken (s.cfg p) v) := fun v => Filter.taken_takes _ _ v
  have keeps : ∀ {v g}, s.inService p = true → ({ s.filterOf p with hostRaw := v } : Filter).taken (s.cfg p) v = g →
      g.qualified = (s.filterOf p).qualified → s.setHostRaw p v = s.setFilter p g := fun service eq same =>
    (State.setHostRaw_eq service eq).trans (if_pos same)
  intro f set clear
  refine ⟨fun host => exec_answers rfl (State.hostCondition_held source host),
    fun host => exec_answers rfl (State.hostCondition_held source host),
    fun host out => asserts host (State.setHostRaw_outService out true),
    fun host out => releases host (State.setHostRaw_outService out false),
    fun host service raw absent delay => asserts host (keeps service ((table true).starts raw rfl absent delay) rfl),
    fun host service raw present => asserts host (keeps service ((table true).holds raw rfl present) rfl),
    fun host service raw present delay => releases host (keeps service ((table false).runsOut raw rfl present delay) rfl),
    fun host service raw absent => releases host (keeps service ((table false).drops raw rfl absent) rfl),
    fun host service raw absent delay => asserts host ?_, fun host service raw present delay => releases host ?_⟩
  · rw [State.setHostRaw_eq service ((table true).rises raw rfl absent delay),
      if_neg (by simp [show (s.filterOf p).qualified = false from absent])]
    rfl
  · rw [State.setHostRaw_eq service ((table false).falls raw rfl present delay),
      if_neg (by simp [show (s.filterOf p).qualified = true from present])]
    rfl

end Sys2Proof.Machine

namespace Sys2Proof.Machine

set_option Elab.async false

/-! ## Lines: samples, settings and thresholds (R17 to R29) -/

variable {s t u : State} {p q : PointId} {n : LineId}

/-! ### What a change of lines does -/

theorem State.rederiveFaulted_pointsOn (s : State) (ns : List LineId) : s.rederiveFaulted.pointsOn ns = s.pointsOn ns := by
  have same := State.SamePicture.rederiveFaulted s
  simp only [State.pointsOn, State.inService, State.cfg, same.config, same.service]

theorem State.rederiveFaulted_filterOf (s : State) (q : PointId) : s.rederiveFaulted.filterOf q = s.filterOf q := by
  simp only [State.filterOf, (State.SamePicture.rederiveFaulted s).filter]

/-- What of a state no change of lines reaches, beyond the faulted-line set and the alarm picture. -/
theorem State.linesChanged_kept (s : State) (ns : List LineId) :
    (s.linesChanged ns).config = s.config ∧ (s.linesChanged ns).service = s.service ∧
      (s.linesChanged ns).lines = s.lines ∧ (s.linesChanged ns).thresholds = s.thresholds ∧
      (s.linesChanged ns).shelves = s.shelves := by
  have frame := s.linesChanged_frame ns
  rw [frame.config, frame.service, frame.lines, frame.thresholds, frame.shelves]
  unfold State.rederiveFaulted
  dsimp only
  split <;> exact ⟨rfl, rfl, rfl, rfl, rfl⟩

/-- The set is derived again, and LINE_FAULT set when that changes it (R29). -/
theorem State.linesChanged_faulted (s : State) (ns : List LineId) :
    (s.linesChanged ns).faulted = s.derivedFaulted ∧ (s.linesChanged ns).derivedFaulted = s.derivedFaulted ∧
      ((s.linesChanged ns).flag .lineFault = true ↔ s.flag .lineFault = true ∨ s.derivedFaulted ≠ s.faulted) := by
  obtain ⟨now, same, fault⟩ := s.rederiveFaulted_eq
  have frame := s.linesChanged_frame ns
  have touches : State.Touches (fun _ => True) s.rederiveFaulted (s.linesChanged ns) :=
    State.takeAll_induct (P := State.Touches (fun _ => True) s.rederiveFaulted)
      ⟨fun _ _ => rfl, fun _ _ => rfl, fun _ => rfl, fun _ _ => rfl⟩ fun p _ u hu => hu.trans (.takeSource u p)
  refine ⟨frame.faulted.trans now, frame.derivedFaulted.trans same, ?_⟩
  rw [touches.flags _ rfl, fault]

theorem State.linesChanged_derived (s : State) (ns : List LineId) :
    (s.linesChanged ns).faulted = (s.linesChanged ns).derivedFaulted := by
  obtain ⟨now, same, -⟩ := s.linesChanged_faulted ns
  rw [now, same]

/-- After a change of lines the set is the one derived, and LINE_FAULT tells exactly a change of its membership (R29). -/
theorem State.linesChanged_reports {ns : List LineId} (faulted : u.faulted = s.faulted)
    (flag : u.flag .lineFault = s.flag .lineFault) (derived : s.faulted = s.derivedFaulted) :
    (u.linesChanged ns).flag .lineFault = true ↔
      s.flag .lineFault = true ∨ ∃ i, ¬ (i ∈ (u.linesChanged ns).faulted ↔ i ∈ s.faulted) := by
  obtain ⟨now, -, fault⟩ := u.linesChanged_faulted ns
  rw [fault, flag, now, faulted, derived, ← not_forall]
  exact or_congr_right (not_congr ⟨fun eq i => by rw [eq], State.derivedFaulted_ext⟩)

/-- A general point that is on none of the lines keeps its qualification. -/
theorem State.linesChanged_filterOf {ns : List LineId} (general : isGeneral q = true) (off : q ∉ s.pointsOn ns) :
    (s.linesChanged ns).filterOf q = s.filterOf q := by
  have other : q ≠ overflowPoint := by rintro rfl; exact absurd general (by decide)
  have ne : q ≠ lineFaultPoint := by rintro rfl; exact absurd general (by decide)
  refine (State.foldl_takeSource_filterOf other (fun mem => ?_) _).trans (s.rederiveFaulted_filterOf q)
  rw [mem_arrange, s.rederiveFaulted_pointsOn, List.mem_append, List.mem_singleton] at mem
  exact mem.elim off ne

/-- Each in-service point on the lines takes its source once, as the source stands (R27, R35). -/
theorem State.linesChanged_sourced (config : s.ConfigLegal) {ns : List LineId} (on : p ∈ s.pointsOn ns) :
    (s.linesChanged ns).filterOf p = s.sourced p := by
  obtain ⟨service, n, -, source⟩ := State.mem_pointsOn.mp on
  have external : ∀ i, isInternal i = true → p ≠ i := by
    rintro i internal rfl
    rw [config.internalSource p internal] at source
    exact nomatch source
  have distinct : (s.rederiveFaulted.pointsOn ns ++ [lineFaultPoint]).Nodup := by
    rw [s.rederiveFaulted_pointsOn, List.nodup_append]
    refine ⟨(List.nodup_finRange 64).filter _, List.nodup_singleton _, ?_⟩
    rintro i hi _ hj rfl
    obtain rfl := List.mem_singleton.mp hj
    obtain ⟨-, m, -, line⟩ := State.mem_pointsOn.mp hi
    rw [config.lineFault_source] at line
    exact nomatch line
  have same := State.SamePicture.rederiveFaulted s
  have cfg : s.rederiveFaulted.cfg p = s.cfg p := by simp only [State.cfg, same.config]
  have lines : s.rederiveFaulted.lines = s.lines := by
    unfold State.rederiveFaulted
    dsimp only
    split <;> rfl
  have taken := State.takeAll_takeSource_sourced (s := s.rederiveFaulted) (p := p)
    ((State.SameSettings.rederiveFaulted s).legal config) (fun _ none => absurd (cfg ▸ source) (none n)) distinct
    (List.mem_append_left _ (s.rederiveFaulted_pointsOn ns ▸ on)) (by rw [State.inService, same.service]; exact service)
    (external _ rfl)
  refine taken.trans ?_
  simp only [State.sourced, State.sourceFrozen, State.sourceRaw, cfg, source, lines, s.rederiveFaulted_filterOf]

/-- The qualification that a line gives its point is what R28 and R31 ask. -/
theorem State.takesLine_of_sourced (filter : t.filterOf p = u.sourced p) (before : u.filterOf p = s.filterOf p)
    (cfg : u.cfg p = s.cfg p) (frozen : t.sourceFrozen p = u.sourceFrozen p) (raw : t.sourceRaw p = u.sourceRaw p) :
    State.TakesLine s t p := by
  unfold State.sourced at filter
  refine ⟨fun held => ?_, fun free => ?_⟩
  · rw [filter, if_pos (frozen ▸ held), before]
  · rw [filter, if_neg (by simp [← frozen, free]), raw, before, cfg]
    exact Filter.taken_takes _ _ _

theorem State.linesChanged_source (ns : List LineId) (source : (u.cfg p).source = .line n) :
    (u.linesChanged ns).sourceFrozen p = u.sourceFrozen p ∧ (u.linesChanged ns).sourceRaw p = u.sourceRaw p ∧
      u.sourceRaw p = (u.lines[n]).classification.present := by
  obtain ⟨config, -, lines, -⟩ := u.linesChanged_kept ns
  have now : (u.linesChanged ns).cfg p = u.cfg p := by simp only [State.cfg, config]
  simp only [State.sourceFrozen, State.sourceRaw, now, lines, source, and_self]

/-- A change of lines reaches each in-service point on them (R27, R28, R31). -/
theorem State.linesChanged_takesLine (config : u.ConfigLegal) {ns : List LineId} (mem : n ∈ ns)
    (service : u.inService p = true) (source : (u.cfg p).source = .line n) (before : u.filterOf p = s.filterOf p)
    (cfg : u.cfg p = s.cfg p) : State.TakesLine s (u.linesChanged ns) p := by
  obtain ⟨frozen, raw, -⟩ := State.linesChanged_source ns source
  exact State.takesLine_of_sourced (State.linesChanged_sourced config (State.mem_pointsOn.mpr ⟨service, n, mem, source⟩))
    before cfg frozen raw

/-! ### LINE_SAMPLE (R17, R21) -/

/-- The line record after a sample: the level is stored, and a classification on which two levels agree adopted. -/
def State.sampled (s : State) (n : LineId) (level : Byte) : LineRecord :=
  { s.lines[n] with
    classification :=
      if (s.lines[n]).lastLevel.map (s.classify s.lines[n]) = some (s.classify s.lines[n] level) then
        s.classify s.lines[n] level
      else (s.lines[n]).classification
    lastLevel := some level }

/-- A sample reaches the line's readers exactly when it changes the classification. -/
theorem State.sampleLine_eq (s : State) (n : LineId) (level : Byte) :
    s.sampleLine n level =
      if (s.sampled n level).classification = (s.lines[n]).classification then
        s.setLine n { s.lines[n] with lastLevel := some level }
      else (s.setLine n (s.sampled n level)).linesChanged [n] := by
  unfold State.sampleLine
  dsimp only
  split
  · rename_i c adopted
    obtain ⟨rfl, agree, new⟩ := State.adopts_eq_some adopted
    have record : s.sampled n level =
        { s.lines[n] with classification := s.classify s.lines[n] level, lastLevel := some level } := by
      unfold State.sampled
      rw [if_pos agree]
    rw [record, if_neg new]
  · rename_i kept
    refine (if_pos ?_).symm
    unfold State.sampled
    dsimp only
    split
    · exact State.adopts_eq_none kept ‹_›
    · rfl

theorem State.sampleLine_lines (s : State) (n : LineId) (level : Byte) :
    (s.sampleLine n level).lines = s.lines.put n (s.sampled n level) := by
  rw [s.sampleLine_eq]
  split
  · rename_i same
    have record : s.sampled n level = { s.lines[n] with lastLevel := some level } :=
      congrArg (fun c => { s.lines[n] with classification := c, lastLevel := some level }) same
    rw [record]
    rfl
  · exact (State.linesChanged_kept _ _).2.2.1

/-- An adoption reaches each in-service point on the line, and of the general points no other (R27, R28). -/
theorem State.setLine_reaches (config : s.ConfigLegal) (n : LineId) (l : LineRecord) (p : PointId) :
    let t := (s.setLine n l).linesChanged [n]
    (s.inService p = true → (s.cfg p).source = .line n → State.TakesLine s t p ∧
      (t.filterOf p).frozen = t.sourceFrozen p ∧
      (t.sourceFrozen p = false → (t.filterOf p).raw = l.classification.present) ∧
      (t.sourceFrozen p = true → (t.filterOf p).raw = (s.filterOf p).raw)) ∧
    ((s.cfg p).source ≠ .line n → isGeneral p = true → t.filterOf p = s.filterOf p) := by
  intro t
  have legal : (s.setLine n l).ConfigLegal := (State.SameSettings.setLine s n l).legal config
  refine ⟨fun service source => ?_, fun source general => ?_⟩
  · have takes : State.TakesLine s t p := State.linesChanged_takesLine legal List.mem_cons_self service source rfl rfl
    have filter : t.filterOf p = (s.setLine n l).sourced p :=
      State.linesChanged_sourced legal (State.mem_pointsOn.mpr ⟨service, n, List.mem_cons_self, source⟩)
    obtain ⟨frozen, -, gives⟩ := State.linesChanged_source (u := s.setLine n l) [n] source
    rw [State.setLine_lines, Table.getElem_put, if_pos rfl] at gives
    obtain ⟨-, held, raw⟩ := (s.setLine n l).sourced_keeps p
    refine ⟨takes, ?_, fun free => ?_, fun held => by rw [takes.held held]⟩
    · rw [filter, held, frozen]
    · rw [filter, raw (frozen ▸ free), gives]
  · refine State.linesChanged_filterOf (s := s.setLine n l) general fun on => ?_
    obtain ⟨-, m, mem, line⟩ := State.mem_pointsOn.mp on
    exact source (List.mem_singleton.mp mem ▸ line)

/-- Settles O12: a sample that changes no classification is stored and reaches nothing, and one that does reaches the line's
readers. -/
theorem lineSampleAdopts : Obligations.LineSampleAdopts := by
  intro n level s
  have lines := s.sampleLine_lines n level
  have line : ((s.sampleLine n level).lines[n]).classification = (s.sampled n level).classification := by
    rw [lines, Table.getElem_put, if_pos rfl]
  refine ⟨s.sampleLine n level, rfl, lines, ?_⟩
  rw [line]
  by_cases same : (s.sampled n level).classification = (s.lines[n]).classification
  · rw [s.sampleLine_eq, if_pos same]
    have derived' : (s.setLine n { s.lines[n] with lastLevel := some level }).derivedFaulted = s.derivedFaulted :=
      State.setLine_derivedFaulted rfl rfl
    exact ⟨rfl, rfl, rfl, rfl, fun _ => rfl, fun _ new => absurd same new, fun derived => ⟨derived.trans derived'.symm,
      .inl, fun h => h.elim id fun ⟨_, changed⟩ => absurd .rfl changed⟩⟩
  · rw [s.sampleLine_eq, if_neg same]
    obtain ⟨config, service, -, thresholds, shelves⟩ := (s.setLine n (s.sampled n level)).linesChanged_kept [n]
    exact ⟨config, service, thresholds, shelves, fun eq => absurd eq same,
      fun legal _ p => State.setLine_reaches legal n _ p,
      fun derived => ⟨State.linesChanged_derived _ _, State.linesChanged_reports rfl rfl derived⟩⟩

/-! ### WRITE LINE and READ LINE (R23, R24) -/

/-- A line's last level, where it has one, is classified under its settings. -/
theorem State.reclassified_eq (s : State) (l : LineRecord) :
    s.reclassified l = { l with classification := (l.lastLevel.map (s.classify l)).getD l.classification } := by
  cases l with
  | mk mode polarity set classification lastLevel => cases lastLevel <;> rfl

/-- An answer reaches no line and no point. -/
theorem State.TakesLine.answered (h : State.TakesLine s t p) (c : Instr) (a : Answer) : State.TakesLine s (t.answered c a) p :=
  ⟨h.held, h.freed⟩

theorem lineModeOf_none {b : Byte} (h : 1 < b.toNat) : lineModeOf b = none := by
  simp only [lineModeOf, ← BitVec.toNat_inj]
  rw [if_neg, if_neg]
  · exact fun eq => absurd (eq ▸ h) (by decide)
  · exact fun eq => absurd (eq ▸ h) (by decide)

theorem polarityOf_none {b : Byte} (h : 1 < b.toNat) : polarityOf b = none := by
  simp only [polarityOf, ← BitVec.toNat_inj]
  rw [if_neg, if_neg]
  · exact fun eq => absurd (eq ▸ h) (by decide)
  · exact fun eq => absurd (eq ▸ h) (by decide)

theorem mem_derivedFaulted (n : LineId) (s : State) : n ∈ s.derivedFaulted ↔
    (s.lines[n]).mode = .supervised ∧
      ((s.lines[n]).classification = .wireOpen ∨ (s.lines[n]).classification = .wireShort) ∧
      ∃ p : PointId, s.service[p] = .inService ∧ (s.cfg p).source = .line n := by
  have fault : ∀ c : Classification, c.isFault = true ↔ c = .wireOpen ∨ c = .wireShort := fun c => by cases c <;> decide
  simp only [State.derivedFaulted, allLines, List.mem_filter, List.mem_finRange, true_and, Bool.and_eq_true, beq_iff_eq,
    fault, State.lineInUse, allPoints, List.any_eq_true, State.inService, and_assoc]

theorem ownWriteLine_range {b m q k : Byte} (h : 31 < b.toNat ∨ 1 < m.toNat ∨ 1 < q.toNat ∨ 3 < k.toNat) :
    ownWriteLine b m q k s = (s, some (.refusal .range)) := by
  unfold ownWriteLine
  rcases h with h | h | h | h
  · rw [numbered_none (by omega)]
    rfl
  · rw [lineModeOf_none h]
    cases numbered 32 b <;> rfl
  · rw [polarityOf_none h]
    cases numbered 32 b <;> cases lineModeOf m <;> rfl
  · rw [numbered_none (b := k) (by omega)]
    cases numbered 32 b <;> cases lineModeOf m <;> cases polarityOf q <;> rfl

theorem ownWriteLine_code (n : LineId) (m : LineMode) (q : Polarity) (k : SetId) (s : State) :
    ownWriteLine (byteOf n.val) m.code q.code (byteOf k.val) s =
      (if (s.lines[n]).mode = m ∧ (s.lines[n]).polarity = q ∧ (s.lines[n]).set = k then s else s.writeLineSettings n m q k,
        some (.okWith [])) := by
  unfold ownWriteLine
  rw [numbered_byteOf (by omega) n, lineModeOf_code, polarityOf_code, numbered_byteOf (by omega) k]
  exact apply_ite (fun u : State => (u, some (Answer.okWith []))) _ _ _ |>.symm

/-- Settles O13: new settings are one change of the line, which its readers take when it changes the classification. -/
theorem writeAndReadLine : Obligations.WriteAndReadLine := by
  refine ⟨mem_derivedFaulted, fun b m q k s range => exec_answers rfl (ownWriteLine_range range), ?_, ?_, ?_, ?_⟩
  · intro n m q k s mode polarity set
    exact exec_answers rfl ((ownWriteLine_code n m q k s).trans (by rw [if_pos ⟨mode, polarity, set⟩]))
  · intro n m q k s new
    let l := s.reclassified { s.lines[n] with mode := m, polarity := q, set := k }
    let ns := if l.classification = (s.lines[n]).classification then [] else [n]
    let t := (s.setLine n l).linesChanged ns
    have written : ownWriteLine (byteOf n.val) m.code q.code (byteOf k.val) s = (t, some (.okWith [])) :=
      (ownWriteLine_code n m q k s).trans (by rw [if_neg new]; rfl)
    obtain ⟨config, service, lines, thresholds, -⟩ : t.config = s.config ∧ t.service = s.service ∧
        t.lines = s.lines.put n l ∧ t.thresholds = s.thresholds ∧ _ := (s.setLine n l).linesChanged_kept ns
    have derived : t.faulted = t.derivedFaulted := State.linesChanged_derived _ _
    have line : t.lines[n] = l := by rw [lines, Table.getElem_put, if_pos rfl]
    have takes : s.ConfigLegal → (t.lines[n]).classification ≠ (s.lines[n]).classification →
        ∀ p : PointId, s.inService p = true → (s.cfg p).source = .line n → State.TakesLine s t p := by
      intro legal changed p on source
      refine State.linesChanged_takesLine ((State.SameSettings.setLine s n l).legal legal) ?_ on source rfl rfl
      rw [line] at changed
      exact (show ns = [n] from if_neg changed) ▸ List.mem_cons_self
    have reports : s.faulted = s.derivedFaulted →
        (t.flag .lineFault = true ↔ s.flag .lineFault = true ∨ ∃ i, ¬ (i ∈ t.faulted ↔ i ∈ s.faulted)) :=
      State.linesChanged_reports (u := s.setLine n l) rfl rfl
    clear_value t
    exact ⟨_, exec_answers rfl written, rfl, lines.trans (congrArg (s.lines.put n) (s.reclassified_eq _)),
      derived, config, service, thresholds,
      fun legal changed p on source => (takes legal changed p on source).answered _ _, reports⟩
  · intro b s range
    refine exec_answers rfl (show ownReadLine b s = _ from ?_)
    simp [ownReadLine, numbered_none (n := 32) (b := b) (by omega), State.refuse]
  · intro n s
    refine exec_answers rfl (show ownReadLine _ s = _ from ?_)
    simp [ownReadLine, numbered_byteOf (n := 32) (by omega) n, State.replyOk]

/-! ### WRITE THRESHOLDS (R25) -/

theorem ownWriteThresholds_range {b x a o : Byte} (h : 3 < b.toNat ∨ a.toNat ≤ x.toNat ∨ o.toNat ≤ a.toNat) :
    ownWriteThresholds b x a o s = (s, some (.refusal .range)) := by
  unfold ownWriteThresholds
  split
  · rfl
  · rename_i k named
    refine if_pos fun ordered => ?_
    rcases h with h | h
    · rw [numbered_none (by omega)] at named
      exact nomatch named
    · omega

theorem ownWriteThresholds_ordered (k : SetId) {x a o : Byte} (low : x.toNat < a.toNat) (high : a.toNat < o.toNat)
    (s : State) :
    ownWriteThresholds (byteOf k.val) x a o s =
      (if s.thresholds[k] = ⟨x, a, o⟩ then s else s.writeThresholdSet k ⟨x, a, o⟩, some (.okWith [])) := by
  unfold ownWriteThresholds
  rw [numbered_byteOf (by omega) k]
  exact (if_neg (not_not.mpr ⟨low, high⟩)).trans (apply_ite (fun u : State => (u, some (Answer.okWith []))) _ _ _ |>.symm)

/-- Settles O14: new levels classify the lines of their set, and the readers of those whose classification changes. -/
theorem writeThresholdsReclassifies : Obligations.WriteThresholdsReclassifies := by
  refine ⟨fun b x a o s range => exec_answers rfl (ownWriteThresholds_range range), fun k x a o s low high held => ?_,
    fun k x a o s low high new => ?_⟩
  · exact exec_answers rfl ((ownWriteThresholds_ordered k low high s).trans (by rw [if_pos held]))
  · let u := s.reclassifiedSet k ⟨x, a, o⟩
    let ns := ({ s with thresholds := s.thresholds.put k ⟨x, a, o⟩ } : State).staleLines k
    let t := u.linesChanged ns
    have written : ownWriteThresholds (byteOf k.val) x a o s = (t, some (.okWith [])) :=
      (ownWriteThresholds_ordered k low high s).trans (by rw [if_neg new, s.writeThresholdSet_eq])
    obtain ⟨config, service, lines, thresholds, -⟩ : t.config = s.config ∧ t.service = s.service ∧ t.lines = u.lines ∧
        t.thresholds = s.thresholds.put k ⟨x, a, o⟩ ∧ _ := u.linesChanged_kept ns
    have derived : t.faulted = t.derivedFaulted := State.linesChanged_derived _ _
    have line : ∀ n : LineId, t.lines[n] = u.lines[n] := fun n => by rw [lines]
    have classified : ∀ n : LineId, (s.lines[n]).set = k → t.lines[n] =
        { s.lines[n] with
          classification := ((s.lines[n]).lastLevel.map (t.classify s.lines[n])).getD (s.lines[n]).classification } := by
      intro n named
      have same : t.classify s.lines[n] = ({ s with thresholds := s.thresholds.put k ⟨x, a, o⟩ } : State).classify s.lines[n] := by
        funext level
        simp only [State.classify, thresholds]
      rw [line n, s.reclassifiedSet_lines, if_pos named, State.reclassified_eq, same]
    have takes : s.ConfigLegal → ∀ (n : LineId) (p : PointId), (t.lines[n]).classification ≠ (s.lines[n]).classification →
        s.inService p = true → (s.cfg p).source = .line n → State.TakesLine s t p := fun legal n p changed on source =>
      State.linesChanged_takesLine (State.reclassifiedSet_configLegal legal k ⟨low, high⟩)
        ((s.mem_staleLines k _ n).mpr (line n ▸ changed)) on source rfl rfl
    have reports : s.faulted = s.derivedFaulted →
        (t.flag .lineFault = true ↔ s.flag .lineFault = true ∨ ∃ i, ¬ (i ∈ t.faulted ↔ i ∈ s.faulted)) :=
      State.linesChanged_reports (u := u) rfl rfl
    clear_value t
    exact ⟨_, exec_answers rfl written, rfl, thresholds, config, service,
      fun n other => (line n).trans ((s.reclassifiedSet_lines k _ n).trans (if_neg other)), classified,
      derived, fun legal n p changed on source => (takes legal n p changed on source).answered _ _,
      reports⟩

end Sys2Proof.Machine

namespace Sys2Proof.Machine

set_option Elab.async false

/-! ## RESTART: the points start afresh (R33, R57, R180) -/

variable {s t u : State} {p q : PointId} {ovf : State → State}

/-! ### A point that has taken nothing yet -/

/-- A point other than 63 stands as RESTART sets an in-service point back, before it takes its source. -/
def State.Untaken (u : State) (p : PointId) : Prop :=
  p ≠ overflowPoint → u.filterOf p = .start ∧ u.alarmOf p = .normal

/-- From a stopped qualification there is no fall: R31's table leaves it, starts a delay or gives a rise. -/
theorem Filter.taken_start (c : PointConfig) (v : Bool) :
    Filter.start.taken c v =
      if v then
        if c.onDelay = 0 then { Filter.start with raw := true, qualified := true }
        else { Filter.start with raw := true, onTimer := some (c.onDelay.toNat * Config.delayUnit) }
      else .start := by
  cases v <;> rfl

theorem State.takeRawWith_start (service : s.inService p = true) (filter : s.filterOf p = .start)
    (normal : s.alarmOf p = .normal) (v : Bool) :
    s.takeRawWith ovf p v =
      if (Filter.start.taken (s.cfg p) v).qualified then
        (s.setFilter p (Filter.start.taken (s.cfg p) v)).requestAdmission ovf p
      else s.setFilter p (Filter.start.taken (s.cfg p) v) := by
  have rises : ∀ f, (s.setFilter p f).riseWith ovf p = (s.setFilter p f).requestAdmission ovf p := fun f => by
    simp [State.riseWith, show (s.setFilter p f).alarmOf p = .normal from normal]
  rw [State.takeRawWith_eq service, filter]
  cases v with
  | false => rfl
  | true =>
    rw [rises]
    cases (Filter.start.taken (s.cfg p) true).qualified <;> rfl

/-- Its source freezes such a point, leaves it, starts its delay, or lets its condition rise at once (R33). -/
theorem State.takeSource_untaken (service : s.inService p = true) (other : p ≠ overflowPoint) (untaken : s.Untaken p) :
    s.takeSource p =
      if (s.sourced p).qualified then (s.setFilter p (s.sourced p)).requestAdmission State.handOverflow p
      else s.setFilter p (s.sourced p) := by
  obtain ⟨filter, normal⟩ := untaken other
  have self : s.setFilter p .start = s := filter ▸ s.setFilter_self p
  unfold State.sourced
  cases held : s.sourceFrozen p with
  | true =>
    rw [State.takeSource_of_held service held, filter]
    rfl
  | false =>
    have taken : s.takeRaw p (s.sourceRaw p) = _ := State.takeRawWith_start service filter normal _
    rw [if_neg Bool.false_ne_true, show { s.filterOf p with frozen := false } = Filter.start by rw [filter]; rfl, ← taken]
    unfold State.takeSource State.sourceRaw
    cases source : (s.cfg p).source with
    | line n =>
      have open' : ¬ ((s.cfg p).faultResponse = .hold ∧ (s.lines[n]).classification.isFault = true) := by
        simpa [State.sourceFrozen, source] using held
      simp only [State.takeLine, service, Bool.true_eq_false, if_false, if_neg open', filter]
      exact congrArg (fun u => State.takeRaw u p _) self
    | host => rfl
    | internal =>
      dsimp only
      split
      · rename_i own
        subst own
        rfl
      · rw [State.takeRaw, State.takeRawWith_start service filter normal]
        exact self.symm

/-- Point 63 alone is touched when it takes its source (R75). -/
theorem State.Touches.takeSource_overflow (s : State) :
    State.Touches (· = overflowPoint) s (s.takeSource overflowPoint) := by
  have raw : ∀ (u : State) v, State.Touches (· = overflowPoint) u (u.takeRaw overflowPoint v) := fun u v =>
    State.Touches.takeRawWith (S := (· = overflowPoint)) (fun w => .handOverflow w rfl) u rfl v
      fun general => absurd general (by decide)
  have set : ∀ v, State.Touches (· = overflowPoint) s (s.setFilter overflowPoint { s.filterOf overflowPoint with frozen := v }) :=
    fun v => State.Touches.setFilter (S := (· = overflowPoint)) s rfl rfl
  unfold State.takeSource
  split
  · unfold State.takeLine
    dsimp only
    split
    · exact .refl s
    · split
      · exact set true
      · exact (set false).trans (raw _ _)
  · exact raw s _
  · rw [if_neg (by decide), if_pos rfl]
    exact State.Touches.handOverflow (S := (· = overflowPoint)) s rfl

/-- A point that takes its source for the first time touches no other point but 63. -/
theorem State.Touches.takeSource_untaken (service : s.inService p = true) (untaken : s.Untaken p) :
    State.Touches (fun q => q = p ∨ q = overflowPoint) s (s.takeSource p) := by
  rcases eq_or_ne p overflowPoint with rfl | other
  · have touches := State.Touches.takeSource_overflow s
    exact ⟨fun q out => touches.alarm q fun k => out (.inr k), fun q out => touches.filter q fun k => out (.inr k),
      touches.hostRaw, touches.flags⟩
  · rw [State.takeSource_untaken service other untaken]
    have set : State.Touches (fun q => q = p ∨ q = overflowPoint) s (s.setFilter p (s.sourced p)) :=
      .setFilter s (.inl rfl) (s.sourced_keeps p).1
    split
    · exact set.trans (.requestAdmission (fun v => .handOverflow v (.inr rfl)) _ (.inl rfl))
    · exact set

/-! ### All in-service points take their sources -/

/-- The state in which RESTART begins to take the points: the blocks set back, and the free choice of their order made. -/
def State.restarted (s : State) : State := { s.restartBlocks with freeCount := s.freeCount + 1 }

theorem State.restarted_filterOf (s : State) (p : PointId) : s.restarted.filterOf p = .start := s.restartBlocks_filterOf p

theorem State.restarted_alarmOf (s : State) (p : PointId) :
    (s.service[p] = .inService → s.restarted.alarmOf p = .normal) ∧
      (s.service[p] = .outService → s.restarted.alarmOf p = .outOfService) := by
  constructor <;> intro (service : s.service[p.val] = _) <;>
    simp [State.alarmOf, State.restarted, State.restartBlocks, service]

/-- What holds when the points begin to be taken, and what an in-service point that has taken nothing yet keeps as it takes
its source, holds after RESTART. -/
theorem State.restartAll_induct {P : State → Prop} (start : P s.restarted)
    (take : ∀ p u, u.inService p = true → State.PictureFrame s.restarted u → u.Untaken p → P u → P (u.takeSource p)) :
    State.PictureFrame s.restarted s.restartAll ∧ P s.restartAll := by
  have each : ∀ (l : List PointId) (u : State), l.Nodup → (∀ p ∈ l, s.restarted.inService p = true) →
      (∀ p ∈ l, u.Untaken p) → State.PictureFrame s.restarted u → P u →
      State.PictureFrame s.restarted (l.foldl (fun t p => t.takeSource p) u) ∧ P (l.foldl (fun t p => t.takeSource p) u) := by
    intro l
    induction l with
    | nil => exact fun u _ _ _ frame hu => ⟨frame, hu⟩
    | cons p l ih =>
      intro u distinct service untaken frame hu
      obtain ⟨out, distinct⟩ := List.nodup_cons.mp distinct
      have now : u.inService p = true := frame.inService p ▸ service p List.mem_cons_self
      have own := untaken p List.mem_cons_self
      refine ih (u.takeSource p) distinct (fun q hq => service q (List.mem_cons_of_mem _ hq)) (fun q hq other => ?_)
        (frame.trans (.takeSource u p)) (take p u now frame own hu)
      have ne : ¬ (q = p ∨ q = overflowPoint) := not_or.mpr ⟨fun eq => out (eq ▸ hq), other⟩
      have touches := State.Touches.takeSource_untaken now own
      rw [touches.filter q ne, touches.alarm q ne]
      exact untaken q (List.mem_cons_of_mem _ hq) other
  have service : ∀ p ∈ arrange s.restartBlocks.freeCount s.restartBlocks.pointsInService,
      s.restarted.inService p = true := fun p hp => State.mem_pointsInService.mp (mem_arrange.mp hp)
  refine each (arrange s.restartBlocks.freeCount s.restartBlocks.pointsInService) s.restarted ?_ service (fun p hp _ => ?_)
    (.refl _) start
  · exact (arrange_perm _ _).nodup_iff.mpr ((List.nodup_finRange 64).filter _)
  · have on : s.service[p] = .inService := beq_iff_eq.mp (service p hp)
    exact ⟨s.restarted_filterOf p, (s.restarted_alarmOf p).1 on⟩

/-! ### What RESTART keeps of the groups, and of the points out of service (R57, R180) -/

/-- Every group has its first-out sequence enabled as it had. -/
def State.SameEnables (s t : State) : Prop := ∀ g : GroupId, (t.groups[g]).firstOutEnabled = (s.groups[g]).firstOutEnabled

theorem State.SameEnables.trans (h : State.SameEnables s t) (k : State.SameEnables t u) : State.SameEnables s u :=
  fun g => (k g).trans (h g)

theorem State.SameEnables.of_groups (h : t.groups = s.groups) : State.SameEnables s t := fun g => by rw [h]

theorem State.SameEnables.setGroup (s : State) (g : GroupId) {r : GroupRecord}
    (same : r.firstOutEnabled = (s.groups[g]).firstOutEnabled) : State.SameEnables s (s.setGroup g r) := fun i => by
  show ((s.groups.put g r)[i]).firstOutEnabled = _
  rw [Table.getElem_put]
  split
  · rename_i eq
    exact eq ▸ same
  · rfl

theorem State.SameEnables.armQuiet (s : State) : State.SameEnables s s.armQuiet := fun g => by
  simp only [State.armQuiet, Fin.getElem_fin, Table.getElem_mapIdx]
  split <;> rfl

theorem State.SameEnables.emptySlot (s : State) (g : GroupId) : State.SameEnables s (s.emptySlot g) := by
  unfold State.emptySlot
  split
  · exact .setGroup s g rfl
  · exact .of_groups rfl

theorem State.SameEnables.releaseSlot (s : State) (p : PointId) (v : Bool) : State.SameEnables s (s.releaseSlot p v) := by
  unfold State.releaseSlot
  split
  · split
    · exact .emptySlot s _
    · exact .of_groups rfl
  · exact .of_groups rfl

theorem State.SameEnables.decideFirstOut (s : State) (p : PointId) : State.SameEnables s (s.decideFirstOut p) := by
  unfold State.decideFirstOut
  split
  · exact .setGroup s _ rfl
  · exact .of_groups rfl

theorem State.SameEnables.admitPoint (s : State) (p : PointId) : State.SameEnables s (s.admitPoint p) :=
  (State.SameEnables.of_groups rfl : State.SameEnables s (s.enterRoster p)).trans
    ((State.SameEnables.decideFirstOut _ p).trans (.of_groups (State.SoundFrame.compareSince _ s).groups_eq))

theorem State.SameEnables.moveRecord (s : State) (p : PointId) (st : RecordState) (f : RosterRecord → RosterRecord) :
    State.SameEnables s (s.moveRecord p st f) := .of_groups rfl

theorem State.SameEnables.renewed (s : State) (p : PointId) (before : State) :
    State.SameEnables s ((s.renewRecord p).compareSince before) :=
  .of_groups ((State.SoundFrame.renewRecord s p).trans (.compareSince _ before)).groups_eq

section Overflow

variable (hovf : ∀ u, State.SameEnables u (ovf u))
include hovf

theorem State.SameEnables.handIfEmptied (before : List PointId) (s : State) :
    State.SameEnables s (handIfEmptied ovf before s) := by
  unfold Machine.handIfEmptied
  split
  · exact hovf s
  · exact .of_groups rfl

theorem State.SameEnables.requestAdmission (s : State) (p : PointId) : State.SameEnables s (s.requestAdmission ovf p) := by
  rcases s.requestAdmission_cases ovf p with ⟨-, eq⟩ | ⟨-, -, eq⟩ <;> rw [eq]
  · exact .admitPoint s p
  · unfold State.defer
    dsimp only
    split
    · exact State.SameEnables.trans (.of_groups rfl) (hovf _)
    · exact .of_groups rfl

theorem State.SameEnables.admitHead (s : State) : State.SameEnables s (s.admitHead ovf) := by
  unfold State.admitHead
  split
  · exact .of_groups rfl
  · rename_i q rest _
    exact (State.SameEnables.admitPoint { s with deferred := rest } q).trans (.handIfEmptied hovf _ _)

theorem State.SameEnables.retire (s : State) (p : PointId) (a : AlarmState) : State.SameEnables s (s.retire ovf p a) := by
  have gone : ∀ v, State.SameEnables s ((s.retired p a v).compareSince s) := fun v =>
    ((State.SameEnables.releaseSlot (s.leaveRoster p a) p v).trans (.armQuiet _)).trans
      (.of_groups (State.SoundFrame.compareSince _ s).groups_eq)
  rcases s.retire_cases ovf p a with eq | ⟨v, eq | ⟨-, eq⟩⟩ <;> rw [eq]
  · exact .of_groups rfl
  · exact gone v
  · exact (gone v).trans (.admitHead hovf _)

theorem State.SameEnables.riseWith (s : State) (p : PointId) : State.SameEnables s (s.riseWith ovf p) := by
  rcases s.riseWith_cases ovf p with ⟨-, eq⟩ | ⟨-, eq⟩ | eq <;> rw [eq]
  · exact .requestAdmission hovf s p
  · exact (State.SameEnables.moveRecord s p _ _).trans (.renewed _ p s)
  · exact .of_groups rfl

theorem State.SameEnables.fallWith (s : State) (p : PointId) : State.SameEnables s (s.fallWith ovf p) := by
  rcases s.fallWith_cases ovf p with ⟨-, -, eq⟩ | ⟨-, -, eq⟩ | ⟨-, -, eq⟩ | ⟨-, -, eq⟩ | eq <;> rw [eq]
  · exact (State.SameEnables.moveRecord s p _ _).trans
      (State.SameEnables.of_groups ((State.SoundFrame.renewRecord _ p).groups_eq.trans rfl) |>.trans
        (.of_groups (State.SoundFrame.compareSince _ s).groups_eq))
  · exact .retire hovf s p _
  · exact .moveRecord s p _ _
  · have left : State.SameEnables s ({ s.setAlarm p .normal with deferred := s.deferred.erase p } : State).armQuiet :=
      .armQuiet { s.setAlarm p .normal with deferred := s.deferred.erase p }
    exact left.trans (.handIfEmptied hovf _ _)
  · exact .of_groups rfl

theorem State.SameEnables.takeRawWith (s : State) (p : PointId) (v : Bool) :
    State.SameEnables s (s.takeRawWith ovf p v) := by
  rcases s.takeRawWith_cases ovf p v with ⟨-, eq⟩ | ⟨-, f, -, -, -, ⟨-, eq⟩ | ⟨-, -, -, eq⟩ | ⟨-, -, -, eq⟩⟩ <;> rw [eq]
  · exact .of_groups rfl
  · exact .of_groups rfl
  · exact .trans (.of_groups rfl) (.riseWith hovf _ p)
  · exact .trans (.of_groups rfl) (.fallWith hovf _ p)

end Overflow

theorem State.SameEnables.handOverflow (s : State) : State.SameEnables s s.handOverflow :=
  .takeRawWith (fun _ => .of_groups rfl) s _ _

theorem State.SameEnables.takeSource (s : State) (p : PointId) : State.SameEnables s (s.takeSource p) := by
  have raw : ∀ (u : State) v, State.SameEnables u (u.takeRaw p v) := fun u v => .takeRawWith .handOverflow u p v
  unfold State.takeSource
  split
  · unfold State.takeLine
    dsimp only
    split
    · exact .of_groups rfl
    · split
      · exact .of_groups rfl
      · exact .trans (.of_groups rfl) (raw _ _)
  · exact raw s _
  · split
    · exact .takeRawWith .handOverflow s _ _
    · split
      · exact .handOverflow s
      · exact .of_groups rfl

/-- The point in DEFERRED, before its deferral hands point 63 its condition (R70). -/
def State.queued (s : State) (p : PointId) : State :=
  ({ s.setAlarm p .deferred with deferred := s.insertDeferred p } : State).raise .deferred

theorem State.defer_eq (s : State) (p : PointId) :
    s.defer ovf p = if s.deferred.isEmpty then ovf (s.queued p) else s.queued p := rfl

theorem State.handOverflow_outService (out : s.inService overflowPoint = false) : s.handOverflow = s :=
  State.takeRawWith_outService out _

/-- With point 63 out of service a request for admission hands nothing over. -/
theorem State.requestAdmission_outService (out : s.inService overflowPoint = false) :
    s.requestAdmission State.handOverflow p = s.requestAdmission id p := by
  have none : (s.queued p).handOverflow = s.queued p := State.handOverflow_outService out
  rw [State.requestAdmission, State.defer_eq, none]
  rfl

/-- A point that takes its source for the first time leaves every point out of service as it stands. -/
theorem State.takeSource_outside (service : s.inService p = true) (untaken : s.Untaken p) (out : s.inService q = false) :
    (s.takeSource p).alarmOf q = s.alarmOf q ∧ (s.takeSource p).filterOf q = s.filterOf q := by
  have ne : q ≠ p := by
    rintro rfl
    exact absurd service (by simp [out])
  rcases eq_or_ne q overflowPoint with rfl | other
  · rw [State.takeSource_untaken service ne.symm untaken]
    have set := State.Touches.setFilter (S := (· = p)) s rfl (s.sourced_keeps p).1
    split
    · rw [State.requestAdmission_outService (s := s.setFilter p (s.sourced p)) out]
      have touches := set.trans (State.Touches.requestAdmission (S := (· = p)) (fun u => .refl u) _ rfl)
      exact ⟨touches.alarm _ ne, touches.filter _ ne⟩
    · exact ⟨set.alarm _ ne, set.filter _ ne⟩
  · have touches := State.Touches.takeSource_untaken service untaken
    exact ⟨touches.alarm q (not_or.mpr ⟨ne, other⟩), touches.filter q (not_or.mpr ⟨ne, other⟩)⟩

/-- What RESTART leaves of the picture in every state: the groups' settings, the points out of service, no host condition, and
RESTARTED with no flag of another block (R57, R180, R193). -/
structure State.Kept (s u : State) : Prop where
  enables : State.SameEnables s u
  outside : ∀ q, u.inService q = false → u.alarmOf q = .outOfService ∧ u.filterOf q = .start
  hostRaw : ∀ q, (u.filterOf q).hostRaw = false
  flags : ∀ e : Event, e.ofPicture = false → (u.flag e = true ↔ e = .restarted)

theorem State.restarted_flag (s : State) (e : Event) : s.restarted.flag e = true ↔ e = .restarted := by
  have same : s.restarted.flag e = State.reset.flag e := rfl
  rw [same, State.reset_flag]

theorem State.kept_restartAll (s : State) : State.PictureFrame s.restarted s.restartAll ∧ State.Kept s s.restartAll := by
  refine State.restartAll_induct ⟨fun g => ?_, fun q out => ?_, fun q => ?_, fun e _ => s.restarted_flag e⟩
    fun p u service frame untaken h => ?_
  · simp [State.restarted, State.restartBlocks]
  · have out : s.service[q] = .outService := by
      cases on : s.service[q]
      · exact absurd out (by simp [State.inService, State.restarted, State.restartBlocks, State.clearToRestarted, on])
      · rfl
    exact ⟨(s.restarted_alarmOf q).2 out, s.restarted_filterOf q⟩
  · rw [s.restarted_filterOf]
    rfl
  · have touches := State.Touches.takeSource u p
    refine ⟨h.enables.trans (.takeSource u p), fun q out => ?_, fun q => (touches.hostRaw q).trans (h.hostRaw q),
      fun e picture => by rw [touches.flags e picture, h.flags e picture]⟩
    have out : u.inService q = false := (State.PictureFrame.takeSource u p).inService q ▸ out
    obtain ⟨alarm, filter⟩ := State.takeSource_outside service untaken out
    rw [alarm, filter]
    exact h.outside q out

end Sys2Proof.Machine

namespace Sys2Proof.Machine

set_option Elab.async false

/-! ### What the channels serve while the points come in (R152, R153)

Only records demand a sound while no lamp test runs, and their demands only grow as points are admitted. -/

variable {s t u : State} {p q : PointId} {c k : Chan}

/-- A PLAYING channel is in the first step of a pass for a record that stands, with nothing renewed or replaced, and wants a
demand. -/
def State.Serves (u : State) (c : Chan) : Prop :=
  ∀ pl, u.playerOf c = some pl → (∃ r ∈ u.roster, pl.owner = .record r.point r.stamp) ∧ pl.stepIndex = 0 ∧
    pl.renewed = false ∧ pl.replacementPending = false ∧ u.wanted c ≠ none

/-- A channel that is IDLE wants nothing, and one that is PLAYING serves a record. -/
def State.Sounds (u : State) (c : Chan) : Prop := (u.playerOf c = none → u.wanted c = none) ∧ u.Serves c

theorem State.SoundFrame.wanted (h : State.SoundFrame s t) (c : Chan) : t.wanted c = s.wanted c := by
  obtain ⟨⟨a, b, e, rfl⟩, -⟩ := h
  cases c <;> rfl

theorem State.SoundFrame.serves (h : State.SoundFrame s t) (player : t.playerOf c = s.playerOf c) (serves : s.Serves c) :
    t.Serves c := fun pl playing => by
  rw [h.roster_eq, h.wanted]
  exact serves pl (player ▸ playing)

theorem State.PictureFrame.demandOn (h : State.PictureFrame s t) (c : Chan) (r : RosterRecord) :
    t.demandOn c r = s.demandOn c r := by
  have once : t.playsOnce = s.playsOnce := funext fun q => by rw [State.playsOnce, State.playsOnce, h.cues]
  have cue : t.cueOf r = s.cueOf r := by rw [State.cueOf, State.cueOf, h.cfg]
  have demand : t.demandOf r = s.demandOf r := by rw [State.demandOf, State.demandOf, cue, once]
  rw [State.demandOn, State.demandOn, h.cfg, demand]

theorem State.wanted_eq_none_iff (untested : u.testActive = false) :
    u.wanted c = none ↔ (u.channels.get c).enabled = false ∨ ∀ r ∈ u.roster, u.demandOn c r = none := by
  have quiet : u.testAsks c = false := by simp [State.testAsks, untested]
  unfold State.wanted
  cases (u.channels.get c).enabled
  · simp
  · simp only [Bool.not_true, Bool.false_eq_true, if_false, quiet, Bool.true_eq_false, false_or, ← List.findSome?_eq_none_iff]
    cases u.roster.findSome? (u.demandOn c) <;> simp

/-- What a channel wants is demanded by a record. -/
theorem State.wanted_owner (untested : u.testActive = false) {d : Demand} (h : u.wanted c = some d) :
    ∃ r ∈ u.roster, d.owner = .record r.point r.stamp := by
  have quiet : u.testAsks c = false := by simp [State.testAsks, untested]
  unfold State.wanted at h
  split at h
  · exact nomatch h
  · split at h
    · rename_i found
      obtain rfl := Option.some.inj h
      obtain ⟨r, mem, demand⟩ := List.exists_of_findSome?_eq_some found
      refine ⟨r, mem, ?_⟩
      unfold State.demandOn at demand
      split at demand
      · obtain ⟨q, -, rfl⟩ := Option.map_eq_some_iff.mp demand
        rfl
      · exact nomatch demand
    · simp [quiet] at h

/-- A channel that wants a demand still does when the records that demanded stand and others have come in. -/
theorem State.PictureFrame.wanted_ne_none (h : State.PictureFrame s t) (untested : s.testActive = false)
    (grows : ∀ r ∈ s.roster, r ∈ t.roster) (wants : s.wanted c ≠ none) : t.wanted c ≠ none := by
  have still : t.testActive = false := by rw [← untested, State.testActive, State.testActive, h.panelTest, h.hostTest]
  rw [Ne, State.wanted_eq_none_iff still, not_or]
  rw [Ne, State.wanted_eq_none_iff untested, not_or] at wants
  exact ⟨fun off => wants.1 (h.enabled c ▸ off),
    fun none => wants.2 fun r hr => (h.demandOn c r).symm.trans (none r (grows r hr))⟩

/-! ### A comparison -/

/-- Everything a comparison does to a channel that serves a record or nothing: it stays as it is, or begins a pass for the
demand it wants (R152, R153, R158). -/
theorem State.compareChannel_serves (serves : u.Serves c) :
    (u.compareChannel c = u ∧ (u.playerOf c = none → u.wanted c = none)) ∨
      ∃ d, u.wanted c = some d ∧ u.compareChannel c = u.beginPass c d := by
  unfold State.compareChannel
  cases playing : u.playerOf c with
  | none =>
    cases wants : u.wanted c with
    | none => exact .inl ⟨rfl, fun _ => rfl⟩
    | some d => exact .inr ⟨d, rfl, rfl⟩
  | some pl =>
    obtain ⟨-, -, -, -, wants⟩ := serves pl playing
    obtain ⟨d, wants⟩ := Option.ne_none_iff_exists'.mp wants
    dsimp only
    split
    · exact .inl ⟨rfl, nofun⟩
    · split
      · exact .inr ⟨d, wants, by rw [wants]; rfl⟩
      · exact .inl ⟨rfl, nofun⟩

theorem State.playerOf_setPlayer (s : State) (c k : Chan) (pl : Option Player) :
    (s.setPlayer c pl).playerOf k = if k = c then pl else s.playerOf k := by
  cases c <;> cases k <;> rfl

theorem State.playerOf_beginPass (s : State) (c k : Chan) (d : Demand) :
    (s.beginPass c d).playerOf k = if k = c then some (s.passStart d.owner d.cue) else s.playerOf k := by
  have same : (s.noteFallback d.cue).playerOf k = s.playerOf k := by
    unfold State.noteFallback
    split <;> rfl
  rw [State.beginPass, State.playerOf_setPlayer, same]

theorem State.flag_beginPass (s : State) (c : Chan) (d : Demand) (e : Event) (h : (s.beginPass c d).flag e = true) :
    s.flag e = true ∨ e = .cueFallback := by
  have h : (s.noteFallback d.cue).flag e = true := h
  unfold State.noteFallback at h
  split at h
  · exact .inl h
  · rw [State.flag_raise, Bool.or_eq_true, decide_eq_true_eq] at h
    exact h.imp_right Eq.symm

theorem State.compareChannel_sounds (untested : u.testActive = false) (serves : u.Serves c) :
    (u.compareChannel c).Sounds c ∧ (∀ k, k ≠ c → (u.compareChannel c).playerOf k = u.playerOf k) ∧
      ∀ e, (u.compareChannel c).flag e = true → u.flag e = true ∨ e = .cueFallback := by
  rcases State.compareChannel_serves serves with ⟨eq, idle⟩ | ⟨d, wants, eq⟩ <;> rw [eq]
  · exact ⟨⟨idle, serves⟩, fun _ _ => rfl, fun e h => .inl h⟩
  · have frame := State.SoundFrame.beginPass u c d
    have player : (u.beginPass c d).playerOf c = some (u.passStart d.owner d.cue) := by
      rw [State.playerOf_beginPass, if_pos rfl]
    refine ⟨⟨fun none => ?_, fun pl playing => ?_⟩, fun k ne => ?_, u.flag_beginPass c d⟩
    · rw [player] at none
      exact nomatch none
    · obtain rfl := Option.some.inj (player.symm.trans playing)
      rw [frame.roster_eq, frame.wanted, wants]
      exact ⟨State.wanted_owner untested wants, rfl, rfl, rfl, Option.some_ne_none d⟩
    · rw [State.playerOf_beginPass, if_neg ne]

theorem State.SoundFrame.sounds (h : State.SoundFrame s t) (player : t.playerOf c = s.playerOf c) (sounds : s.Sounds c) :
    t.Sounds c :=
  ⟨fun idle => (h.wanted c).trans (sounds.1 (player ▸ idle)), h.serves player sounds.2⟩

/-- After a comparison of both channels each serves a record or wants nothing, and of the flags CUE_FALLBACK alone may have
been set. -/
theorem State.compareSince_sounds (untested : u.testActive = false) (serves : ∀ c, u.Serves c) (before : State) :
    (∀ c, (u.compareSince before).Sounds c) ∧
      ∀ e, (u.compareSince before).flag e = true → u.flag e = true ∨ e = .cueFallback := by
  have settled : ∀ {v : State} {c}, v.Serves c → v.compareChannelSince before c = v.compareChannel c := fun served =>
    State.compareChannelSince_settled fun pl playing => (served pl playing).2.2.2.1
  have frame := State.SoundFrame.compareChannel u .a
  obtain ⟨soundsA, otherA, flagsA⟩ := State.compareChannel_sounds untested (serves .a)
  have servesB : (u.compareChannel .a).Serves .b := frame.serves (otherA .b (by decide)) (serves .b)
  have untested' : (u.compareChannel .a).testActive = false := by
    rw [State.testActive, frame.panelTest_eq, frame.hostTest_eq]
    exact untested
  obtain ⟨soundsB, otherB, flagsB⟩ := State.compareChannel_sounds untested' servesB
  rw [State.compareSince, settled (serves .a), settled servesB]
  refine ⟨fun c => ?_, fun e h => (flagsB e h).elim (flagsA e) .inr⟩
  cases c
  · exact (State.SoundFrame.compareChannel _ .b).sounds (otherB .a (by decide)) soundsA
  · exact soundsB

end Sys2Proof.Machine

namespace Sys2Proof.Machine

set_option Elab.async false

/-! ### The picture while the points come in (R33, R57, R63 to R75, R86)

From the empty picture the points only come in: each is admitted or deferred once, and nothing leaves. -/

open Function (update)

variable {s t u : State} {p q : PointId} {f : Filter}

/-- The group's slot is empty and armed, or names a record that came in as the first of the group (R86). -/
def State.GroupFresh (u : State) (g : GroupId) : Prop :=
  (u.groups[g]).slot = none ∧ (u.groups[g]).armed = true ∨
    ∃ r ∈ u.roster, (u.groups[g]).slot = some r.point ∧ r.firstOut = true ∧ (u.cfg r.point).group = some g ∧
      (u.groups[g]).firstOutEnabled = true ∧ (u.groups[g]).armed = false

/-- Every point that is in the picture has just come in, from a condition that rose at once. -/
structure State.PictureFresh (u : State) : Prop where
  normal : ∀ p, u.inService p = true → (u.filterOf p).qualified = false → u.alarmOf p = .normal
  risen : ∀ p, u.inService p = true → (u.filterOf p).qualified = true →
    u.alarmOf p = .alert ∨ u.alarmOf p = .deferred ∧ isGeneral p = true ∧ u.generalCount = Config.generalPlaces
  records : ∀ r ∈ u.roster, u.inService r.point = true ∧ (u.cfg r.point).onDelay = 0 ∧
    r = { freshRecord r.point r.stamp with firstOut := r.firstOut }
  alert : ∀ p, u.alarmOf p = .alert ↔ ∃ r ∈ u.roster, r.point = p
  deferred : ∀ p, u.alarmOf p = .deferred ↔ p ∈ u.deferred
  count : u.generalCount = u.roster.countP fun r => isGeneral r.point
  places : u.generalCount ≤ Config.generalPlaces
  groups : ∀ g, u.GroupFresh g

/-- The picture is fresh, no lamp test runs, the channels serve its records, and no flag stands but those of its coming in. -/
structure State.Begun (u : State) : Prop extends u.PictureFresh where
  untested : u.testActive = false
  sounds : ∀ c, u.Sounds c
  newAlert : u.flag .newAlert = true ↔ u.roster ≠ []
  waiting : u.flag .deferred = true ↔ u.deferred ≠ []
  flags : ∀ e : Event, u.flag e = true → e ∈ [Event.restarted, .newAlert, .deferred, .cueFallback]

/-- Point 63 in service has no condition while nothing is deferred, and its raw condition stands while something is (R75). -/
def State.OverflowBegun (u : State) : Prop :=
  u.inService overflowPoint = true → (u.deferred = [] → u.filterOf overflowPoint = .start) ∧
    (u.deferred ≠ [] → (u.filterOf overflowPoint).raw = true)

/-- The picture reads neither channels nor flags. -/
theorem State.SoundFrame.pictureFresh (h : State.SoundFrame s t) (fresh : s.PictureFresh) : t.PictureFresh := by
  obtain ⟨⟨a, b, e, rfl⟩, -⟩ := h
  exact ⟨fresh.normal, fresh.risen, fresh.records, fresh.alert, fresh.deferred, fresh.count, fresh.places, fresh.groups⟩

/-! ### Moves of one point -/

/-- A change of a point's qualification that is no edge. -/
theorem State.PictureFresh.setFilter (h : u.PictureFresh) (same : f.qualified = (u.filterOf p).qualified) :
    (u.setFilter p f).PictureFresh := by
  have qualified : ∀ q, ((u.setFilter p f).filterOf q).qualified = (u.filterOf q).qualified := fun q => by
    rw [State.filterOf_setFilter]
    split
    · rename_i own
      rw [same, own]
    · rfl
  exact ⟨fun q service absent => h.normal q service (qualified q ▸ absent),
    fun q service present => h.risen q service (qualified q ▸ present), h.records, h.alert, h.deferred, h.count, h.places, h.groups⟩

theorem State.Begun.setFilter (h : u.Begun) (same : f.qualified = (u.filterOf p).qualified) : (u.setFilter p f).Begun :=
  ⟨h.toPictureFresh.setFilter same, h.untested, h.sounds, h.newAlert, h.waiting, h.flags⟩

/-- A point with its record in the roster and its first-out decision taken, before the channels compare (R68). -/
def State.admitted (u : State) (p : PointId) : State := ((u.enterRoster p).decideFirstOut p).raise .newAlert

theorem State.admitPoint_eq (u : State) (p : PointId) : u.admitPoint p = (u.admitted p).compareSince u := rfl

theorem State.Still.admitted (u : State) (p : PointId) : State.Still u (u.admitted p) := by
  have enters : State.Still u (u.enterRoster p) :=
    ⟨⟨.update u (u.alarm.put p .alert) u.filter _ _ u.deferred _ u.groups u.events, rfl⟩, rfl⟩
  exact (enters.trans (.decideFirstOut _ p)).trans (.raise _ _)

theorem State.admitted_alarmOf (u : State) (p : PointId) : (u.admitted p).alarmOf = update u.alarmOf p .alert := by
  rw [← u.enterRoster_alarmOf p]
  unfold State.admitted State.decideFirstOut
  split <;> rfl

theorem State.admitted_generalCount (u : State) (p : PointId) :
    (u.admitted p).generalCount = if isGeneral p then u.generalCount + 1 else u.generalCount := by
  unfold State.admitted State.decideFirstOut
  split <;> rfl

/-- The record that an admission brings in: marked when it takes its group's slot (R86). -/
def State.firstRecord (u : State) (p : PointId) : RosterRecord :=
  { freshRecord p u.nextStamp with firstOut := (u.slotFor p).isSome }

theorem State.admitted_roster (absent : ∀ r ∈ u.roster, r.point ≠ p) :
    (u.admitted p).roster.Perm (u.firstRecord p :: u.roster) := by
  have perm : (u.insertRecord (freshRecord p u.nextStamp)).Perm (freshRecord p u.nextStamp :: u.roster) := placed_perm _ _ _
  unfold State.firstRecord State.admitted State.decideFirstOut
  rw [show (u.enterRoster p).slotFor p = u.slotFor p from rfl]
  cases u.slotFor p with
  | none => exact perm
  | some g =>
    have kept : u.roster.map (fun r => if r.point = p then { r with firstOut := true } else r) = u.roster :=
      (List.map_congr_left fun r hr => if_neg (absent r hr)).trans (List.map_id' u.roster)
    have marked := perm.map fun r => if r.point = p then { r with firstOut := true } else r
    rw [List.map_cons, kept, if_pos (show (freshRecord p u.nextStamp).point = p from rfl)] at marked
    exact marked

theorem State.admitted_groups (u : State) (p : PointId) (g : GroupId) :
    (u.admitted p).groups[g] =
      if u.slotFor p = some g then { u.groups[g] with slot := some p, armed := false } else u.groups[g] := by
  unfold State.admitted State.decideFirstOut
  rw [show (u.enterRoster p).slotFor p = u.slotFor p from rfl]
  cases u.slotFor p with
  | none => rfl
  | some k =>
    show (u.groups.put k _)[g] = _
    rw [Table.getElem_put]
    rcases eq_or_ne k g with rfl | ne
    · rw [if_pos rfl, if_pos rfl]
      rfl
    · rw [if_neg ne, if_neg fun eq => ne (Option.some.inj eq)]

/-- A point with no record stands in none of the roster's. -/
theorem State.PictureFresh.absent (h : u.PictureFresh) (normal : u.alarmOf p = .normal) : ∀ r ∈ u.roster, r.point ≠ p := by
  rintro r mem rfl
  have alert := (h.alert r.point).mpr ⟨r, mem, rfl⟩
  rw [normal] at alert
  exact nomatch alert

/-- The condition of a point rises at once and the point is admitted. -/
theorem State.PictureFresh.admitted (h : u.PictureFresh) (service : u.inService p = true)
    (idle : (u.filterOf p).qualified = false) (rises : f.qualified = true) (delay : (u.cfg p).onDelay = 0)
    (room : isInternal p = true ∨ u.generalCount < Config.generalPlaces) : ((u.setFilter p f).admitted p).PictureFresh := by
  let v := u.setFilter p f
  have absent : ∀ r ∈ v.roster, r.point ≠ p := h.absent (h.normal p service idle)
  have still := State.Still.admitted v p
  have roster := State.admitted_roster (u := v) absent
  have mem : ∀ r, r ∈ (v.admitted p).roster ↔ r = v.firstRecord p ∨ r ∈ u.roster := fun r => by
    rw [roster.mem_iff, List.mem_cons]
    rfl
  have alarm := v.admitted_alarmOf p
  have count := v.admitted_generalCount p
  have filter : ∀ q, (v.admitted p).filterOf q = if p = q then f else u.filterOf q := fun q => by
    rw [still.filterOf, State.filterOf_setFilter]
  have alarmOwn : (v.admitted p).alarmOf p = .alert := by rw [alarm, Function.update_self]
  have alarmNe : ∀ q, q ≠ p → (v.admitted p).alarmOf q = u.alarmOf q := fun q ne => by
    rw [alarm, Function.update_of_ne ne]
    rfl
  have internal : isGeneral p = false → (v.admitted p).generalCount = u.generalCount := fun none => by
    rw [count, none]
    rfl
  have general : isGeneral p = true →
      (v.admitted p).generalCount = u.generalCount + 1 ∧ u.generalCount < Config.generalPlaces := fun some => by
    refine ⟨by rw [count, some]; rfl, room.resolve_left ?_⟩
    simp only [isGeneral, isInternal, decide_eq_true_eq] at some ⊢
    omega
  constructor
  case normal =>
    intro q on absent
    rw [filter] at absent
    split at absent
    · simp [rises] at absent
    · rename_i ne
      rw [alarmNe q (Ne.symm ne)]
      exact h.normal q (still.inService q ▸ on) absent
  case risen =>
    intro q on present
    rcases eq_or_ne q p with rfl | ne
    · exact .inl alarmOwn
    · rw [filter, if_neg ne.symm] at present
      rw [alarmNe q ne]
      refine (h.risen q (still.inService q ▸ on) present).imp_right fun ⟨state, own, full⟩ => ⟨state, own, ?_⟩
      cases kind : isGeneral p
      · rw [internal kind, full]
      · exact absurd full (general kind).2.ne
  case records =>
    intro r hr
    rw [still.inService, still.cfg]
    rcases (mem r).mp hr with rfl | old
    · exact ⟨service, delay, rfl⟩
    · exact h.records r old
  case alert =>
    intro q
    rcases eq_or_ne q p with rfl | ne
    · exact iff_of_true alarmOwn ⟨_, (mem _).mpr (.inl rfl), rfl⟩
    · rw [alarmNe q ne, h.alert]
      refine ⟨fun ⟨r, hr, own⟩ => ⟨r, (mem r).mpr (.inr hr), own⟩, fun ⟨r, hr, own⟩ => ⟨r, ?_, own⟩⟩
      refine ((mem r).mp hr).resolve_left ?_
      rintro rfl
      exact ne own.symm
  case deferred =>
    intro q
    rw [still.deferred]
    rcases eq_or_ne q p with rfl | ne
    · refine iff_of_false (by rw [alarmOwn]; exact nofun) fun listed => ?_
      have was := (h.deferred q).mpr listed
      rw [h.normal q service idle] at was
      exact nomatch was
    · rw [alarmNe q ne]
      exact h.deferred q
  case count =>
    rw [roster.countP_eq, List.countP_cons, count]
    have own : (v.firstRecord p).point = p := rfl
    rw [own, show v.generalCount = _ from h.count]
    cases isGeneral p <;> rfl
  case places =>
    cases kind : isGeneral p
    · rw [internal kind]
      exact h.places
    · rw [(general kind).1]
      exact (general kind).2
  case groups =>
    intro g
    unfold State.GroupFresh
    rw [v.admitted_groups]
    split
    · rename_i takes
      obtain ⟨member, enabled, -⟩ := State.slotFor_eq_some takes
      refine .inr ⟨v.firstRecord p, (mem _).mpr (.inl rfl), rfl, by simp [State.firstRecord, takes], ?_, enabled, rfl⟩
      rw [still.cfg]
      exact member
    · refine (h.groups g).imp_right ?_
      rintro ⟨r, hr, slot, mark, group, rest⟩
      refine ⟨r, (mem r).mpr (.inr hr), slot, mark, ?_, rest⟩
      rw [still.cfg]
      exact group

theorem State.Begun.admits (h : u.Begun) (service : u.inService p = true) (idle : (u.filterOf p).qualified = false)
    (rises : f.qualified = true) (delay : (u.cfg p).onDelay = 0)
    (room : isInternal p = true ∨ u.generalCount < Config.generalPlaces) : ((u.setFilter p f).admitPoint p).Begun := by
  let v := u.setFilter p f
  have roster := State.admitted_roster (u := v) (h.toPictureFresh.absent (h.normal p service idle))
  have frame : State.PictureFrame u (v.admitted p) :=
    (State.PictureFrame.setFilter u p f).trans (State.Still.admitted v p).toPictureFrame
  have grows : ∀ r ∈ u.roster, r ∈ (v.admitted p).roster := fun r hr => roster.mem_iff.mpr (List.mem_cons_of_mem _ hr)
  have untested : (v.admitted p).testActive = false := by
    rw [State.testActive, frame.panelTest, frame.hostTest]
    exact h.untested
  have player : ∀ c, (v.admitted p).playerOf c = u.playerOf c := fun c => by
    unfold State.admitted State.decideFirstOut
    split <;> rfl
  have raised : ∀ e, (v.admitted p).flag e = (u.flag e || decide (Event.newAlert = e)) := fun e => by
    rw [State.admitted, State.flag_raise]
    unfold State.decideFirstOut
    split <;> rfl
  have serves : ∀ c, (v.admitted p).Serves c := fun c pl playing => by
    obtain ⟨⟨r, hr, own⟩, first, fresh, settled, wants⟩ := (h.sounds c).2 pl (player c ▸ playing)
    exact ⟨⟨r, grows r hr, own⟩, first, fresh, settled, frame.wanted_ne_none h.untested grows wants⟩
  obtain ⟨sounds, flags⟩ := State.compareSince_sounds untested serves v
  have sound := State.SoundFrame.compareSince (v.admitted p) v
  rw [State.admitPoint_eq]
  refine ⟨sound.pictureFresh (h.toPictureFresh.admitted service idle rises delay room), ?_, sounds, ?_, ?_, fun e set => ?_⟩
  · rw [State.testActive, sound.panelTest_eq, sound.hostTest_eq]
    exact untested
  · rw [sound.flags _ rfl, raised, sound.roster_eq]
    refine iff_of_true (by simp) fun none => ?_
    rw [none] at roster
    exact absurd roster.length_eq (by simp)
  · rw [sound.flags _ rfl, raised, sound.deferred_eq, (State.Still.admitted v p).deferred,
      show decide (Event.newAlert = .deferred) = false from rfl, Bool.or_false]
    exact h.waiting
  · rcases flags e set with set | rfl
    · rw [raised, Bool.or_eq_true, decide_eq_true_eq] at set
      rcases set with set | rfl
      · exact h.flags e set
      · decide
    · decide

theorem State.mem_queued (u : State) (p q : PointId) : q ∈ (u.queued p).deferred ↔ q = p ∨ q ∈ u.deferred := by
  have perm : (u.queued p).deferred.Perm (p :: u.deferred) := placed_perm _ _ _
  rw [perm.mem_iff, List.mem_cons]

/-- The condition of a general point rises at once while every general place is taken, and the point is deferred. -/
theorem State.Begun.queues (h : u.Begun) (service : u.inService p = true) (idle : (u.filterOf p).qualified = false)
    (rises : f.qualified = true) (general : isGeneral p = true) (full : Config.generalPlaces ≤ u.generalCount) :
    ((u.setFilter p f).queued p).Begun := by
  let v := u.setFilter p f
  have alarm : (v.queued p).alarmOf = update u.alarmOf p .deferred := v.setAlarm_alarmOf p .deferred
  have filter : ∀ q, (v.queued p).filterOf q = if p = q then f else u.filterOf q := fun q => State.filterOf_setFilter _ _ _ _
  have list : ∀ q, q ∈ (v.queued p).deferred ↔ q = p ∨ q ∈ u.deferred := v.mem_queued p
  have raised : ∀ e, (v.queued p).flag e = (u.flag e || decide (Event.deferred = e)) := fun e => State.flag_raise _ _ e
  have normal := h.normal p service idle
  have noRecord : ¬ ∃ r ∈ u.roster, r.point = p := fun ⟨r, hr, own⟩ => h.toPictureFresh.absent normal r hr own
  refine ⟨⟨fun q on absent => ?_, fun q on present => ?_, h.records, fun q => ?_, fun q => ?_, h.count, h.places, h.groups⟩,
    h.untested, h.sounds, ?_, ?_, fun e set => ?_⟩
  · rw [filter] at absent
    split at absent
    · simp [rises] at absent
    · rename_i ne
      rw [alarm, Function.update_of_ne (Ne.symm ne)]
      exact h.normal q on absent
  · rcases eq_or_ne q p with rfl | ne
    · exact .inr ⟨by rw [alarm, Function.update_self], general, le_antisymm h.places full⟩
    · rw [filter, if_neg ne.symm] at present
      rw [alarm, Function.update_of_ne ne]
      exact h.risen q on present
  · rw [alarm]
    rcases eq_or_ne q p with rfl | ne
    · exact iff_of_false (by simp) noRecord
    · rw [Function.update_of_ne ne]
      exact h.alert q
  · rw [alarm, list]
    rcases eq_or_ne q p with rfl | ne
    · simp
    · rw [Function.update_of_ne ne, h.deferred]
      exact ⟨.inr, fun listed => listed.resolve_left ne⟩
  · rw [raised, show decide (Event.deferred = .newAlert) = false from rfl, Bool.or_false]
    exact h.newAlert
  · rw [raised]
    exact iff_of_true (by simp) (List.ne_nil_of_mem ((list p).mpr (.inl rfl)))
  · rw [raised, Bool.or_eq_true, decide_eq_true_eq] at set
    rcases set with set | rfl
    · exact h.flags e set
    · decide

end Sys2Proof.Machine

namespace Sys2Proof.Machine

set_option Elab.async false

/-! ### Points that take their sources one after another -/

variable {s t u : State} {p q : PointId} {f : Filter} {ovf : State → State}

/-- The qualification to which a stopped point's source brings it. -/
theorem State.sourced_start (filter : s.filterOf p = .start) :
    s.sourced p =
      if s.sourceFrozen p then { Filter.start with frozen := true }
      else Filter.start.taken (s.cfg p) (s.sourceRaw p) := by
  rw [State.sourced, filter]
  rfl

theorem Filter.taken_start_qualified {c : PointConfig} {v : Bool} (h : (Filter.start.taken c v).qualified = true) :
    v = true ∧ c.onDelay = 0 := by
  rw [Filter.taken_start] at h
  split at h
  · split at h
    · exact ⟨‹_›, ‹_›⟩
    · exact nomatch h
  · exact nomatch h

theorem State.sourced_start_qualified (filter : s.filterOf p = .start) (rises : (s.sourced p).qualified = true) :
    (s.cfg p).onDelay = 0 := by
  rw [State.sourced_start filter] at rises
  split at rises
  · exact nomatch rises
  · exact (Filter.taken_start_qualified rises).2

/-- With its condition as the deferred list gives it, point 63 takes nothing. -/
theorem State.OverflowBegun.handOverflow (follows : u.OverflowBegun) : u.handOverflow = u := by
  cases service : u.inService overflowPoint with
  | false => exact State.handOverflow_outService service
  | true =>
    obtain ⟨start, raised⟩ := follows service
    refine if_pos (.inr ?_)
    rcases eq_or_ne u.deferred [] with empty | some
    · rw [start empty, empty]
      rfl
    · rw [raised some]
      simpa using some

/-- The first deferral hands point 63 its condition, which rises from a stopped qualification (R75). -/
theorem State.Begun.handOverflow (h : u.Begun) (start : u.inService overflowPoint = true → u.filterOf overflowPoint = .start)
    (listed : u.deferred ≠ []) : u.handOverflow.Begun ∧ u.handOverflow.OverflowBegun := by
  cases service : u.inService overflowPoint with
  | false =>
    rw [State.handOverflow_outService service]
    exact ⟨h, fun on => absurd on (by simp [service])⟩
  | true =>
    have filter := start service
    have idle : (u.filterOf overflowPoint).qualified = false := by rw [filter]; rfl
    have still := State.handOverflow_still service
    refine ⟨?_, fun _ => ⟨fun empty => absurd (still.deferred.symm.trans empty) listed, fun some => ?_⟩⟩
    · rw [State.handOverflow, State.takeRawWith_start service filter (h.normal _ service idle)]
      split
      · rename_i rises
        rw [State.requestAdmission, if_pos (.inl (by decide))]
        exact h.admits service idle rises (Filter.taken_start_qualified rises).2 (.inl rfl)
      · rename_i absent
        exact h.setFilter (by rw [idle]; exact Bool.eq_false_iff.mpr absent)
    · rw [State.handOverflow_follows service]
      simpa using some

/-- What leaves point 63's qualification and the deferred list leaves point 63 as it was. -/
theorem State.OverflowBegun.congr (follows : u.OverflowBegun) (service : t.inService overflowPoint = u.inService overflowPoint)
    (filter : t.filterOf overflowPoint = u.filterOf overflowPoint) (deferred : t.deferred = u.deferred) : t.OverflowBegun := by
  intro on
  rw [filter, deferred]
  exact follows (service ▸ on)

/-- A general point whose condition rises at once is admitted or deferred, and point 63 has its condition (R67, R70, R75). -/
theorem State.Begun.requests (h : u.Begun) (follows : u.OverflowBegun) (service : u.inService p = true)
    (idle : (u.filterOf p).qualified = false) (rises : f.qualified = true) (delay : (u.cfg p).onDelay = 0)
    (other : p ≠ overflowPoint) :
    ((u.setFilter p f).requestAdmission State.handOverflow p).Begun ∧
      ((u.setFilter p f).requestAdmission State.handOverflow p).OverflowBegun := by
  have filter : (u.setFilter p f).filterOf overflowPoint = u.filterOf overflowPoint := by
    rw [State.filterOf_setFilter, if_neg other]
  rcases State.requestAdmission_cases State.handOverflow (u.setFilter p f) p with ⟨room, eq⟩ | ⟨external, full, eq⟩ <;> rw [eq]
  · have still := State.Still.admitPoint (u.setFilter p f) p
    exact ⟨h.admits service idle rises delay room,
      follows.congr (still.inService _) ((still.filterOf _).trans filter) still.deferred⟩
  · have general : isGeneral p = true := by
      simp only [isGeneral, isInternal, decide_eq_true_eq, decide_eq_false_iff_not] at external ⊢
      omega
    have queued := h.queues service idle rises general full
    have listed : ((u.setFilter p f).queued p).deferred ≠ [] :=
      List.ne_nil_of_mem ((State.mem_queued _ p p).mpr (.inl rfl))
    rw [State.defer_eq]
    split
    · rename_i empty
      refine queued.handOverflow (fun on => ?_) listed
      exact filter.trans ((follows on).1 (List.isEmpty_iff.mp empty))
    · rename_i some
      refine ⟨queued, fun on => ⟨fun empty => absurd empty listed, fun _ => ?_⟩⟩
      exact (congrArg Filter.raw filter).trans ((follows on).2 fun empty => some (List.isEmpty_iff.mpr empty))

/-- A point that takes its source for the first time leaves the picture fresh. -/
theorem State.Begun.takeSource (h : u.Begun) (follows : u.OverflowBegun) (config : u.ConfigLegal) (service : u.inService p = true)
    (untaken : u.Untaken p) : (u.takeSource p).Begun ∧ (u.takeSource p).OverflowBegun := by
  rcases eq_or_ne p overflowPoint with rfl | other
  · have eq : u.takeSource overflowPoint = u.handOverflow := by
      unfold State.takeSource
      rw [config.overflow_source]
      rfl
    rw [eq, follows.handOverflow]
    exact ⟨h, follows⟩
  · obtain ⟨filter, -⟩ := untaken other
    have idle : (u.filterOf p).qualified = false := by rw [filter]; rfl
    rw [State.takeSource_untaken service other untaken]
    split
    · rename_i rises
      exact h.requests follows service idle rises (State.sourced_start_qualified filter rises) other
    · rename_i absent
      refine ⟨h.setFilter (by rw [idle]; exact Bool.eq_false_iff.mpr absent), follows.congr rfl ?_ rfl⟩
      rw [State.filterOf_setFilter, if_neg other]

/-- The picture as RESTART sets it back, with nothing in it yet. -/
theorem State.begun_restarted (s : State) : s.restarted.Begun ∧ s.restarted.OverflowBegun := by
  have idle : ∀ p, (s.restarted.filterOf p).qualified = false := fun p => by rw [s.restarted_filterOf]; rfl
  have out : ∀ p, s.restarted.alarmOf p = .normal ∨ s.restarted.alarmOf p = .outOfService := fun p => by
    obtain ⟨on, off⟩ := s.restarted_alarmOf p
    cases service : s.service[p]
    · exact .inl (on service)
    · exact .inr (off service)
  have player : ∀ c, s.restarted.playerOf c = none := fun c => by cases c <;> rfl
  have flag := s.restarted_flag
  refine ⟨⟨⟨fun p on _ => ?_, fun p _ present => ?_, nofun, fun p => ?_, fun p => ?_, rfl, Nat.zero_le _, fun g => .inl ?_⟩, rfl,
    fun c => ⟨fun _ => ?_, fun pl playing => ?_⟩, ?_, ?_, fun e set => ?_⟩, fun _ => ⟨fun _ => s.restarted_filterOf _, ?_⟩⟩
  · exact (s.restarted_alarmOf p).1 (beq_iff_eq.mp on)
  · rw [idle] at present
    exact nomatch present
  · refine iff_of_false (fun state => ?_) fun ⟨_, mem, _⟩ => nomatch mem
    rcases out p with k | k <;> rw [k] at state <;> exact nomatch state
  · refine iff_of_false (fun state => ?_) nofun
    rcases out p with k | k <;> rw [k] at state <;> exact nomatch state
  · simp [State.restarted, State.restartBlocks]
  · exact (State.wanted_eq_none_iff rfl).mpr (.inr nofun)
  · rw [player] at playing
    exact nomatch playing
  · exact iff_of_false (fun set => nomatch (flag _).mp set) fun some => some rfl
  · exact iff_of_false (fun set => nomatch (flag _).mp set) fun some => some rfl
  · rw [(flag e).mp set]
    decide
  · exact fun some => absurd rfl some

/-- After RESTART everything in the picture comes from a condition that stands now. -/
theorem State.begun_restartAll (config : s.ConfigLegal) : s.restartAll.Begun ∧ s.restartAll.OverflowBegun := by
  have legal : s.restarted.ConfigLegal := (State.Apart.setFreeCount _ _).sameSettings.legal (State.restartBlocks_configLegal config)
  refine (State.restartAll_induct (P := fun u => u.Begun ∧ u.OverflowBegun) s.begun_restarted fun p u service frame untaken h => ?_).2
  exact h.1.takeSource h.2 (frame.sameSettings.legal legal) service untaken

/-- After RESTART an in-service point's qualification is the one its source brings it to (R33). -/
theorem State.restartAll_filterOf (config : s.ConfigLegal) (service : s.inService p = true) (other : p ≠ overflowPoint) :
    s.restartAll.filterOf p =
      if s.restartAll.sourceFrozen p then { Filter.start with frozen := true }
      else Filter.start.taken (s.cfg p) (s.restartAll.sourceRaw p) := by
  obtain ⟨frame, kept⟩ := s.kept_restartAll
  obtain ⟨frozen, raw⟩ := frame.source other (by rw [kept.hostRaw, s.restarted_filterOf]; rfl)
  have taken := State.takeAll_takeSource_sourced (State.restartBlocks_configLegal config) (s.restartBlocks_loose p)
    ((List.nodup_finRange 64).filter _) (State.mem_pointsInService.mpr service) service other
  rw [frozen, raw]
  exact taken.trans (State.sourced_start (s.restartBlocks_filterOf p))

/-- The cells of R31's table for a point that has started from its source, and the alarm state that goes with each. -/
theorem State.PictureFresh.cells (h : u.PictureFresh) (service : u.inService p = true) {c : PointConfig}
    (filter : u.filterOf p = if u.sourceFrozen p then { Filter.start with frozen := true }
      else Filter.start.taken c (u.sourceRaw p)) :
    (u.sourceFrozen p = true → u.filterOf p = { Filter.start with frozen := true } ∧ u.alarmOf p = .normal) ∧
    (u.sourceFrozen p = false → u.sourceRaw p = false → u.filterOf p = .start ∧ u.alarmOf p = .normal) ∧
    (u.sourceFrozen p = false → u.sourceRaw p = true → c.onDelay ≠ 0 →
      u.filterOf p = { Filter.start with raw := true, onTimer := some (c.onDelay.toNat * Config.delayUnit) } ∧
        u.alarmOf p = .normal) ∧
    (u.sourceFrozen p = false → u.sourceRaw p = true → c.onDelay = 0 →
      u.filterOf p = { Filter.start with raw := true, qualified := true } ∧
        (u.alarmOf p = .alert ∨ u.alarmOf p = .deferred ∧ isGeneral p = true ∧ u.generalCount = Config.generalPlaces)) := by
  have silent : ∀ {f : Filter}, u.filterOf p = f → f.qualified = false → u.filterOf p = f ∧ u.alarmOf p = .normal :=
    fun eq absent => ⟨eq, h.normal p service (eq ▸ absent)⟩
  have taken : ∀ {v}, u.sourceFrozen p = false → u.sourceRaw p = v → u.filterOf p = Filter.start.taken c v := by
    rintro v free rfl
    rw [filter, free]
    rfl
  refine ⟨fun held => silent (filter.trans (if_pos held)) rfl, fun free absent => silent (taken free absent) rfl,
    fun free present delay => silent ((taken free present).trans (if_neg delay)) rfl, fun free present delay => ?_⟩
  have eq : u.filterOf p = { Filter.start with raw := true, qualified := true } :=
    (taken free present).trans (if_pos delay)
  exact ⟨eq, h.risen p service (by rw [eq])⟩

/-! ### The obligation -/

/-- Settles O5: every point takes its source once from the empty picture, so that the points only come in. -/
theorem restartKeepsConfiguration : Obligations.RestartKeepsConfiguration := by
  refine ⟨fun s => ?_, fun s t config run => ?_⟩
  · obtain ⟨frame, kept⟩ := s.kept_restartAll
    have answers : exec .restart s = .next (s.restartAll.answered .restart (.okWith [])) := exec_answers rfl rfl
    refine ⟨_, answers, rfl, congrArg (fun l : Link => l.takeUp .restart (some (.okWith []))) frame.link,
      ⟨frame.config, frame.service, frame.classInterval, frame.lines, frame.thresholds, frame.faulted, frame.keys,
        frame.keyEnables, frame.flashPhase, frame.cues, frame.tones, frame.mask⟩, kept.enables, fun c => ⟨?_, ?_, ?_⟩,
      ⟨frame.shelves, frame.panelTest, frame.hostTest, frame.edit⟩, kept.hostRaw, fun p out => ?_,
      (kept.flags _ rfl).mpr rfl, ?_, ?_⟩
    · exact (frame.enabled c).trans (by cases c <;> rfl)
    · exact (frame.policy c).trans (by cases c <;> rfl)
    · exact (congrArg (fun v => v.get c) frame.testSounded).trans (show s.restarted.testSounded.get c = false by cases c <;> rfl)
    · refine (kept.outside p ((frame.inService p).trans ?_)).1
      exact beq_eq_false_iff_ne.mpr (by rw [show s.restarted.service[p] = _ from out]; exact nofun)
    · exact Bool.eq_false_iff.mpr fun set => nomatch (kept.flags .shelveExpired rfl).mp set
    · exact Bool.eq_false_iff.mpr fun set => nomatch (kept.flags .editEnded rfl).mp set
  · obtain rfl : s.restartAll.answered .restart (.okWith []) = t :=
      Host.Outcome.next.inj ((exec_answers rfl rfl : exec .restart s = _).symm.trans run)
    obtain ⟨frame, kept⟩ := s.kept_restartAll
    obtain ⟨begun, overflow⟩ := State.begun_restartAll config
    have on : ∀ p : PointId, s.service[p] = .inService → s.restartAll.inService p = true := fun p service =>
      (frame.inService p).trans (beq_iff_eq.mpr service)
    have off : ∀ p : PointId, s.service[p] = .outService → s.restartAll.inService p = false := fun p out =>
      (frame.inService p).trans (beq_eq_false_iff_ne.mpr (by rw [show s.restarted.service[p] = _ from out]; exact nofun))
    have filter : ∀ p : PointId, s.service[p] = .inService → p ≠ overflowPoint → _ := fun p service other =>
      State.restartAll_filterOf config (p := p) (beq_iff_eq.mpr service) other
    have enables := kept.enables
    have cfg : ∀ p, s.restartAll.cfg p = s.cfg p := frame.cfg
    have services : s.restartAll.service = s.service := frame.service
    generalize s.restartAll = u at *
    intro start
    refine ⟨fun p out => (kept.outside p (off p out)).2, fun p service other => ?_, fun service => ?_, fun r hr => ?_,
      fun p => ⟨begun.alert p, begun.deferred p⟩, begun.count, fun g => ?_, fun c => ?_, begun.newAlert, begun.waiting,
      begun.flags⟩
    · have gives := filter p service other
      exact begun.cells (on p service) gives
    · obtain ⟨empty, some⟩ := overflow (on _ service)
      refine ⟨fun none => ⟨empty none, begun.normal _ (on _ service) ?_⟩, some⟩
      rw [empty none]
      rfl
    · obtain ⟨on, delay, record⟩ := begun.records r hr
      refine ⟨?_, cfg r.point ▸ delay, record⟩
      rw [← services]
      exact beq_iff_eq.mp on
    · refine (begun.groups g).imp_right ?_
      rintro ⟨r, hr, slot, mark, group, enabled, disarmed⟩
      exact ⟨r, hr, slot, mark, cfg r.point ▸ group, enables g ▸ enabled, disarmed⟩
    · obtain ⟨idle, serves⟩ := begun.sounds c
      refine ⟨idle, fun pl playing => ?_⟩
      obtain ⟨owner, first, fresh, settled, -⟩ := serves pl playing
      exact ⟨owner, first, fresh, settled⟩

end Sys2Proof.Machine

namespace Sys2Proof.Machine

set_option Elab.async false

/-! ## The step, ends of shelves and acknowledgements (R38, R48, R49, R55) -/

variable {s t u : State} {p q : PointId}

/-- Settles O1: a queue that is not empty hands over its front. -/
theorem stepTakesFrontCommand : Obligations.StepTakesFrontCommand := fun _ _ _ => rfl

/-! ### The end of a shelve (R55, R98, R99) -/

/-- The shelve list without a point's entry, with the model's test of two point numbers. -/
theorem State.withoutShelve_eq (s : State) (p : PointId) : s.withoutShelve p = s.shelves.filter fun e => e.point ≠ p :=
  List.filter_congr fun e _ => by simp [bne, beq_eq_decide]

/-- What the end of a shelve leaves: the point in NORMAL, or where a standing condition that is no pulse takes it (R55). -/
theorem State.unshelvePoint_eq (s : State) (p : PointId) :
    s.unshelvePoint p =
      let cleared := ({ s with shelves := s.shelves.filter fun e => e.point ≠ p } : State).setAlarm p .normal
      if (s.cfg p).kind ≠ .pulse ∧ (s.filterOf p).qualified = true then cleared.rise p else cleared := by
  rw [State.unshelvePoint, s.withoutShelve_eq]
  rfl

theorem State.expireShelve_held (held : ∃ e ∈ s.shelves, e.point = p) :
    s.expireShelve p = (s.unshelvePoint p).raise .shelveExpired :=
  if_pos (by simpa using held)

theorem State.expireShelve_absent (absent : ∀ e ∈ s.shelves, e.point ≠ p) : s.expireShelve p = s :=
  if_neg (by simpa using absent)

/-- Settles O34: a point leaves the shelve list and goes on from NORMAL, and only the expiry sets SHELVE_EXPIRED. -/
theorem shelveEnds : Obligations.ShelveEnds := by
  refine ⟨fun b s range => exec_answers rfl ?_, fun p s free => exec_answers rfl ?_, fun p s => ?_⟩
  · show ownUnshelve b s = _
    rw [ownUnshelve, pointOf_none range]
    rfl
  · show ownUnshelve (byteOf p.val) s = _
    rw [ownUnshelve, pointOf_byteOf]
    exact if_neg free
  · intro cleared ended
    have ends : s.unshelvePoint p = ended := s.unshelvePoint_eq p
    refine ⟨fun shelved => exec_answers rfl ?_, fun held => ?_, fun absent => ?_⟩
    · show ownUnshelve (byteOf p.val) s = _
      rw [ownUnshelve, pointOf_byteOf, ← ends]
      exact if_pos shelved
    · exact congrArg Host.Outcome.next ((State.expireShelve_held held).trans (by rw [ends]))
    · exact congrArg Host.Outcome.next (State.expireShelve_absent absent)

/-! ### Records that keep standing -/

/-- A write of a point's state and record changes the state of that point alone. -/
theorem State.moveRecord_alarmOf (s : State) (p q : PointId) (st : RecordState) (f : RosterRecord → RosterRecord) :
    (s.moveRecord p st f).alarmOf q = if q = p then st.toAlarm else s.alarmOf q := by
  show (s.setAlarm p st.toAlarm).alarmOf q = _
  rw [State.alarmOf_setAlarm]
  simp only [eq_comm]

theorem State.moveRecord_roster (s : State) (p : PointId) (st : RecordState) (f : RosterRecord → RosterRecord) :
    (s.moveRecord p st f).roster = s.roster.map fun r => if r.point = p then { f r with state := st } else r := rfl

/-- A sound frame leaves every alarm state as it was. -/
theorem State.SoundFrame.alarmOf (h : State.SoundFrame s t) (p : PointId) : t.alarmOf p = s.alarmOf p := by
  rw [State.alarmOf, h.alarm_eq, State.alarmOf]

/-! ### An acknowledgement (R48) -/

/-- What an acknowledgement that keeps the record leaves: the point and its record in the new state, with the source written
and the silence ended (R48). -/
structure State.KeepsAcknowledged (s t : State) (p : PointId) (src : AckSource) (st : RecordState) : Prop where
  alarm : ∀ q : PointId, t.alarmOf q = if q = p then st.toAlarm else s.alarmOf q
  roster : t.roster = s.roster.map fun r =>
    if r.point = p then { r with state := st, ackSource := some src, silenced := false, reannounce := none } else r
  stampCounter : t.stampCounter = s.stampCounter
  groups : t.groups = s.groups
  deferred : t.deferred = s.deferred
  filter : t.filter = s.filter
  frame : State.PictureFrame s t

theorem State.keepsAcknowledged (s : State) (p : PointId) (src : AckSource) (st : RecordState) :
    State.KeepsAcknowledged s ((s.moveRecord p st (RosterRecord.acknowledge src)).compareSince s) p src st := by
  have sound := State.SoundFrame.compareSince (s.moveRecord p st (RosterRecord.acknowledge src)) s
  exact ⟨fun q => (sound.alarmOf q).trans (s.moveRecord_alarmOf p q st _), sound.roster_eq, sound.stampCounter_eq,
    sound.groups_eq, sound.deferred_eq, sound.filter_eq, (State.PictureFrame.moveRecord s p st _).trans sound.picture⟩

section Rows

variable {ovf : State → State} {src : AckSource}

theorem State.acknowledgeWith_alert (kind : (s.cfg p).kind ≠ .pulse) (alarm : s.alarmOf p = .alert) :
    s.acknowledgeWith ovf src p = (s.moveRecord p .acked (RosterRecord.acknowledge src)).compareSince s := by
  unfold State.acknowledgeWith
  rw [alarm]
  cases hk : (s.cfg p).kind with
  | auto | manual => rfl
  | pulse => exact absurd hk kind

theorem State.acknowledgeWith_returned_manual (kind : (s.cfg p).kind = .manual) (alarm : s.alarmOf p = .returned) :
    s.acknowledgeWith ovf src p = (s.moveRecord p .awaitReset (RosterRecord.acknowledge src)).compareSince s := by
  simp only [State.acknowledgeWith, alarm, kind]

theorem State.acknowledgeWith_returned_auto (kind : (s.cfg p).kind = .auto) (alarm : s.alarmOf p = .returned) :
    s.acknowledgeWith ovf src p = s.retire ovf p .normal := by
  simp only [State.acknowledgeWith, alarm, kind]

theorem State.acknowledgeWith_alert_pulse (kind : (s.cfg p).kind = .pulse) (alarm : s.alarmOf p = .alert) :
    s.acknowledgeWith ovf src p = s.retire ovf p .normal := by
  simp only [State.acknowledgeWith, alarm, kind]

theorem State.acknowledgeWith_other (alert : s.alarmOf p ≠ .alert)
    (returned : s.alarmOf p ≠ .returned ∨ (s.cfg p).kind = .pulse) : s.acknowledgeWith ovf src p = s := by
  rcases s.acknowledgeWith_cases ovf src p with
    ⟨-, alarm, -⟩ | ⟨kind, alarm, -⟩ | ⟨kind, alarm, -⟩ | ⟨-, alarm, -⟩ | eq
  · exact absurd alarm alert
  · exact returned.elim (absurd alarm) fun pulse => nomatch kind.symm.trans pulse
  · exact returned.elim (absurd alarm) fun pulse => nomatch kind.symm.trans pulse
  · exact absurd alarm alert
  · exact eq

end Rows

/-- Settles O24, cell by cell of R48's table. -/
theorem acknowledgementByKind : Obligations.AcknowledgementByKind := by
  intro p src s t kept
  have keeps : ∀ st, t = (s.moveRecord p st (RosterRecord.acknowledge src)).compareSince s → kept st := by
    intro st eq
    obtain ⟨alarm, roster, stamp, groups, deferred, filter, frame⟩ := s.keepsAcknowledged p src st
    rw [← eq] at alarm roster stamp groups deferred filter frame
    exact ⟨alarm, roster, stamp, groups, deferred, filter, frame⟩
  exact ⟨fun kind alarm => keeps .acked (State.acknowledgeWith_alert kind alarm),
    fun kind alarm => keeps .awaitReset (State.acknowledgeWith_returned_manual kind alarm),
    State.acknowledgeWith_returned_auto, State.acknowledgeWith_alert_pulse, State.acknowledgeWith_other⟩

end Sys2Proof.Machine

namespace Sys2Proof.Machine

set_option Elab.async false

/-! ### ACK (R49) -/

variable {s t u : State} {p q : PointId}

theorem expectedOf_none {e : Byte} (h : e ≠ 0 ∧ e ≠ 3 ∧ e ≠ 5) : expectedOf e = none := by
  obtain ⟨any, alert, returned⟩ := h
  rw [expectedOf, if_neg any, if_neg alert, if_neg returned]

/-- The three codes that name an expectation, and what each expects of a record's state (R49, R184). -/
theorem expectedOf_some {e : Byte} (h : e = 0 ∨ e = 3 ∨ e = 5) :
    ∃ x, expectedOf e = some x ∧ (x = .any ↔ e = 0) ∧
      ∀ st, x.recordState.any (· != st) = true ↔ e = 3 ∧ st ≠ .alert ∨ e = 5 ∧ st ≠ .returned := by
  obtain rfl | rfl | rfl := h
  · exact ⟨.any, rfl, by decide, fun st => by simp [Expected.recordState]⟩
  · exact ⟨.alert, rfl, by decide, fun st => by cases st <;> decide⟩
  · exact ⟨.returned, rfl, by decide, fun st => by cases st <;> decide⟩

theorem ownAck_range {b e : Byte} (h : 63 < b.toNat ∨ e ≠ 0 ∧ e ≠ 3 ∧ e ≠ 5) (st : Stamp) :
    ownAck b e st s = (s, some (.refusal .range)) := by
  unfold ownAck
  rcases h with point | expected
  · rw [pointOf_none point]
    rfl
  · rw [expectedOf_none expected]
    cases pointOf b <;> rfl

/-- ACK for a point without a record: STALE when guarded, else refused (R49). -/
theorem ownAck_absent {e : Byte} {x : Expected} (expected : expectedOf e = some x) (none : s.recordOf p = none) (st : Stamp) :
    ownAck (byteOf p.val) e st s =
      if ackGuarded x st then (s, some ⟨.stale, [0, 0, 0, 0, (s.alarmOf p).code]⟩) else (s, some (.refusal .state)) := by
  simp only [ownAck, pointOf_byteOf, expected, none, State.ackStale, State.stampOf]
  rfl

/-- ACK for a point with a record: STALE on a mismatch, then acknowledged when it is unacknowledged, else refused (R49). -/
theorem ownAck_standing {e : Byte} {x : Expected} {r : RosterRecord} (expected : expectedOf e = some x)
    (record : s.recordOf p = some r) (st : Stamp) :
    ownAck (byteOf p.val) e st s =
      if ackMismatch x st r then (s, some ⟨.stale, stampBytes r.stamp ++ [(s.alarmOf p).code]⟩)
      else if r.unacked then
        (s.acknowledge .host p, some (.okWith (stampBytes r.stamp ++ [((s.acknowledge .host p).alarmOf p).code])))
      else (s, some (.refusal .state)) := by
  simp only [ownAck, pointOf_byteOf, expected, record, State.ackStale, State.stampOf]
  rfl

theorem ackGuarded_iff {e : Byte} {x : Expected} (any : x = .any ↔ e = 0) (st : Stamp) :
    ackGuarded x st = true ↔ e ≠ 0 ∨ st ≠ 0 := by
  rw [ackGuarded, Bool.or_eq_true, bne_iff_ne, bne_iff_ne, Ne, any]

theorem ackMismatch_iff {e : Byte} {x : Expected} {r : RosterRecord}
    (states : ∀ st, x.recordState.any (· != st) = true ↔ e = 3 ∧ st ≠ .alert ∨ e = 5 ∧ st ≠ .returned) (st : Stamp) :
    ackMismatch x st r = true ↔
      st ≠ 0 ∧ st ≠ r.stamp ∨ e = 3 ∧ r.state ≠ .alert ∨ e = 5 ∧ r.state ≠ .returned := by
  rw [ackMismatch, Bool.or_eq_true, Bool.and_eq_true, bne_iff_ne, bne_iff_ne, states]

theorem RosterRecord.unacked_iff (r : RosterRecord) : r.unacked = true ↔ r.state = .alert ∨ r.state = .returned := by
  simp [RosterRecord.unacked]

/-- Settles O23: R49's checks in their order, each of them read off the two cases of the owner. -/
theorem ackChecksInOrder : Obligations.AckChecksInOrder := by
  intro e st s
  refine ⟨fun b range => exec_answers rfl (ownAck_range range st), fun codes p => ?_⟩
  obtain ⟨x, expected, any, states⟩ := expectedOf_some codes
  have guarded := ackGuarded_iff any st
  refine ⟨fun none zero unstamped => exec_answers rfl ?_, fun none guard => exec_answers rfl ?_, fun r record => ?_⟩
  · refine (ownAck_absent expected none st).trans (if_neg ?_)
    rw [guarded]
    simp [zero, unstamped]
  · exact (ownAck_absent expected none st).trans (if_pos (guarded.mpr guard))
  · have mismatch := ackMismatch_iff (r := r) states st
    have owner := ownAck_standing expected record st
    have matching : ∀ stamped : st = 0 ∨ st = r.stamp, (e = 3 → r.state = .alert) → (e = 5 → r.state = .returned) →
        ackMismatch x st r = false := fun stamped alert returned => Bool.eq_false_iff.mpr fun k => by
      rcases mismatch.mp k with ⟨some, other⟩ | ⟨code, other⟩ | ⟨code, other⟩
      · exact stamped.elim some other
      · exact other (alert code)
      · exact other (returned code)
    refine ⟨fun differs => exec_answers rfl (owner.trans (if_pos (mismatch.mpr differs))),
      fun stamped zero acked => exec_answers rfl ?_, fun stamped passes => exec_answers rfl ?_⟩
    · have unguarded := matching stamped (fun code => by simp [zero] at code) fun code => by simp [zero] at code
      have known : ¬ r.unacked = true := by
        rw [r.unacked_iff]
        rcases acked with eq | eq <;> simp [eq]
      exact (owner.trans (if_neg (Bool.eq_false_iff.mp unguarded))).trans (if_neg known)
    · have agrees := matching stamped (by rintro rfl; simpa using passes) (by rintro rfl; simpa using passes)
      have standing : r.unacked = true := r.unacked_iff.mpr <| by
        rcases passes with ⟨-, state⟩ | ⟨-, state⟩ | ⟨-, state⟩ | ⟨-, state⟩ <;> simp [state]
      exact (owner.trans (if_neg (Bool.eq_false_iff.mp agrees))).trans (if_pos standing)

end Sys2Proof.Machine

namespace Sys2Proof.Machine

set_option Elab.async false

/-! ## Rises from NORMAL (R39, R67 to R70, R75, R86) -/

open Function (update)

variable {s t u : State} {p q : PointId}

/-! ### Places in the lists kept in order (R63, R70, R95) -/

/-- The place of a new entry: what stands before it comes no later, and what follows comes after. -/
theorem placed_split {α β : Type} [LinearOrder β] (key : α → β) (k : β) (l : List α) :
    l = l.takeWhile (fun x => key x ≤ k) ++ l.dropWhile (fun x => key x ≤ k) ∧
      (∀ x ∈ l.takeWhile (fun x => key x ≤ k), key x ≤ k) ∧ ∀ x ∈ (l.dropWhile fun x => key x ≤ k).head?, k < key x := by
  refine ⟨List.takeWhile_append_dropWhile.symm, fun x hx => by simpa using List.mem_takeWhile_imp hx, fun x hx => ?_⟩
  have after := List.head?_dropWhile_not (fun x => decide (key x ≤ k)) l
  rw [Option.mem_def.mp hx] at after
  simpa using after

theorem isGeneral_eq (p : PointId) : isGeneral p = !isInternal p := by
  rw [isGeneral, isInternal, ← decide_not]
  exact decide_eq_decide.mpr Nat.not_le.symm

/-! ### Admission (R68, R86) -/

theorem State.slotFor_eq_some_iff (s : State) (p : PointId) (g : GroupId) :
    s.slotFor p = some g ↔ (s.cfg p).group = some g ∧ (s.groups[g]).firstOutEnabled = true ∧
      (s.groups[g]).armed = true ∧ (s.groups[g]).slot = none := by
  unfold State.slotFor
  cases (s.cfg p).group with
  | none => simp
  | some k =>
    dsimp only
    constructor
    · intro h
      split at h
      · obtain rfl := Option.some.inj h
        exact ⟨rfl, ‹_›⟩
      · exact nomatch h
    · rintro ⟨group, takes⟩
      obtain rfl := Option.some.inj group
      exact if_pos takes

/-- The record that comes in stands after the records of its class and before those of the next (R63). -/
theorem State.admitted_roster_eq (absent : ∀ r ∈ s.roster, r.point ≠ p) :
    (s.admitted p).roster = s.roster.takeWhile (fun x => s.classOf x ≤ (s.cfg p).priority) ++
      s.firstRecord p :: s.roster.dropWhile fun x => s.classOf x ≤ (s.cfg p).priority := by
  have entered : (s.enterRoster p).roster = s.roster.takeWhile (fun x => s.classOf x ≤ (s.cfg p).priority) ++
      freshRecord p s.nextStamp :: s.roster.dropWhile fun x => s.classOf x ≤ (s.cfg p).priority := rfl
  unfold State.admitted State.decideFirstOut State.firstRecord
  rw [show (s.enterRoster p).slotFor p = s.slotFor p from rfl]
  cases s.slotFor p with
  | none => exact entered
  | some g =>
    have kept : ∀ l ⊆ s.roster, l.map (fun r => if r.point = p then { r with firstOut := true } else r) = l := fun l sub =>
      (List.map_congr_left fun r hr => if_neg (absent r (sub hr))).trans (List.map_id' l)
    show (s.enterRoster p).roster.map (fun r => if r.point = p then { r with firstOut := true } else r) = _
    rw [entered, List.map_append, List.map_cons, kept _ (List.takeWhile_sublist _).subset,
      kept _ (List.dropWhile_sublist _).subset, if_pos (show (freshRecord p s.nextStamp).point = p from rfl)]
    rfl

theorem State.admitted_stampCounter (s : State) (p : PointId) : (s.admitted p).stampCounter = s.nextStamp.next := by
  unfold State.admitted State.decideFirstOut
  split <;> rfl

theorem State.admitted_flag (s : State) (p : PointId) (e : Event) :
    (s.admitted p).flag e = (s.flag e || decide (.newAlert = e)) := by
  rw [State.admitted, State.flag_raise]
  unfold State.decideFirstOut
  split <;> rfl

theorem Event.ofChannels_iff (e : Event) :
    e.ofChannels = true ↔ e = .cueFallback ∨ e = .channelAIdle ∨ e = .channelBIdle := by cases e <;> decide

/-- Settles O17: the rise admits the point, and the channels' comparison writes nothing that the statement names. -/
theorem riseAdmitsPoint : Obligations.RiseAdmitsPoint := by
  intro p s normal room none
  have absent := State.recordOf_eq_none.mp none
  have admits : s.rise p = (s.admitted p).compareSince s := by
    rw [State.rise, State.riseWith, normal]
    exact if_pos room
  have sound : State.SoundFrame (s.admitted p) (s.rise p) := admits ▸ State.SoundFrame.compareSince _ s
  have still := State.Still.admitted s p
  obtain ⟨split, before, after⟩ := placed_split s.classOf (s.cfg p).priority s.roster
  refine ⟨fun q => ?_, ⟨_, _, split, sound.roster_eq.trans (State.admitted_roster_eq absent), before, after⟩,
    s.slotFor_eq_some_iff p, fun g => ?_, sound.stampCounter_eq.trans (s.admitted_stampCounter p),
    sound.generalCount_eq.trans (s.admitted_generalCount p), sound.deferred_eq.trans still.deferred,
    sound.filter_eq.trans still.filter, ?_, fun e other => ?_, .rise s p⟩
  · rw [sound.alarmOf, s.admitted_alarmOf, Function.update_apply]
  · rw [sound.groups_eq, s.admitted_groups]
  · rw [sound.flags _ rfl, s.admitted_flag]
    simp
  · have channel : e.ofChannels = false := Bool.eq_false_iff.mpr fun own => other <| by
      rcases e.ofChannels_iff.mp own with rfl | rfl | rfl <;> decide
    have fresh : Event.newAlert ≠ e := by
      rintro rfl
      exact other List.mem_cons_self
    rw [sound.flags e channel, s.admitted_flag, decide_eq_false fresh, Bool.or_false]

/-! ### The hand-over to point 63 (R75) -/

/-- The general count and the stamp counter are the same, and the flags that no tone channel sets stay set (R61, R66, R188). -/
structure State.Steady (s t : State) : Prop where
  generalCount : t.generalCount = s.generalCount
  stampCounter : t.stampCounter = s.stampCounter
  flags : ∀ e : Event, e.ofChannels = false → s.flag e = true → t.flag e = true

theorem State.Steady.trans (h : State.Steady s t) (k : State.Steady t u) : State.Steady s u :=
  ⟨k.generalCount.trans h.generalCount, k.stampCounter.trans h.stampCounter, fun e own set => k.flags e own (h.flags e own set)⟩

theorem State.Steady.of_eq (count : t.generalCount = s.generalCount) (counter : t.stampCounter = s.stampCounter)
    (events : t.events = s.events) : State.Steady s t :=
  ⟨count, counter, fun e _ set => by rwa [State.flag, events]⟩

theorem State.Steady.refl (s : State) : State.Steady s s := .of_eq rfl rfl rfl

theorem State.Steady.raise (s : State) (e : Event) : State.Steady s (s.raise e) :=
  ⟨rfl, rfl, fun f _ set => by rw [State.flag_raise, set, Bool.true_or]⟩

theorem State.Steady.setFilter (s : State) (p : PointId) (f : Filter) : State.Steady s (s.setFilter p f) := .of_eq rfl rfl rfl

theorem State.Steady.moveRecord (s : State) (p : PointId) (st : RecordState) (f : RosterRecord → RosterRecord) :
    State.Steady s (s.moveRecord p st f) := .of_eq rfl rfl rfl

theorem State.SoundFrame.steady (h : State.SoundFrame s t) : State.Steady s t :=
  ⟨h.generalCount_eq, h.stampCounter_eq, fun e own set => (h.flags e own).trans set⟩

theorem State.Steady.releaseSlot (s : State) (p : PointId) (v : Bool) : State.Steady s (s.releaseSlot p v) := by
  unfold State.releaseSlot State.emptySlot
  split
  · split
    · split <;> exact .of_eq rfl rfl rfl
    · exact .refl s
  · exact .refl s

/-- A retirement counts for a general point only. -/
theorem State.Steady.retired (internal : isGeneral p = false) (a : AlarmState) (v : Bool) :
    State.Steady s ((s.retired p a v).compareSince s) := by
  have left : State.Steady s (s.leaveRoster p a) := .of_eq (if_neg (Bool.eq_false_iff.mp internal)) rfl rfl
  have armed : State.Steady s (s.retired p a v) := (left.trans (.releaseSlot _ p v)).trans (.of_eq rfl rfl rfl)
  exact armed.trans (State.SoundFrame.compareSince _ s).steady

theorem State.Steady.fallWith_internal (internal : isGeneral p = false) : State.Steady s (s.fallWith id p) := by
  rcases s.fallWith_cases id p with ⟨-, -, eq⟩ | ⟨-, -, eq⟩ | ⟨-, -, eq⟩ | ⟨-, -, eq⟩ | eq <;> rw [eq]
  · exact (((State.Steady.moveRecord s p _ _).trans (State.SoundFrame.renewRecord _ p).steady).trans (.raise _ _)).trans
      (State.SoundFrame.compareSince _ s).steady
  · rcases s.retire_cases id p .normal with eq | ⟨v, eq | ⟨general, -⟩⟩
    · exact eq ▸ .of_eq rfl rfl rfl
    · exact eq ▸ .retired internal .normal v
    · exact nomatch internal.symm.trans general
  · exact .moveRecord s p _ _
  · unfold State.leaveDeferred handIfEmptied
    dsimp only
    split <;> exact .of_eq rfl rfl rfl
  · exact .refl s

/-- A rise of an internal point takes a stamp at most. -/
theorem State.riseWith_internal (internal : isGeneral p = false) :
    (s.riseWith id p).generalCount = s.generalCount ∧
      ∀ e : Event, e.ofChannels = false → s.flag e = true → (s.riseWith id p).flag e = true := by
  rcases s.riseWith_cases id p with ⟨-, eq⟩ | ⟨-, eq⟩ | eq <;> rw [eq]
  · rcases s.requestAdmission_cases id p with ⟨-, eq⟩ | ⟨general, -⟩
    · rw [eq, s.admitPoint_eq]
      have sound := State.SoundFrame.compareSince (s.admitted p) s
      refine ⟨?_, fun e own set => ?_⟩
      · rw [sound.generalCount_eq, s.admitted_generalCount, if_neg (Bool.eq_false_iff.mp internal)]
      · rw [sound.flags e own, s.admitted_flag, set, Bool.true_or]
    · rw [isGeneral_eq, general] at internal
      exact nomatch internal
  · have recurs : State.Steady s (s.recurrence p) :=
      ((State.Steady.moveRecord s p _ _).trans (State.SoundFrame.renewRecord _ p).steady).trans
        (State.SoundFrame.compareSince _ s).steady
    exact ⟨recurs.generalCount, recurs.flags⟩
  · exact ⟨rfl, fun _ _ set => set⟩

/-- The hand-over of an empty list's condition: nothing, a timer, or a fall (R31, R75). -/
theorem State.handOverflow_emptied_cases (empty : s.deferred = []) :
    s.handOverflow = s ∨ ∃ f, s.handOverflow = s.setFilter overflowPoint f ∨
      s.handOverflow = (s.setFilter overflowPoint f).fallWith id overflowPoint := by
  rcases s.takeRawWith_cases id overflowPoint (!s.deferred.isEmpty) with
    ⟨-, eq⟩ | ⟨-, f, -, -, -, ⟨-, eq⟩ | ⟨present, -⟩ | ⟨-, -, -, eq⟩⟩
  · exact .inl eq
  · exact .inr ⟨f, .inl eq⟩
  · simp [empty] at present
  · exact .inr ⟨f, .inr eq⟩

/-- What point 63 takes when the list has emptied moves no general place, takes no stamp and clears no flag. -/
theorem State.Steady.handOverflow (empty : s.deferred = []) : State.Steady s s.handOverflow := by
  rcases State.handOverflow_emptied_cases empty with eq | ⟨f, eq | eq⟩ <;> rw [eq]
  · exact .refl s
  · exact .setFilter s _ f
  · exact (State.Steady.setFilter s _ f).trans (.fallWith_internal (by decide))

/-- What point 63 takes moves no general place and clears no flag. -/
theorem State.handOverflow_keeps (s : State) :
    s.handOverflow.generalCount = s.generalCount ∧
      ∀ e : Event, e.ofChannels = false → s.flag e = true → s.handOverflow.flag e = true := by
  cases list : s.deferred with
  | nil =>
    have steady := State.Steady.handOverflow list
    exact ⟨steady.generalCount, steady.flags⟩
  | cons q rest =>
    rcases s.takeRawWith_cases id overflowPoint (!s.deferred.isEmpty) with
      ⟨-, eq⟩ | ⟨-, f, -, -, -, ⟨-, eq⟩ | ⟨-, -, -, eq⟩ | ⟨absent, -⟩⟩
    · exact (show s.handOverflow = s from eq).symm ▸ ⟨rfl, fun _ _ set => set⟩
    · exact (show s.handOverflow = _ from eq).symm ▸ ⟨rfl, fun _ _ set => set⟩
    · exact (show s.handOverflow = _ from eq).symm ▸ State.riseWith_internal (s := s.setFilter overflowPoint f) (by decide)
    · simp [list] at absent

theorem State.handOverflow_deferred (s : State) : s.handOverflow.deferred = s.deferred := by
  cases service : s.inService overflowPoint with
  | false => rw [State.handOverflow_outService service]
  | true => exact (State.handOverflow_still service).deferred

/-! ### Deferral (R70, R75) -/

/-- A deferral ends with the hand-over to point 63 when it finds the list empty, and touches nothing else after the entry. -/
theorem State.defer_cases (s : State) (p : PointId) :
    (s.deferred = [] ∧ s.defer State.handOverflow p = (s.queued p).handOverflow) ∨
      (s.deferred ≠ [] ∧ s.defer State.handOverflow p = s.queued p) := by
  rw [State.defer_eq]
  cases list : s.deferred with
  | nil => exact .inl ⟨rfl, rfl⟩
  | cons q rest => exact .inr ⟨List.cons_ne_nil q rest, rfl⟩

/-- Settles O18: the rise enters the point in the list, and the hand-over to point 63 that may follow reaches no other. -/
theorem riseDefersPoint : Obligations.RiseDefersPoint := by
  intro p s normal general full
  have other : p ≠ overflowPoint := by
    rintro rfl
    exact absurd general (by decide)
  have defers : s.rise p = s.defer State.handOverflow p := by
    have crowded : ¬ (isInternal p = true ∨ s.generalCount < Config.generalPlaces) := by
      rw [isGeneral_eq, Bool.not_eq_true'] at general
      rw [general]
      exact not_or.mpr ⟨Bool.false_ne_true, Nat.not_lt.mpr full⟩
    rw [State.rise, State.riseWith, normal]
    exact if_neg crowded
  have touches : State.Touches (· = overflowPoint) (s.setAlarm p .deferred) (s.rise p) :=
    defers ▸ State.Touches.defer_after (S := (· = overflowPoint)) (fun v => .handOverflow v rfl) s p
  have queued : (s.rise p).deferred = s.insertDeferred p ∧ (s.rise p).generalCount = s.generalCount ∧
      ((s.queued p).flag .deferred = true → (s.rise p).flag .deferred = true) := by
    rw [defers]
    rcases s.defer_cases p with ⟨-, eq⟩ | ⟨-, eq⟩ <;> rw [eq]
    · obtain ⟨count, flags⟩ := (s.queued p).handOverflow_keeps
      exact ⟨State.handOverflow_deferred _, count, flags .deferred rfl⟩
    · exact ⟨rfl, rfl, id⟩
  obtain ⟨list, count, flag⟩ := queued
  obtain ⟨split, before, after⟩ := placed_split (fun q => (s.cfg q).priority) (s.cfg p).priority s.deferred
  refine ⟨(touches.alarm p other).trans (s.alarmOf_setAlarm_self p _), fun q ne overflow => ⟨?_, touches.filter q overflow⟩,
    ⟨_, _, split, list, before, after⟩, count, flag ?_, fun listed => ?_,
    fun empty service => ?_, .rise s p⟩
  · rw [touches.alarm q overflow, State.alarmOf_setAlarm, if_neg ne.symm]
  · rw [State.queued, State.flag_raise]
    simp
  · rw [list, defers]
    exact (s.defer_cases p).elim (fun ⟨empty, _⟩ => absurd empty listed) And.right
  · have hands : s.rise p = (s.queued p).handOverflow :=
      defers.trans ((s.defer_cases p).elim And.right fun ⟨listed, _⟩ => absurd empty listed)
    rw [hands]
    refine (State.handOverflow_follows (s := s.queued p) service).trans ?_
    rw [State.handOverflow_deferred]
    simp [State.queued, State.raise, State.insertDeferred]

end Sys2Proof.Machine

namespace Sys2Proof.Machine

set_option Elab.async false

/-! ## Edges of a standing alarm (R40 to R46, R157) -/

variable {s t u v : State} {p q : PointId} {c k : Chan} {pl : Player}

/-! ### A pass that goes on over a comparison (R152, R158, R160) -/

theorem State.playerOf_compareChannel_ne (s : State) (ne : k ≠ c) : (s.compareChannel c).playerOf k = s.playerOf k := by
  have switched : ∀ w, (s.switchTo c w).playerOf k = s.playerOf k := fun w => by
    cases w with
    | none => exact (s.playerOf_setPlayer c k none).trans (if_neg ne)
    | some d => exact (s.playerOf_beginPass c k d).trans (if_neg ne)
  unfold State.compareChannel
  split
  · split
    · exact switched (some _)
    · rfl
  · split
    · rfl
    · split
      · exact switched _
      · rfl

theorem State.playerOf_compareChannelSince_ne (s before : State) (ne : k ≠ c) :
    (s.compareChannelSince before c).playerOf k = s.playerOf k := by
  unfold State.compareChannelSince
  split
  · rfl
  · exact s.playerOf_compareChannel_ne ne

/-- A channel whose pass may go on compares without effect. -/
theorem State.compareChannelSince_goesOn (policy : (v.channels.get c).policy = (s.channels.get c).policy)
    (playing : v.playerOf c = some pl) (goes : s.PassGoesOn v c pl) : v.compareChannelSince s c = v := by
  by_cases same : v.finishesStep s c = true
  · exact if_pos same
  · refine (if_neg same).trans ?_
    unfold State.compareChannel
    rw [playing]
    dsimp only
    rcases goes with step | held | wanted | ⟨pending, demands⟩
    · rw [policy, step]
      exact ite_self v
    · exact if_pos (.inl held)
    · exact if_pos (.inr wanted)
    · refine absurd ?_ same
      rw [State.finishesStep, playing, demands, beq_self_eq_true]
      exact (Bool.and_true _).trans pending

theorem State.SoundFrame.demandsOn (h : State.SoundFrame s t) (c : Chan) : t.demandsOn c = s.demandsOn c := by
  obtain ⟨⟨_, _, _, rfl⟩, _⟩ := h
  rfl

theorem State.SoundFrame.passGoesOn (h : State.SoundFrame v t) : s.PassGoesOn t c pl ↔ s.PassGoesOn v c pl := by
  rw [State.PassGoesOn, State.PassGoesOn, h.wanted, h.demandsOn]

/-- Whatever the other channel does, a pass that may go on is the same after both have compared. -/
theorem State.playerOf_compareSince_goesOn (policy : ∀ c, (v.channels.get c).policy = (s.channels.get c).policy)
    (playing : v.playerOf c = some pl) (goes : s.PassGoesOn v c pl) : (v.compareSince s).playerOf c = some pl := by
  unfold State.compareSince
  cases c with
  | a => rwa [State.playerOf_compareChannelSince_ne _ s (by decide), State.compareChannelSince_goesOn (policy .a) playing goes]
  | b =>
    have first := State.SoundFrame.compareChannelSince v s .a
    have playing' := (v.playerOf_compareChannelSince_ne s (c := .a) (k := .b) (by decide)).trans playing
    rwa [State.compareChannelSince_goesOn ((first.picture.policy .b).trans (policy .b)) playing' (first.passGoesOn.mpr goes)]

/-! ### The renewal of a pass (R157) -/

/-- The pass is one of a SINGLE or FIRM cue for the point's record as it stands, which demands the cue the pass has. -/
def State.RenewsPass (s : State) (p : PointId) (pl : Player) : Prop :=
  ∃ r, s.recordOf p = some r ∧ pl.owner = .record p r.stamp ∧ s.demandOf r = some pl.demandedCue ∧ pl.passPolicy ≠ .repeating

theorem State.renewOn_hit (playing : s.playerOf c = some pl) (hit : s.RenewsPass p pl) :
    s.renewOn p c = s.setPlayer c (some { pl with renewed := true }) := by
  obtain ⟨r, record, owner, demand, once⟩ := hit
  simp only [State.renewOn, playing, record]
  exact if_pos ⟨owner, demand, once⟩

theorem State.renewOn_miss (playing : s.playerOf c = some pl) (miss : ¬ s.RenewsPass p pl) : s.renewOn p c = s := by
  unfold State.renewOn
  rw [playing]
  cases record : s.recordOf p with
  | none => rfl
  | some r => exact if_neg fun ⟨owner, demand, once⟩ => miss ⟨r, record, owner, demand, once⟩

theorem State.playerOf_renewOn_ne (s : State) (p : PointId) (ne : k ≠ c) : (s.renewOn p c).playerOf k = s.playerOf k := by
  unfold State.renewOn
  split
  · split
    · exact (s.playerOf_setPlayer c k _).trans (if_neg ne)
    · rfl
  · rfl

theorem State.SoundFrame.renewsPass (h : State.SoundFrame s t) : t.RenewsPass p pl ↔ s.RenewsPass p pl := by
  obtain ⟨⟨_, _, _, rfl⟩, _⟩ := h
  rfl

theorem State.playerOf_renewOn (playing : s.playerOf c = some pl) :
    (s.RenewsPass p pl → (s.renewOn p c).playerOf c = some { pl with renewed := true }) ∧
      (¬ s.RenewsPass p pl → (s.renewOn p c).playerOf c = some pl) := by
  refine ⟨fun hit => ?_, fun miss => ?_⟩
  · rw [State.renewOn_hit playing hit, State.playerOf_setPlayer, if_pos rfl]
  · rwa [State.renewOn_miss playing miss]

/-- After the renewal of a point's record exactly the passes for it have taken `renewed`. -/
theorem State.playerOf_renewRecord (playing : s.playerOf c = some pl) :
    (s.RenewsPass p pl → (s.renewRecord p).playerOf c = some { pl with renewed := true }) ∧
      (¬ s.RenewsPass p pl → (s.renewRecord p).playerOf c = some pl) := by
  unfold State.renewRecord
  cases c with
  | a =>
    rw [State.playerOf_renewOn_ne _ p (by decide)]
    exact State.playerOf_renewOn playing
  | b =>
    have first := State.SoundFrame.renewOn s p .a
    rw [← first.renewsPass]
    exact State.playerOf_renewOn ((s.playerOf_renewOn_ne p (by decide)).trans playing)

/-! ### The demand of a record written in place -/

theorem State.recordOf_moveRecord {f : RosterRecord → RosterRecord} (point : ∀ r, (f r).point = r.point) (st : RecordState) :
    (s.moveRecord p st f).recordOf p = (s.recordOf p).map fun r => { f r with state := st } := by
  have same : (fun r : RosterRecord => r.point == p) ∘ (fun r => if r.point = p then { f r with state := st } else r) =
      fun r => r.point == p := by
    funext r
    by_cases own : r.point = p <;> simp [own, point]
  rw [State.recordOf, State.moveRecord_roster, List.find?_map, same, State.recordOf]
  cases found : s.roster.find? fun r => r.point == p with
  | none => rfl
  | some r =>
    have own : r.point = p := by simpa using List.find?_some found
    exact congrArg some (if_pos own)

/-- A record written in place, its silence ended and its sounded flag cleared, demands the cue of its new state: the passes
for it that play that cue are the ones renewed (R157). -/
theorem State.renewsPass_moveRecord {f : RosterRecord → RosterRecord} {st : RecordState} {cue : Option CueId}
    (point : ∀ r, (f r).point = r.point) (stamp : ∀ r, (f r).stamp = r.stamp)
    (clear : ∀ r, (f r).silenced = false ∧ (f r).sounded = false)
    (asks : ∀ r : RosterRecord, r.point = p → s.cueOf { f r with state := st } = cue) :
    (s.moveRecord p st f).RenewsPass p pl ↔ s.PassFor p cue pl := by
  have demand : ∀ r : RosterRecord, r.point = p → (s.moveRecord p st f).demandOf { f r with state := st } = cue := fun r own => by
    have asked : (s.moveRecord p st f).cueOf { f r with state := st } = cue := asks r own
    obtain ⟨loud, fresh⟩ := clear r
    unfold State.demandOf
    rw [asked]
    cases cue <;> simp [loud, fresh]
  unfold State.RenewsPass State.PassFor
  rw [State.recordOf_moveRecord point]
  constructor
  · rintro ⟨r', written, owner, asked, once⟩
    obtain ⟨r, record, rfl⟩ := Option.map_eq_some_iff.mp written
    have own : r.point = p := by simpa using List.find?_some record
    exact ⟨⟨r, record, owner.trans (by rw [← stamp r])⟩, (demand r own).symm.trans asked, once⟩
  · rintro ⟨⟨r, record, owner⟩, asked, once⟩
    have own : r.point = p := by simpa using List.find?_some record
    exact ⟨_, Option.map_eq_some_iff.mpr ⟨r, record, rfl⟩, owner.trans (by rw [← stamp r]), (demand r own).trans asked, once⟩

/-- A claim that renews the passes of a written record and then compares, as `Renews` states it. -/
theorem State.renews_of_moved {m w : State} {hit : Player → Prop} (player : ∀ c, m.playerOf c = s.playerOf c)
    (channels : w.channels = (m.renewRecord p).channels) (frame : State.PictureFrame s w)
    (hits : ∀ pl, m.RenewsPass p pl ↔ hit pl) : State.Renews s (w.compareSince s) hit := by
  have sound := State.SoundFrame.compareSince w s
  have renewed : ∀ c, w.playerOf c = (m.renewRecord p).playerOf c := fun c => by rw [State.playerOf, channels, State.playerOf]
  constructor <;> intro c pl playing goes isHit <;> have here := (player c).trans playing <;>
    refine State.playerOf_compareSince_goesOn frame.policy ?_ (sound.passGoesOn.mp goes)
  · exact (renewed c).trans ((State.playerOf_renewRecord here).1 ((hits pl).mpr isHit))
  · exact (renewed c).trans ((State.playerOf_renewRecord here).2 fun k => isHit ((hits pl).mp k))

/-! ### Recurrence and return (R40, R43) -/

theorem State.renews_recurrence (s : State) (p : PointId) :
    State.Renews s (s.recurrence p) (s.PassFor p (s.cfg p).alertCue) :=
  State.renews_of_moved (m := s.moveRecord p .alert RosterRecord.recur) (fun _ => rfl) rfl ((State.PictureFrame.moveRecord s p _ _).trans (.renewRecord _ p)) fun _ =>
    State.renewsPass_moveRecord (fun _ => rfl) (fun _ => rfl) (fun _ => ⟨rfl, rfl⟩) fun r own => by
      show (s.cfg r.point).alertCue = _
      rw [own]

theorem State.renews_returnRecord (s : State) (p : PointId) :
    State.Renews s (s.returnRecord p) (s.PassFor p (s.cfg p).ringbackCue) :=
  State.renews_of_moved (m := s.moveRecord p .returned RosterRecord.comeBack) (fun _ => rfl) rfl
    (((State.PictureFrame.moveRecord s p _ _).trans (.renewRecord _ p)).trans (.raise _ _)) fun _ =>
    State.renewsPass_moveRecord (fun _ => rfl) (fun _ => rfl) (fun _ => ⟨rfl, rfl⟩) fun r own => by
      show (s.cfg r.point).ringbackCue = _
      rw [own]

/-- Settles O19: the record is written in its place, its pass renewed, and the channels compare; any other rise is taken by
no row of the table. -/
theorem riseOnStandingAlarm : Obligations.RiseOnStandingAlarm := by
  intro p s
  refine ⟨fun recurs => ?_, fun ignored => ?_⟩
  · have rises : s.rise p = s.recurrence p := by
      rcases s.riseWith_cases State.handOverflow p with ⟨normal, -⟩ | ⟨-, eq⟩ | same
      · rcases recurs with ⟨alarm, -⟩ | ⟨alarm, -⟩ | ⟨alarm, -⟩ <;> exact nomatch normal.symm.trans alarm
      · exact eq
      · unfold State.rise State.riseWith
        rcases recurs with ⟨alarm, kind⟩ | ⟨alarm, kind⟩ | ⟨alarm, kind⟩
        · rw [alarm]
          cases hk : (s.cfg p).kind with
          | auto | manual => rfl
          | pulse => exact absurd hk kind
        · rw [alarm, kind]
        · rw [alarm, kind]
    rw [rises]
    have sound : State.SoundFrame (s.moveRecord p .alert RosterRecord.recur) (s.recurrence p) :=
      (State.SoundFrame.renewRecord _ p).trans (.compareSince _ s)
    exact ⟨fun q => (sound.alarmOf q).trans (s.moveRecord_alarmOf p q .alert _), sound.roster_eq, sound.stampCounter_eq,
      sound.groups_eq, sound.deferred_eq, sound.generalCount_eq, sound.filter_eq, sound.flags _ rfl, .recurrence s p,
      s.renews_recurrence p⟩
  · rcases s.riseWith_cases State.handOverflow p with ⟨alarm, -⟩ | ⟨row, -⟩ | same
    · simp [alarm] at ignored
    · rcases row with ⟨alarm, kind⟩ | ⟨alarm, kind⟩ | ⟨alarm, kind⟩ <;> simp [alarm, kind] at ignored
    · exact same

/-! ### Falls (R43 to R46) -/

theorem State.fallWith_alert {ovf : State → State} (kind : (s.cfg p).kind ≠ .pulse) (alarm : s.alarmOf p = .alert) :
    s.fallWith ovf p = s.returnRecord p := by
  unfold State.fallWith
  rw [alarm]
  cases hk : (s.cfg p).kind with
  | auto | manual => rfl
  | pulse => exact absurd hk kind

theorem State.fallWith_deferred {ovf : State → State} (kind : (s.cfg p).kind ≠ .pulse) (alarm : s.alarmOf p = .deferred) :
    s.fallWith ovf p = s.leaveDeferred ovf p .normal := by
  unfold State.fallWith
  rw [alarm]
  cases hk : (s.cfg p).kind with
  | auto | manual => rfl
  | pulse => exact absurd hk kind

/-- A point has left the deferred list for state `a`, before a hand-over (R71). -/
def State.delisted (s : State) (p : PointId) (a : AlarmState) : State :=
  ({ s.setAlarm p a with deferred := s.deferred.erase p } : State).armQuiet

theorem State.leaveDeferred_eq (ovf : State → State) (s : State) (p : PointId) (a : AlarmState) :
    s.leaveDeferred ovf p a = handIfEmptied ovf s.deferred (s.delisted p a) := rfl

/-- A point that leaves the deferred list hands over the emptied list's condition, or nothing (R71, R75). -/
theorem State.leaveDeferred_cases (s : State) (p : PointId) (a : AlarmState) :
    (s.deferred ≠ [] ∧ (s.delisted p a).deferred = [] ∧
        s.leaveDeferred State.handOverflow p a = (s.delisted p a).handOverflow) ∨
      ((s.deferred = [] ∨ (s.delisted p a).deferred ≠ []) ∧ s.leaveDeferred State.handOverflow p a = s.delisted p a) := by
  rw [State.leaveDeferred_eq]
  by_cases emptied : s.deferred ≠ [] ∧ (s.delisted p a).deferred = []
  · exact .inl ⟨emptied.1, emptied.2, if_pos (by simpa using emptied)⟩
  · exact .inr ⟨by tauto, if_neg (by simpa using emptied)⟩

/-- Settles O20, row by row of the falls' table. -/
theorem fallOnStandingAlarm : Obligations.FallOnStandingAlarm := by
  intro p s
  refine ⟨fun pulse => ?_, fun kind alarm => ?_, fun kind alarm => ?_, fun kind alarm => ?_, fun kind alarm => ?_,
    fun kind ignored => ?_⟩
  · rcases s.fallWith_cases State.handOverflow p with ⟨kind, -⟩ | ⟨kind, -⟩ | ⟨kind, -⟩ | ⟨kind, -⟩ | same
    · exact absurd pulse kind
    · exact nomatch pulse.symm.trans kind
    · exact nomatch pulse.symm.trans kind
    · exact absurd pulse kind
    · exact same
  · rw [State.fall, State.fallWith_alert kind alarm]
    have moved : State.SoundFrame (s.moveRecord p .returned RosterRecord.comeBack) _ := State.SoundFrame.renewRecord _ p
    have sound : State.SoundFrame (State.raise _ .returned) (s.returnRecord p) := State.SoundFrame.compareSince _ s
    refine ⟨fun q => ?_, sound.roster_eq.trans moved.roster_eq, ?_, sound.stampCounter_eq.trans moved.stampCounter_eq,
      sound.groups_eq.trans moved.groups_eq, sound.deferred_eq.trans moved.deferred_eq, sound.filter_eq.trans moved.filter_eq,
      .returnRecord s p, s.renews_returnRecord p⟩
    · exact (sound.alarmOf q).trans ((moved.alarmOf q).trans (s.moveRecord_alarmOf p q .returned _))
    · rw [sound.flags _ rfl, State.flag_raise]
      simp
  · simp only [State.fall, State.fallWith, alarm, kind]
  · simp only [State.fall, State.fallWith, alarm, kind]
    rfl
  · rw [State.fall, State.fallWith_deferred kind alarm]
    have left : State.Steady s (s.delisted p .normal) := .of_eq rfl rfl rfl
    have touches := State.Touches.leaveDeferred_after (S := (· = overflowPoint)) (fun v => .handOverflow v rfl) s p .normal
    have kept : (s.leaveDeferred State.handOverflow p .normal).deferred = s.deferred.erase p ∧
        State.Steady s (s.leaveDeferred State.handOverflow p .normal) := by
      rcases s.leaveDeferred_cases p .normal with ⟨-, emptied, eq⟩ | ⟨-, eq⟩ <;> rw [eq]
      · exact ⟨State.handOverflow_deferred _, left.trans (.handOverflow emptied)⟩
      · exact ⟨rfl, left⟩
    refine ⟨kept.1, fun other => (touches.alarm p other).trans (s.alarmOf_setAlarm_self p _), kept.2.generalCount,
      kept.2.stampCounter, fun last other service => ?_, .leaveDeferred State.PictureFrame.handOverflow s p _⟩
    rcases s.leaveDeferred_cases p .normal with ⟨-, emptied, eq⟩ | ⟨stays, -⟩
    · rw [eq]
      refine (State.handOverflow_follows (s := s.delisted p .normal) service).trans ?_
      rw [State.handOverflow_deferred, emptied]
      rfl
    · simp [State.delisted, State.armQuiet, last] at stays
  · rcases s.fallWith_cases State.handOverflow p with ⟨-, alarm, -⟩ | ⟨-, alarm, -⟩ | ⟨-, alarm, -⟩ | ⟨-, alarm, -⟩ | same
    case inr.inr.inr.inr => exact same
    all_goals simp [alarm] at ignored

end Sys2Proof.Machine

namespace Sys2Proof.Machine

set_option Elab.async false

/-! ## Retirement (R58, R72, R73, R88) -/

open Function (update)

variable {s t u m : State} {p q h : PointId} {a : AlarmState} {r : RosterRecord} {rest : List PointId}

/-! ### The record gone, before the head of the deferred list is admitted -/

/-- The state of a retirement once the channels have compared and before the head of the deferred list is admitted (R72). -/
def State.vacated (s : State) (p : PointId) (a : AlarmState) (r : RosterRecord) : State :=
  (s.retired p a r.firstOut).compareSince s

theorem State.retire_eq {ovf : State → State} (record : s.recordOf p = some r) :
    s.retire ovf p a = if isGeneral p then (s.vacated p a r).admitHead ovf else s.vacated p a r := by
  unfold State.retire
  rw [record]
  rfl

theorem State.admitHead_nil {ovf : State → State} (empty : s.deferred = []) : s.admitHead ovf = s := by
  rw [State.admitHead, empty]

/-- The deferred list cut down to its rest. -/
def State.beheaded (s : State) (rest : List PointId) : State := { s with deferred := rest }

/-- The head of the deferred list is admitted from the rest of it (R73). -/
theorem State.admitHead_cons {ovf : State → State} (list : s.deferred = h :: rest) :
    s.admitHead ovf = handIfEmptied ovf s.deferred ((s.beheaded rest).admitPoint h) := by
  rw [State.admitHead, list]
  rfl

/-- What a retirement leaves before the head is admitted: the record and its slot are gone, a group is armed only if it was
or is quiet now, and nothing else has moved (R72, R85, R88). -/
structure State.Vacates (s m : State) (p : PointId) (a : AlarmState) : Prop extends State.Still s m where
  alarm : m.alarmOf = update s.alarmOf p a
  roster : m.roster = s.roster.filter fun x => x.point ≠ p
  stampCounter : m.stampCounter = s.stampCounter
  generalCount : m.generalCount = if isGeneral p then s.generalCount - 1 else s.generalCount
  slot : ∀ g, (m.groupOf g).slot = ((s.groupOf g).vacate p).slot
  armed : ∀ g, (m.groupOf g).armed = true → (s.groupOf g).armed = true ∨ m.quiet g = true
  returned : m.flag .returned = s.flag .returned

theorem GroupRecord.vacate_armed (p : PointId) (r : GroupRecord) : (r.vacate p).armed = r.armed := by
  unfold GroupRecord.vacate
  split <;> rfl

/-- In a consistent picture the slot that a retirement empties is the one that names the point. -/
theorem State.vacates (points : (s.roster.map RosterRecord.point).Nodup) (slots : SlotsLegal s.cfg s.roster s.groupOf)
    (record : s.recordOf p = some r) (a : AlarmState) : State.Vacates s (s.vacated p a r) p a := by
  obtain ⟨mem, point⟩ := (State.recordOf_eq_some points).mp record
  have absent : ∀ x ∈ (s.leaveRoster p a).roster, x.point ≠ p := fun x hx => by simpa using (List.mem_filter.mp hx).2
  obtain ⟨gr, eq, groups⟩ := State.releaseSlot_eq (s := s.leaveRoster p a) (r := r) absent
    (point ▸ slots.marks r mem) fun g slot => (slots.slots g p slot).1
  have released : s.retired p a r.firstOut = ({ s.leaveRoster p a with groups := gr } : State).armQuiet := by
    rw [State.retired, eq]
  have group : ∀ g : GroupId, ({ s.leaveRoster p a with groups := gr } : State).groupOf g = (s.groupOf g).vacate p := groups
  have sound : State.SoundFrame _ (s.vacated p a r) := State.SoundFrame.compareSince (s.retired p a r.firstOut) s
  have same : ∀ g, (s.vacated p a r).groupOf g =
      if (s.vacated p a r).quiet g then { (s.groupOf g).vacate p with armed := true } else (s.groupOf g).vacate p := fun g => by
    have quiet : (s.vacated p a r).quiet g = ({ s.leaveRoster p a with groups := gr } : State).quiet g := by
      have alarm := sound.samePicture.alarm
      have config := sound.samePicture.config
      rw [released] at alarm config
      simp only [State.quiet, State.cfg, State.alarmOf, alarm, config]
      rfl
    rw [quiet, State.groupOf, sound.groups_eq, released]
    exact (State.armQuiet_groupOf _ g).trans (by rw [group])
  refine ⟨State.Still.retired s p a r.firstOut, ?_, ?_, ?_, ?_, fun g => ?_, fun g => ?_, ?_⟩
  · rw [← s.setAlarm_alarmOf p a]
    funext q
    rw [sound.alarmOf, released]
    rfl
  · rw [sound.roster_eq, released]
    exact List.filter_congr fun x _ => by simp [bne, beq_eq_decide]
  · rw [sound.stampCounter_eq, released]
    rfl
  · rw [sound.generalCount_eq, released]
    rfl
  · rw [same]
    split <;> rfl
  · rw [same]
    split
    · exact fun _ => .inr ‹_›
    · rw [GroupRecord.vacate_armed]
      exact .inl
  · rw [sound.flags _ rfl, released]
    rfl

/-! ### The head of the deferred list admitted -/

/-- What the admission of the deferred head brings: a fresh record of it, the rest of the list, and the group's slot only
where the group stood armed (R68, R73, R86). -/
structure State.AdmitsHead (m w : State) (h : PointId) (rest : List PointId) : Prop extends State.Plain m w where
  alarm : w.alarmOf = update m.alarmOf h .alert
  roster : ∃ b, w.roster.Perm ({ freshRecord h (m.beheaded rest).nextStamp with firstOut := b } :: m.roster)
  deferred : w.deferred = rest
  generalCount : w.generalCount = if isGeneral h then m.generalCount + 1 else m.generalCount
  slot : ∀ g, (w.groupOf g).slot = (m.groupOf g).slot ∨ (m.cfg h).group = some g ∧ (m.groupOf g).armed = true
  newAlert : w.flag .newAlert = true
  returned : w.flag .returned = m.flag .returned

theorem State.admitsHead (absent : ∀ x ∈ m.roster, x.point ≠ h) (rest : List PointId) :
    State.AdmitsHead m ((m.beheaded rest).admitPoint h) h rest := by
  have sound := State.SoundFrame.compareSince ((m.beheaded rest).admitted h) (m.beheaded rest)
  have still := State.Still.admitPoint (m.beheaded rest) h
  refine ⟨(State.Plain.setDeferred m rest).trans still.toPlain, ?_, ⟨((m.beheaded rest).slotFor h).isSome, ?_⟩,
    still.deferred, ?_, fun g => ?_, ?_, ?_⟩
  · exact (funext fun q => sound.alarmOf q).trans (State.admitted_alarmOf _ h)
  · rw [State.admitPoint_eq, sound.roster_eq]
    exact State.admitted_roster (u := m.beheaded rest) absent
  · exact sound.generalCount_eq.trans (State.admitted_generalCount _ h)
  · rw [State.groupOf, State.admitPoint_eq, sound.groups_eq, State.admitted_groups]
    split
    · rename_i takes
      obtain ⟨group, -, armed, -⟩ := (State.slotFor_eq_some_iff _ h g).mp takes
      exact .inr ⟨group, armed⟩
    · exact .inl rfl
  · rw [State.admitPoint_eq, sound.flags _ rfl, State.admitted_flag]
    simp
  · rw [State.admitPoint_eq, sound.flags _ rfl, State.admitted_flag]
    exact Bool.or_false _

/-! ### What the hand-over of an empty list's condition spares (R75) -/

/-- Records of other points keep everything but their first-out mark, no record comes in, and slots only empty. -/
structure State.Spares (s t : State) : Prop where
  kept : ∀ x ∈ s.roster, x.point ≠ overflowPoint → ∃ b, ({ x with firstOut := b } : RosterRecord) ∈ t.roster
  origin : ∀ y ∈ t.roster, ∃ x ∈ s.roster, x.point = y.point ∧ x.stamp = y.stamp
  slots : ∀ g, (t.groupOf g).slot = (s.groupOf g).slot ∨ (t.groupOf g).slot = none

theorem State.Spares.trans (k : State.Spares s t) (l : State.Spares t u) : State.Spares s u where
  kept x hx other := by
    obtain ⟨b, hb⟩ := k.kept x hx other
    exact l.kept { x with firstOut := b } hb other
  origin z hz := by
    obtain ⟨y, hy, point, stamp⟩ := l.origin z hz
    obtain ⟨x, hx, point', stamp'⟩ := k.origin y hy
    exact ⟨x, hx, point'.trans point, stamp'.trans stamp⟩
  slots g := (l.slots g).elim (fun eq => (k.slots g).imp eq.trans eq.trans) .inr

theorem State.Spares.of_eq (roster : t.roster = s.roster) (slots : ∀ g, (t.groupOf g).slot = (s.groupOf g).slot) :
    State.Spares s t :=
  ⟨fun x hx _ => ⟨x.firstOut, roster ▸ hx⟩, fun y hy => ⟨y, roster ▸ hy, rfl, rfl⟩, fun g => .inl (slots g)⟩

theorem State.Spares.refl (s : State) : State.Spares s s := .of_eq rfl fun _ => rfl

theorem State.Spares.setAlarm (s : State) (p : PointId) (a : AlarmState) : State.Spares s (s.setAlarm p a) :=
  .of_eq rfl fun _ => rfl

theorem State.Spares.setFilter (s : State) (p : PointId) (f : Filter) : State.Spares s (s.setFilter p f) :=
  .of_eq rfl fun _ => rfl

theorem State.Spares.setDeferred (s : State) (l : List PointId) : State.Spares s { s with deferred := l } :=
  .of_eq rfl fun _ => rfl

theorem State.Spares.raise (s : State) (e : Event) : State.Spares s (s.raise e) := .of_eq rfl fun _ => rfl

theorem State.SoundFrame.spares (k : State.SoundFrame s t) : State.Spares s t :=
  .of_eq k.roster_eq fun g => by rw [State.groupOf, k.groups_eq, State.groupOf]

/-- A write in place on the records, which changes other points' records in their marks alone. -/
theorem State.Spares.setRoster (s : State) {f : RosterRecord → RosterRecord}
    (named : ∀ x, (f x).point = x.point ∧ (f x).stamp = x.stamp)
    (marks : ∀ x, x.point ≠ overflowPoint → ∃ b, f x = { x with firstOut := b }) :
    State.Spares s (s.setRoster (s.roster.map f)) where
  kept x hx other := by
    obtain ⟨b, eq⟩ := marks x other
    exact ⟨b, List.mem_map.mpr ⟨x, hx, eq⟩⟩
  origin y hy := by
    obtain ⟨x, hx, rfl⟩ := List.mem_map.mp hy
    exact ⟨x, hx, (named x).1.symm, (named x).2.symm⟩
  slots _ := .inl rfl

theorem State.Spares.armQuiet (s : State) : State.Spares s s.armQuiet := .of_eq rfl fun g => by
  rw [s.armQuiet_groupOf]
  split <;> rfl

theorem State.Spares.emptySlot (s : State) (g : GroupId) : State.Spares s (s.emptySlot g) := by
  unfold State.emptySlot
  split
  · rename_i p _
    have emptied : State.Spares s (s.setGroup g { s.groups[g] with slot := none }) := by
      refine ⟨fun x hx _ => ⟨x.firstOut, hx⟩, fun y hy => ⟨y, hy, rfl, rfl⟩, fun k => ?_⟩
      rw [s.setGroup_groupOf, Function.update_apply]
      split
      · exact .inr rfl
      · exact .inl rfl
    refine emptied.trans (.setRoster _ (fun x => ?_) fun x _ => ?_)
    · split <;> exact ⟨rfl, rfl⟩
    · split
      · exact ⟨false, rfl⟩
      · exact ⟨x.firstOut, rfl⟩
  · exact .of_eq rfl fun _ => rfl

theorem State.Spares.releaseSlot (s : State) (p : PointId) (v : Bool) : State.Spares s (s.releaseSlot p v) := by
  unfold State.releaseSlot
  split
  · split
    · exact .emptySlot s _
    · exact .of_eq rfl fun _ => rfl
  · exact .of_eq rfl fun _ => rfl

theorem State.Spares.moveRecord (s : State) (st : RecordState) {f : RosterRecord → RosterRecord}
    (named : ∀ x, (f x).point = x.point ∧ (f x).stamp = x.stamp) : State.Spares s (s.moveRecord overflowPoint st f) := by
  have written := State.Spares.setRoster (s.setAlarm overflowPoint st.toAlarm)
    (f := fun r => if r.point = overflowPoint then { f r with state := st } else r)
    (fun x => by
      split
      · exact named x
      · exact ⟨rfl, rfl⟩)
    fun x other => ⟨x.firstOut, if_neg other⟩
  exact (State.Spares.setAlarm s overflowPoint st.toAlarm).trans written

/-- A fall of point 63 spares the records of the other points. -/
theorem State.Spares.fallWith (s : State) : State.Spares s (s.fallWith id overflowPoint) := by
  rcases s.fallWith_cases id overflowPoint with ⟨-, -, eq⟩ | ⟨-, -, eq⟩ | ⟨-, -, eq⟩ | ⟨-, -, eq⟩ | eq <;> rw [eq]
  · have sound : State.SoundFrame _ (s.returnRecord overflowPoint) := State.SoundFrame.compareSince _ s
    exact (((State.Spares.moveRecord s .returned (f := RosterRecord.comeBack) fun _ => ⟨rfl, rfl⟩).trans
      (State.SoundFrame.renewRecord _ _).spares).trans (.raise _ _)).trans sound.spares
  · rcases s.retire_cases id overflowPoint .normal with eq | ⟨v, eq | ⟨general, -⟩⟩
    · exact eq ▸ .of_eq rfl fun _ => rfl
    · have left : State.Spares s (s.leaveRoster overflowPoint .normal) :=
        ⟨fun x hx other => ⟨x.firstOut, List.mem_filter.mpr ⟨hx, by simpa using other⟩⟩,
          fun y hy => ⟨y, List.mem_of_mem_filter hy, rfl, rfl⟩, fun _ => .inl rfl⟩
      exact eq ▸ ((left.trans (.releaseSlot _ _ v)).trans (.armQuiet _)).trans (State.SoundFrame.compareSince _ s).spares
    · exact absurd general (by decide)
  · exact .moveRecord s .awaitReset fun _ => ⟨rfl, rfl⟩
  · rw [State.leaveDeferred_eq]
    have left : State.Spares s (s.delisted overflowPoint .normal) :=
      ((State.Spares.setAlarm s _ .normal).trans (.setDeferred _ _)).trans (.armQuiet _)
    unfold handIfEmptied
    split <;> exact left
  · exact .of_eq rfl fun _ => rfl

theorem State.Spares.handOverflow (empty : s.deferred = []) : State.Spares s s.handOverflow := by
  rcases State.handOverflow_emptied_cases empty with eq | ⟨f, eq | eq⟩ <;> rw [eq]
  · exact .refl s
  · exact .setFilter s _ f
  · exact (State.Spares.setFilter s _ f).trans (.fallWith _)

end Sys2Proof.Machine

namespace Sys2Proof.Machine

set_option Elab.async false

/-! ### The retirement whole (R72, R73) -/

open Function (update update_self update_of_ne)

variable {s t u m w : State} {p q h : PointId} {a : AlarmState} {r : RosterRecord} {rest : List PointId}

/-- With nobody waiting, or for an internal point, a retirement admits nobody (R72). -/
theorem State.retire_alone {ovf : State → State} (vacates : State.Vacates s (s.vacated p a r) p a)
    (record : s.recordOf p = some r) (alone : s.deferred = [] ∨ isInternal p = true) :
    s.retire ovf p a = s.vacated p a r := by
  rw [State.retire_eq record]
  split
  · rename_i general
    refine State.admitHead_nil (vacates.deferred.trans (alone.resolve_right ?_))
    rw [isGeneral_eq, Bool.not_eq_true'] at general
    exact Bool.eq_false_iff.mp general
  · rfl

/-- The retirement of a general record with points waiting ends with the admission of their head (R73). -/
theorem State.retire_waiting {ovf : State → State} (vacates : State.Vacates s (s.vacated p a r) p a)
    (record : s.recordOf p = some r) (list : s.deferred = h :: rest) (general : isGeneral p = true) :
    s.retire ovf p a = handIfEmptied ovf s.deferred (((s.vacated p a r).beheaded rest).admitPoint h) := by
  rw [State.retire_eq record, if_pos general, State.admitHead_cons (vacates.deferred.trans list), vacates.deferred]

theorem GroupRecord.vacate_slot_eq_none {g : GroupRecord} (named : g.slot = some p) : (g.vacate p).slot = none := by
  rw [GroupRecord.vacate, if_pos named]

theorem State.Vacates.recordOf (v : State.Vacates s m p a) : m.recordOf p = none :=
  State.recordOf_eq_none.mpr fun x hx => by
    rw [v.roster] at hx
    simpa using (List.mem_filter.mp hx).2

/-- The stamp that the head takes is held by no record that is left (R66). -/
theorem State.Vacates.nextStamp_free (v : State.Vacates s m p a)
    (legal : RosterLegal s.cfg s.alarmOf s.roster s.generalCount s.stampCounter) (rest : List PointId) :
    ∀ x ∈ s.roster, x.point ≠ p → x.stamp ≠ (m.beheaded rest).nextStamp := fun x hx other stamp => by
  have few : m.roster.length < 2 ^ 32 - 2 := by
    have points := legal.points.length_le_card
    rw [List.length_map, Fintype.card_fin] at points
    have sub := List.length_filter_le (fun x => decide (x.point ≠ p)) s.roster
    rw [v.roster]
    omega
  have counter : m.stampCounter ≠ 0 := v.stampCounter ▸ legal.counter
  have left : x ∈ m.roster := v.roster ▸ List.mem_filter.mpr ⟨hx, by simpa using other⟩
  exact State.nextStamp_free (m.beheaded rest) counter few (List.mem_map.mpr ⟨x, left, stamp⟩)

/-- The slot that the retirement empties stays empty when the head comes in: its group is not armed while the head waits
(R73, R84, R86). -/
theorem State.AdmitsHead.slot_emptied {g : GroupId} (head : State.AdmitsHead m w h rest) (v : State.Vacates s m p a)
    (core : s.PictureCore) (waits : s.alarmOf h = .deferred) (ne : p ≠ h) (named : (s.groupOf g).slot = some p) :
    (w.groupOf g).slot = none := by
  rcases head.slot g with same | ⟨group, armed⟩
  · exact (same.trans (v.slot g)).trans (GroupRecord.vacate_slot_eq_none named)
  · exfalso
    rcases v.armed g armed with before | quiet
    · have holder := (core.slots.holder g (by rw [named]; exact Option.some_ne_none p)).2
      exact nomatch before.symm.trans holder
    · have calm := (State.quiet_iff _ g).mp quiet h group
      rw [v.alarm, update_of_ne ne.symm, waits] at calm
      exact nomatch calm

/-- What the hand-over of an emptied list may still do after a head has been admitted keeps the picture of every general
point (R73, R75). -/
theorem State.handIfEmptied_cases (before : List PointId) (w : State) :
    handIfEmptied State.handOverflow before w = w ∨
      w.deferred = [] ∧ handIfEmptied State.handOverflow before w = w.handOverflow := by
  unfold handIfEmptied
  split
  · rename_i emptied
    simp only [Bool.and_eq_true, List.isEmpty_iff] at emptied
    exact .inr ⟨emptied.2, rfl⟩
  · exact .inl rfl

/-- What follows the admission of a head: point 63 alone is touched, other records keep all but their marks, and slots only
empty. -/
structure State.Concludes (w t : State) : Prop extends State.Spares w t, State.Steady w t where
  touches : State.Touches (· = overflowPoint) w t
  deferred : t.deferred = w.deferred

theorem State.concludes (before : List PointId) (w : State) :
    State.Concludes w (handIfEmptied State.handOverflow before w) := by
  rcases State.handIfEmptied_cases before w with eq | ⟨empty, eq⟩ <;> rw [eq]
  · exact ⟨.refl w, .refl w, .refl w, rfl⟩
  · exact ⟨.handOverflow empty, .handOverflow empty, .handOverflow w rfl, w.handOverflow_deferred⟩

/-- Settles O21: the record goes with its slot, and the head of the list comes in behind it into a group that is not armed
for it. -/
theorem retirementAdmitsHead : Obligations.RetirementAdmitsHead := by
  intro p r a s config legal record _ t
  have core := legal.parts.toPictureCore
  have vacates := State.vacates core.roster.points core.slots record a
  have frame : State.PictureFrame s t := .retire State.PictureFrame.handOverflow s p a
  by_cases alone : s.deferred = [] ∨ isInternal p = true
  · have eq : t = s.vacated p a r := State.retire_alone vacates record alone
    rw [eq]
    refine ⟨by rw [vacates.alarm, update_self], vacates.recordOf, eq ▸ frame, fun g named => ?_, fun _ => ?_,
      fun h rest list general => ?_⟩
    · exact (vacates.slot g).trans (GroupRecord.vacate_slot_eq_none named)
    · exact ⟨vacates.roster, vacates.deferred, vacates.stampCounter, vacates.filter,
        fun q other => by rw [vacates.alarm, update_of_ne other], vacates.generalCount⟩
    · rw [isGeneral_eq, alone.resolve_left (list ▸ List.cons_ne_nil h rest)] at general
      exact nomatch general
  · obtain ⟨waiting, internal⟩ := not_or.mp alone
    have general : isGeneral p = true := by simpa [isGeneral_eq] using internal
    obtain ⟨h, rest, list⟩ := List.exists_cons_of_ne_nil waiting
    have deferredHead : s.alarmOf h = .deferred := (core.deferred.mem h).mp (list ▸ List.mem_cons_self)
    have generalHead : isGeneral h = true := core.deferred.general h (list ▸ List.mem_cons_self)
    obtain ⟨mem, point⟩ := (State.recordOf_eq_some core.roster.points).mp record
    have records : ∀ x ∈ s.roster, x.point ≠ h := core.roster.absent (by rw [deferredHead]; rfl)
    have ne : p ≠ h := point ▸ records r mem
    have head := State.admitsHead (m := s.vacated p a r) (h := h)
      (fun x hx => records x (List.mem_of_mem_filter (vacates.roster ▸ hx))) rest
    have eq : t = handIfEmptied State.handOverflow s.deferred (((s.vacated p a r).beheaded rest).admitPoint h) :=
      State.retire_waiting vacates record list general
    have concludes := State.concludes s.deferred (((s.vacated p a r).beheaded rest).admitPoint h)
    rw [← eq] at concludes
    have stays : ∀ q, isGeneral q = true → q ≠ overflowPoint := by
      rintro q general rfl
      exact absurd general (by decide)
    have alarm : ∀ q, q ≠ overflowPoint → t.alarmOf q = update (update s.alarmOf p a) h .alert q := fun q other => by
      rw [concludes.touches.alarm q other, head.alarm, vacates.alarm]
    obtain ⟨b, perm⟩ := head.roster
    refine ⟨?_, State.recordOf_eq_none.mpr fun y hy => ?_, frame, fun g named => ?_, fun k => absurd k alone,
      fun h' rest' list' _ => ?_⟩
    · rw [alarm p (stays p general), update_of_ne ne, update_self]
    · obtain ⟨x, hx, same, -⟩ := concludes.origin y hy
      rw [← same]
      rcases List.mem_cons.mp (perm.mem_iff.mp hx) with rfl | old
      · exact ne.symm
      · exact State.recordOf_eq_none.mp vacates.recordOf x old
    · exact (concludes.slots g).elim (fun same => same.trans (head.slot_emptied vacates core deferredHead ne named)) id
    · obtain ⟨rfl, rfl⟩ := List.cons.inj (list'.symm.trans list)
      have count := core.roster.count
      have full := legal.parts.full waiting
      refine ⟨?_, concludes.deferred.trans head.deferred, ?_, concludes.flags .newAlert rfl head.newAlert, ?_,
        fun q other otherHead overflow => ?_⟩
      · rw [alarm h' (stays h' generalHead), update_self]
      · rw [concludes.generalCount, head.generalCount, if_pos generalHead, vacates.generalCount, if_pos general, full]
        rfl
      · obtain ⟨b', kept⟩ := concludes.kept _ (perm.mem_iff.mpr List.mem_cons_self) (stays h' generalHead)
        exact ⟨_, kept, rfl, rfl, rfl, rfl, rfl, vacates.nextStamp_free core.roster rest'⟩
      · rw [alarm q overflow, update_of_ne otherHead, update_of_ne other]

end Sys2Proof.Machine

namespace Sys2Proof.Machine

set_option Elab.async false

/-! ## Actions on several records (R50, R51, R53) -/

open Function (update update_self update_of_ne)

variable {s t u m w : State} {p q h : PointId} {a : AlarmState} {r : RosterRecord} {rest : List PointId}
  {out : RosterRecord → Option RosterRecord} {l : List RosterRecord} {sel : RosterRecord → Bool}

/-- What an action makes of the records `l`, one after another: `out` says what becomes of each, nothing being its retirement.
Every other record stays, what comes in stands in ALERT, unacknowledged, for a general point, and a point in NORMAL stays
there. -/
structure State.ActsOn (out : RosterRecord → Option RosterRecord) (l : List RosterRecord) (s t : State) : Prop where
  others : ∀ x ∈ s.roster, (∀ r ∈ l, r.point ≠ x.point) → x ∈ t.roster
  written : ∀ r ∈ l, ∀ x, out r = some x → x ∈ t.roster
  retired : ∀ r ∈ l, out r = none → t.alarmOf r.point = .normal
  origin : ∀ y ∈ t.roster, (y ∈ s.roster ∧ ∀ r ∈ l, r.point ≠ y.point) ∨ (∃ r ∈ l, out r = some y) ∨
    (y.state = .alert ∧ y.ackSource = none ∧ isGeneral y.point = true)
  normal : ∀ q, (∀ r ∈ l, r.point ≠ q) → s.alarmOf q = .normal → t.alarmOf q = .normal
  returned : t.flag .returned = s.flag .returned

theorem State.ActsOn.nil (s : State) : State.ActsOn out [] s s :=
  ⟨fun _ hx _ => hx, nofun, nofun, fun _ hy => .inl ⟨hy, nofun⟩, fun _ _ normal => normal, rfl⟩

/-- One record after another, of different points. -/
theorem State.ActsOn.cons (point : ∀ r x, out r = some x → x.point = r.point) (k : State.ActsOn out [r] s t)
    (n : State.ActsOn out l t u) (distinct : ∀ x ∈ l, x.point ≠ r.point) : State.ActsOn out (r :: l) s u where
  others x hx away := n.others x (k.others x hx (by simpa using away r List.mem_cons_self)) fun y hy =>
    away y (List.mem_cons_of_mem r hy)
  written y hy x eq := by
    rcases List.mem_cons.mp hy with rfl | later
    · exact n.others x (k.written y List.mem_cons_self x eq) fun z hz => point y x eq ▸ distinct z hz
    · exact n.written y later x eq
  retired y hy none := by
    rcases List.mem_cons.mp hy with rfl | later
    · exact n.normal y.point distinct (k.retired y List.mem_cons_self none)
    · exact n.retired y later none
  origin y hy := by
    rcases n.origin y hy with ⟨mem, away⟩ | ⟨x, hx, eq⟩ | fresh
    · rcases k.origin y mem with ⟨mem, first⟩ | ⟨x, hx, eq⟩ | fresh
      · exact .inl ⟨mem, List.forall_mem_cons.mpr ⟨first r List.mem_cons_self, away⟩⟩
      · obtain rfl := List.mem_singleton.mp hx
        exact .inr (.inl ⟨x, List.mem_cons_self, eq⟩)
      · exact .inr (.inr fresh)
    · exact .inr (.inl ⟨x, List.mem_cons_of_mem r hx, eq⟩)
    · exact .inr (.inr fresh)
  normal q away normal := n.normal q (fun x hx => away x (List.mem_cons_of_mem r hx))
    (k.normal q (by simpa using away r List.mem_cons_self) normal)
  returned := n.returned.trans k.returned

/-- What one action on a selected record must do in every consistent picture with the configuration of `s`. -/
structure State.ActsEach (s : State) (sel : RosterRecord → Bool) (act : PointId → State → State)
    (out : RosterRecord → Option RosterRecord) : Prop where
  point : ∀ r x, out r = some x → x.point = r.point
  frame : ∀ p u, State.PictureFrame u (act p u)
  legal : ∀ u : State, u.PictureParts → ∀ r ∈ u.roster, sel r = true → (act r.point u).PictureParts
  acts : ∀ u : State, u.PictureParts → u.cfg = s.cfg → ∀ r ∈ u.roster, sel r = true →
    State.ActsOn out [r] u (act r.point u)

/-- An action on every selected record takes each of them once, as it stands (R50, R51, R53). -/
theorem State.ActsEach.forEachNamed {act : PointId → State → State} (each : s.ActsEach sel act out) (legal : s.PictureParts) :
    (s.forEachNamed sel act).PictureParts ∧ State.ActsOn out (s.roster.filter sel) s (s.forEachNamed sel act) := by
  have fold : ∀ (l : List RosterRecord) (u : State), (l.map RosterRecord.point).Nodup → (∀ r ∈ l, r ∈ u.roster ∧ sel r = true) →
      u.PictureParts → u.cfg = s.cfg →
      let v := l.foldl (fun t r => if t.stillStands sel (r.point, r.stamp) then act r.point t else t) u
      v.PictureParts ∧ State.ActsOn out l u v := by
    intro l
    induction l with
    | nil => exact fun u _ _ parts _ => ⟨parts, .nil u⟩
    | cons r l ih =>
      intro u distinct standing parts cfg
      obtain ⟨first, distinct⟩ := List.nodup_cons.mp distinct
      obtain ⟨mem, selected⟩ := standing r List.mem_cons_self
      have away : ∀ x ∈ l, x.point ≠ r.point := fun x hx eq => first (eq ▸ List.mem_map_of_mem hx)
      have stands : u.stillStands sel (r.point, r.stamp) = true :=
        List.any_eq_true.mpr ⟨r, mem, by simp [selected]⟩
      have acts := each.acts u parts cfg r mem selected
      have later := ih (act r.point u) distinct
        (fun x hx => ⟨acts.others x (standing x (List.mem_cons_of_mem r hx)).1
          (by simpa using (away x hx).symm), (standing x (List.mem_cons_of_mem r hx)).2⟩)
        (each.legal u parts r mem selected) ((funext (each.frame r.point u).cfg).trans cfg)
      rw [List.foldl_cons, if_pos stands]
      exact ⟨later.1, acts.cons each.point later.2 away⟩
  have points : ((s.roster.filter sel).map RosterRecord.point).Nodup :=
    legal.roster.points.sublist (List.filter_sublist.map _)
  rw [State.forEachNamed, State.named, List.foldl_map]
  exact fold _ s points (fun r hr => List.mem_filter.mp hr) legal rfl

end Sys2Proof.Machine

namespace Sys2Proof.Machine

set_option Elab.async false

/-! ### One record retired, or acknowledged and kept (R48, R53) -/

open Function (update update_self update_of_ne)

variable {s t u m w : State} {p q h : PointId} {a : AlarmState} {r : RosterRecord} {rest : List PointId}
  {out : RosterRecord → Option RosterRecord} {sel : RosterRecord → Bool} {src : AckSource}

theorem handIfEmptied_id (before : List PointId) (w : State) : handIfEmptied id before w = w := ite_self w

/-- A retirement that hands nothing over takes its record, and may bring in the head of the deferred list. -/
theorem State.retire_actsOn (parts : s.PictureParts) (mem : r ∈ s.roster) (none : out r = none) :
    State.ActsOn out [r] s (s.retire id r.point .normal) := by
  have core := parts.toPictureCore
  have record := (State.recordOf_eq_some core.roster.points).mpr ⟨mem, rfl⟩
  have vacates := State.vacates core.roster.points core.slots record .normal
  have gone : State.ActsOn out [r] s (s.vacated r.point .normal r) := by
    refine ⟨fun x hx away => ?_, fun x hx y eq => ?_, fun x hx _ => ?_, fun y hy => .inl ?_, fun q away normal => ?_,
      vacates.returned⟩
    · rw [vacates.roster]
      exact List.mem_filter.mpr ⟨hx, decide_eq_true (away r List.mem_cons_self).symm⟩
    · obtain rfl := List.mem_singleton.mp hx
      exact nomatch none.symm.trans eq
    · obtain rfl := List.mem_singleton.mp hx
      rw [vacates.alarm, update_self]
    · rw [vacates.roster] at hy
      obtain ⟨old, other⟩ := List.mem_filter.mp hy
      exact ⟨old, List.forall_mem_singleton.mpr (Ne.symm (of_decide_eq_true other))⟩
    · rw [vacates.alarm, update_of_ne (away r List.mem_cons_self).symm, normal]
  by_cases alone : s.deferred = [] ∨ isInternal r.point = true
  · rwa [State.retire_alone vacates record alone]
  · obtain ⟨waiting, internal⟩ := not_or.mp alone
    obtain ⟨h, rest, list⟩ := List.exists_cons_of_ne_nil waiting
    have deferredHead : s.alarmOf h = .deferred := (core.deferred.mem h).mp (list ▸ List.mem_cons_self)
    have records : ∀ x ∈ s.roster, x.point ≠ h := core.roster.absent (by rw [deferredHead]; rfl)
    have head := State.admitsHead (m := s.vacated r.point .normal r) (h := h)
      (fun x hx => records x (List.mem_of_mem_filter (vacates.roster ▸ hx))) rest
    obtain ⟨b, perm⟩ := head.roster
    rw [State.retire_waiting vacates record list (by simpa [isGeneral_eq] using internal), handIfEmptied_id]
    have normalNe : ∀ q, s.alarmOf q = .normal → q ≠ h := by
      rintro q normal rfl
      exact nomatch normal.symm.trans deferredHead
    refine ⟨fun x hx away => perm.mem_iff.mpr (List.mem_cons_of_mem _ (gone.others x hx away)), fun x hx y eq => ?_,
      fun x hx _ => ?_, fun y hy => ?_, fun q away normal => ?_, head.returned.trans gone.returned⟩
    · obtain rfl := List.mem_singleton.mp hx
      exact nomatch none.symm.trans eq
    · rw [head.alarm, update_of_ne, gone.retired x hx ‹_›]
      obtain rfl := List.mem_singleton.mp hx
      exact records x mem
    · rcases List.mem_cons.mp (perm.mem_iff.mp hy) with rfl | old
      · exact .inr (.inr ⟨rfl, rfl, core.deferred.general h (list ▸ List.mem_cons_self)⟩)
      · exact gone.origin y old
    · rw [head.alarm, update_of_ne (normalNe q normal), gone.normal q away normal]

/-- A record written in place and kept in its roster. -/
theorem State.moveRecord_actsOn (parts : s.PictureParts) (mem : r ∈ s.roster) {st : RecordState}
    {f : RosterRecord → RosterRecord} (kept : out r = some { f r with state := st }) :
    State.ActsOn out [r] s ((s.moveRecord r.point st f).compareSince s) := by
  have sound := State.SoundFrame.compareSince (s.moveRecord r.point st f) s
  have roster := sound.roster_eq.trans (s.moveRecord_roster r.point st f)
  refine ⟨fun x hx away => ?_, fun x hx y eq => ?_, fun x hx none => ?_, fun y hy => ?_, fun q away normal => ?_, ?_⟩
  · rw [roster]
    exact List.mem_map.mpr ⟨x, hx, if_neg (away r List.mem_cons_self).symm⟩
  · obtain rfl := List.mem_singleton.mp hx
    obtain rfl := Option.some.inj (kept.symm.trans eq)
    rw [roster]
    exact List.mem_map.mpr ⟨x, mem, if_pos rfl⟩
  · obtain rfl := List.mem_singleton.mp hx
    exact nomatch kept.symm.trans none
  · rw [roster] at hy
    obtain ⟨x, hx, rfl⟩ := List.mem_map.mp hy
    by_cases own : x.point = r.point
    · obtain rfl := List.inj_on_of_nodup_map parts.roster.points hx mem own
      rw [if_pos rfl]
      exact .inr (.inl ⟨x, List.mem_cons_self, kept⟩)
    · rw [if_neg own]
      exact .inl ⟨hx, List.forall_mem_singleton.mpr (Ne.symm own)⟩
  · rw [sound.alarmOf, State.moveRecord_alarmOf, if_neg (away r List.mem_cons_self).symm, normal]
  · rw [sound.flags _ rfl]
    rfl

/-- What an acknowledgement makes of a record by its state and its point's kind, nothing being its retirement (R48). -/
def acknowledged (cfg : PointId → PointConfig) (src : AckSource) (r : RosterRecord) : Option RosterRecord :=
  if r.state = .alert ∧ (cfg r.point).kind ≠ .pulse then some { r.acknowledge src with state := .acked }
  else if r.state = .returned ∧ (cfg r.point).kind = .manual then some { r.acknowledge src with state := .awaitReset }
  else none

theorem acknowledged_eq_some {cfg : PointId → PointConfig} {x : RosterRecord} (h : acknowledged cfg src r = some x) :
    x.point = r.point ∧ x.stamp = r.stamp ∧ x.ackSource = some src ∧ x.unacked = false ∧
      (x.state = .acked ∨ (cfg r.point).kind = .manual) := by
  unfold acknowledged at h
  split at h
  · obtain rfl := Option.some.inj h
    exact ⟨rfl, rfl, rfl, rfl, .inl rfl⟩
  · split at h
    · rename_i row
      obtain rfl := Option.some.inj h
      exact ⟨rfl, rfl, rfl, rfl, .inr row.2⟩
    · exact nomatch h

/-- The acknowledgement of every selected record that is unacknowledged acts on each of them (R50, R51). -/
theorem State.actsEach_acknowledge (s : State) (src : AckSource) (sel : RosterRecord → Bool) :
    s.ActsEach (fun r => r.unacked && sel r) (fun p t => t.acknowledgeWith id src p) (acknowledged s.cfg src) where
  point r x eq := (acknowledged_eq_some eq).1
  frame p u := .acknowledgeWith (fun v => .refl v) u src p
  legal u parts r _ _ := parts.acknowledgeWith keepsPicture_id src r.point
  acts u parts cfg r mem selected := by
    have mirror := parts.roster.mirror r mem
    have kind := (parts.points r.point).kind
    obtain ⟨unacked, -⟩ := (Bool.and_eq_true _ _).mp selected
    rw [← cfg]
    rcases r.unacked_iff.mp unacked with state | state <;> rw [state] at mirror <;> rw [mirror] at kind
    · by_cases pulse : (u.cfg r.point).kind = .pulse
      · rw [State.acknowledgeWith_alert_pulse pulse mirror]
        exact State.retire_actsOn parts mem (by simp [acknowledged, state, pulse])
      · rw [State.acknowledgeWith_alert pulse mirror]
        exact State.moveRecord_actsOn parts mem (if_pos ⟨state, pulse⟩)
    · cases eq : (u.cfg r.point).kind with
      | auto =>
        rw [State.acknowledgeWith_returned_auto eq mirror]
        exact State.retire_actsOn parts mem (by simp [acknowledged, state, eq])
      | manual =>
        rw [State.acknowledgeWith_returned_manual eq mirror]
        exact State.moveRecord_actsOn parts mem (by simp [acknowledged, state, eq])
      | pulse =>
        rw [eq] at kind
        exact nomatch kind

/-- The reset of every record in AWAIT_RESET acts on each of them (R53). -/
theorem State.actsEach_reset (s : State) :
    s.ActsEach (fun r => r.state == .awaitReset) (fun p t => t.retire id p .normal) fun _ => none where
  point _ _ eq := nomatch eq
  frame p u := .retire (fun v => .refl v) u p _
  legal u parts r mem selected := parts.resetPoint keepsPicture_id
    ((parts.roster.mirror r mem).trans (by rw [beq_iff_eq.mp selected]; rfl))
  acts _ parts _ _ mem _ := State.retire_actsOn parts mem rfl

/-! ### The hand-over at the end of the action (R75) -/

/-- In a consistent picture the hand-over of an empty list's condition leaves the other points' records as they are, brings
no record in, and takes point 63's own record only to retire it. -/
structure State.HandsLast (s t : State) : Prop where
  others : ∀ x : RosterRecord, x.point ≠ overflowPoint → (x ∈ t.roster ↔ x ∈ s.roster)
  origin : ∀ y ∈ t.roster, ∃ x ∈ s.roster, x.point = y.point ∧ x.stamp = y.stamp
  own : s.alarmOf overflowPoint = .acked → (∀ x ∈ s.roster, x ∈ t.roster) ∨ t.alarmOf overflowPoint = .normal
  normal : s.alarmOf overflowPoint = .normal → t.alarmOf overflowPoint = .normal

theorem State.HandsLast.of_eq (roster : t.roster = s.roster) (alarm : t.alarmOf overflowPoint = s.alarmOf overflowPoint) :
    State.HandsLast s t :=
  ⟨fun _ _ => by rw [roster], fun y hy => ⟨y, roster ▸ hy, rfl, rfl⟩, fun _ => .inl fun x hx => roster ▸ hx, alarm.trans⟩

theorem State.returnRecord_roster (s : State) (p : PointId) :
    (s.returnRecord p).roster =
      s.roster.map fun r => if r.point = p then { r.comeBack with state := .returned } else r := by
  have moved := State.SoundFrame.renewRecord (s.moveRecord p .returned RosterRecord.comeBack) p
  have sound : State.SoundFrame (State.raise _ .returned) (s.returnRecord p) := State.SoundFrame.compareSince _ s
  exact sound.roster_eq.trans moved.roster_eq

theorem State.HandsLast.fallWith (parts : s.PictureParts) (auto : (s.cfg overflowPoint).kind = .auto) (f : Filter) :
    State.HandsLast s ((s.setFilter overflowPoint f).fallWith id overflowPoint) := by
  rcases (s.setFilter overflowPoint f).fallWith_cases id overflowPoint with
    ⟨-, (alarm : s.alarmOf overflowPoint = _), eq⟩ | ⟨-, (alarm : s.alarmOf overflowPoint = _), eq⟩ |
      ⟨(kind : (s.cfg overflowPoint).kind = _), -⟩ | ⟨-, (alarm : s.alarmOf overflowPoint = _), -⟩ | eq
  · have roster := State.returnRecord_roster (s.setFilter overflowPoint f) overflowPoint
    rw [eq]
    refine ⟨fun x other => ?_, fun y hy => ?_, fun acked => (nomatch alarm.symm.trans acked),
      fun normal => nomatch alarm.symm.trans normal⟩
    · rw [roster, List.mem_map]
      refine ⟨?_, fun hx => ⟨x, hx, if_neg other⟩⟩
      rintro ⟨y, hy, rfl⟩
      by_cases own : y.point = overflowPoint
      · rw [if_pos own] at other
        exact absurd own other
      · rwa [if_neg own]
    · rw [roster] at hy
      obtain ⟨x, hx, rfl⟩ := List.mem_map.mp hy
      refine ⟨x, hx, ?_⟩
      split <;> exact ⟨rfl, rfl⟩
  · obtain ⟨r, mem, point⟩ := parts.roster.holders overflowPoint (by rw [alarm]; rfl)
    have record : (s.setFilter overflowPoint f).recordOf overflowPoint = some r :=
      (State.recordOf_eq_some parts.roster.points).mpr ⟨mem, point⟩
    have vacates := State.vacates (s := s.setFilter overflowPoint f) parts.roster.points parts.slots record .normal
    rw [eq, State.retire_alone vacates record (.inr rfl)]
    refine ⟨fun x other => ?_, fun y hy => ⟨y, ?_, rfl, rfl⟩, fun _ => .inr ?_, fun _ => ?_⟩
    · rw [vacates.roster, List.mem_filter]
      exact and_iff_left (decide_eq_true other)
    · exact List.mem_of_mem_filter (vacates.roster ▸ hy)
    all_goals rw [vacates.alarm, update_self]
  · exact nomatch auto.symm.trans kind
  · exact absurd (parts.deferred.general _ ((parts.deferred.mem _).mpr alarm)) (by decide)
  · rw [eq]
    exact .of_eq rfl rfl

theorem State.HandsLast.handOverflow (parts : s.PictureParts) (auto : (s.cfg overflowPoint).kind = .auto)
    (empty : s.deferred = []) : State.HandsLast s s.handOverflow := by
  rcases State.handOverflow_emptied_cases empty with eq | ⟨f, eq | eq⟩ <;> rw [eq]
  · exact .of_eq rfl rfl
  · exact .of_eq rfl rfl
  · exact .fallWith parts auto f

/-! ### The action whole -/

/-- An action on several records, and its hand-over last: `u` stands before the hand-over (R50, R51, R53, R75). -/
structure State.ActsLast (s : State) (sel : RosterRecord → Bool) (out : RosterRecord → Option RosterRecord) (u t : State) :
    Prop where
  parts : u.PictureParts
  plain : State.Plain s u
  acts : State.ActsOn out (s.roster.filter sel) s u
  last : State.HandsLast u t
  touches : State.Touches (· = overflowPoint) u t
  legal : t.PictureParts

theorem State.ActsEach.takeNamed {act : PointId → State → State} (each : s.ActsEach sel act out) (legal : s.PictureParts)
    (auto : (s.cfg overflowPoint).kind = .auto) (hands : ∀ p u, State.Hands id u (act p u)) :
    State.ActsLast s sel out (s.forEachNamed sel act) (s.takeNamed sel act) := by
  obtain ⟨parts, acts⟩ := each.forEachNamed legal
  have plain : State.Plain s (s.forEachNamed sel act) := by
    refine List.foldlRecOn (motive := State.Plain s) _ _ (State.Still.refl s).toPlain fun u hu n _ => ?_
    split
    · exact hu.trans (hands _ u).plain
    · exact hu
  have kind : ((s.forEachNamed sel act).cfg overflowPoint).kind = .auto := by rw [plain.cfg, auto]
  refine ⟨parts, plain, acts, ?_, (State.concludes _ _).touches, legal.takeNamed sel act each.legal⟩
  rcases State.handIfEmptied_cases s.deferred (s.forEachNamed sel act) with eq | ⟨empty, eq⟩
  · exact .of_eq (congrArg State.roster eq) (congrArg (State.alarmOf · overflowPoint) eq)
  · exact (show s.takeNamed sel act = _ from eq) ▸ .handOverflow parts kind empty

theorem State.takeNamed_eq (s : State) (sel : RosterRecord → Bool) (act : PointId → State → State) :
    s.takeNamed sel act = if s.deferred ≠ [] ∧ (s.forEachNamed sel act).deferred = [] then
      (s.forEachNamed sel act).handOverflow else s.forEachNamed sel act := by
  refine if_congr ?_ rfl rfl
  simp [List.isEmpty_eq_false_iff]

/-- A point in NORMAL holds no record. -/
theorem State.PictureParts.recordOf_normal (parts : u.PictureParts) (normal : u.alarmOf p = .normal) : u.recordOf p = none := by
  have none := parts.toPictureCore.recordOf_isSome (p := p)
  rw [normal] at none
  exact Option.not_isSome_iff_eq_none.mp (Bool.eq_false_iff.mp none)

section ActsLast

variable (v : State.ActsLast s sel out u t)
include v

/-- A record that the action does not take stands until the hand-over. -/
theorem State.ActsLast.untaken (legal : s.PictureParts) (mem : r ∈ s.roster) (other : sel r = false) : r ∈ u.roster :=
  v.acts.others r mem fun x hx eq => by
    obtain ⟨mem', selected⟩ := List.mem_filter.mp hx
    obtain rfl := List.inj_on_of_nodup_map legal.roster.points mem' mem eq
    exact nomatch selected.symm.trans other

theorem State.ActsLast.retired (mem : r ∈ s.roster) (selected : sel r = true) (none : out r = none) :
    u.alarmOf r.point = .normal ∧ u.recordOf r.point = Option.none ∧ t.alarmOf r.point = .normal ∧
      t.recordOf r.point = Option.none := by
  have normal := v.acts.retired r (List.mem_filter.mpr ⟨mem, selected⟩) none
  have after : t.alarmOf r.point = .normal := by
    by_cases own : r.point = overflowPoint
    · rw [own] at normal ⊢
      exact v.last.normal normal
    · rw [v.touches.alarm _ own, normal]
  exact ⟨normal, v.parts.recordOf_normal normal, after, v.legal.recordOf_normal after⟩

/-- A record that the action writes stands, but that point 63's acknowledged record may go with the hand-over. -/
theorem State.ActsLast.written {x : RosterRecord} (mem : r ∈ s.roster) (selected : sel r = true) (eq : out r = some x)
    (own : x.point = overflowPoint → x.state = .acked) :
    x ∈ u.roster ∧ (x ∈ t.roster ∨ t.recordOf x.point = none ∧ t.alarmOf x.point = .normal) := by
  have stands := v.acts.written r (List.mem_filter.mpr ⟨mem, selected⟩) x eq
  refine ⟨stands, ?_⟩
  by_cases overflow : x.point = overflowPoint
  · have acked : u.alarmOf overflowPoint = .acked := by
      rw [← overflow, v.parts.roster.mirror x stands, own overflow]
      rfl
    refine (v.last.own acked).imp (fun all => all x stands) fun normal => ?_
    rw [overflow]
    exact ⟨v.legal.recordOf_normal normal, normal⟩
  · exact .inl ((v.last.others x overflow).mpr stands)

/-- A record that stands after the action and was not in the roster before has come in meanwhile. -/
theorem State.ActsLast.fresh {y : RosterRecord} (named : ∀ r x, out r = some x → x.point = r.point ∧ x.stamp = r.stamp)
    (mem : y ∈ t.roster) (fresh : ∀ r ∈ s.roster, r.point ≠ y.point ∨ r.stamp ≠ y.stamp) :
    y.state = .alert ∧ y.ackSource = none := by
  have came : ∀ x ∈ u.roster, x.point = y.point → x.stamp = y.stamp →
      x.state = .alert ∧ x.ackSource = none ∧ isGeneral x.point = true := fun x hx point stamp => by
    rcases v.acts.origin x hx with ⟨old, -⟩ | ⟨r, hr, eq⟩ | came
    · exact absurd ⟨point, stamp⟩ (not_and_or.mpr (fresh x old))
    · obtain ⟨point', stamp'⟩ := named r x eq
      exact absurd ⟨point'.symm.trans point, stamp'.symm.trans stamp⟩
        (not_and_or.mpr (fresh r (List.mem_of_mem_filter hr)))
    · exact came
  obtain ⟨x, hx, point, stamp⟩ := v.last.origin y mem
  have other : y.point ≠ overflowPoint := fun own => by
    have general := (came x hx point stamp).2.2
    rw [point, own] at general
    exact absurd general (by decide)
  obtain ⟨state, source, -⟩ := came y ((v.last.others y other).mp mem) rfl rfl
  exact ⟨state, source⟩

end ActsLast

end Sys2Proof.Machine

namespace Sys2Proof.Machine

set_option Elab.async false

/-! ### ACK ALL, ACK GROUP, RESET and RESET ALL (R50 to R53) -/

variable {s t u : State} {p q : PointId} {a : AlarmState} {r : RosterRecord}

theorem State.countOf_eq (s : State) (sel : RosterRecord → Bool) : s.countOf sel = s.roster.countP sel :=
  List.countP_eq_length_filter.symm

theorem State.acknowledgeAll_actsLast (config : s.ConfigLegal) (parts : s.PictureParts) (src : AckSource)
    (sel : RosterRecord → Bool) :
    State.ActsLast s (fun r => r.unacked && sel r) (acknowledged s.cfg src)
      (s.forEachNamed (fun r => r.unacked && sel r) fun p t => t.acknowledgeWith id src p) (s.acknowledgeAll src sel) :=
  (s.actsEach_acknowledge src sel).takeNamed parts (config.internalKind _ (by decide)) fun p u => .acknowledgeWith u src p

theorem State.resetEvery_actsLast (config : s.ConfigLegal) (parts : s.PictureParts) :
    State.ActsLast s (fun r => r.state == .awaitReset) (fun _ => none)
      (s.forEachNamed (fun r => r.state == .awaitReset) fun p t => t.retire id p .normal) s.resetEvery :=
  s.actsEach_reset.takeNamed parts (config.internalKind _ (by decide)) fun p u => .retire u p _

theorem State.ActsLast.reset (v : State.ActsLast s (fun r => r.state == .awaitReset) (fun _ => none) u t)
    (legal : s.PictureParts) (awaits : s.alarmOf p = .awaitReset) :
    (u.alarmOf p = .normal ∧ u.recordOf p = none) ∧ t.alarmOf p = .normal ∧ t.recordOf p = none := by
  obtain ⟨r, mem, rfl⟩ := legal.roster.holders p (by rw [awaits]; rfl)
  have state := legal.roster.state mem rfl (st := .awaitReset) awaits
  obtain ⟨alarm, record, after⟩ := v.retired mem (beq_iff_eq.mpr state) rfl
  exact ⟨⟨alarm, record⟩, after⟩

/-- Settles O25: every record the action finds is taken once, what comes in meanwhile stands in ALERT, and point 63 alone is
touched by the hand-over at the end. -/
theorem ackAllAndGroupTakeStanding : Obligations.AckAllAndGroupTakeStanding := by
  refine ⟨fun s => exec_answers rfl ?_, fun b s range => exec_answers rfl ?_, fun g s => exec_answers rfl ?_,
    fun src sel s config legal _ => ?_⟩
  · show ownAckAll s = _
    rw [ownAckAll, s.countOf_eq]
    rfl
  · show ownAckGroup b s = _
    rw [ownAckGroup, numbered_none range]
    rfl
  · show ownAckGroup (byteOf g.val) s = _
    rw [ownAckGroup, numbered_byteOf (by decide) g]
    dsimp only
    rw [s.countOf_eq]
    rfl
  · intro t
    have parts := legal.parts
    have v := State.acknowledgeAll_actsLast config parts src sel
    have untaken : ∀ r ∈ s.roster, r.unacked = false ∨ sel r = false → (r.unacked && sel r) = false := fun r _ other => by
      rcases other with eq | eq <;> simp [eq]
    have taken : ∀ r : RosterRecord, r.unacked = true → sel r = true → (r.unacked && sel r) = true := fun r unacked selected => by
      rw [unacked, selected]
      rfl
    have own : ∀ r x, acknowledged s.cfg src r = some x → x.point = overflowPoint → x.state = .acked := fun r x eq overflow => by
      obtain ⟨point, -, -, -, state⟩ := acknowledged_eq_some eq
      refine state.resolve_right fun manual => ?_
      rw [← point, overflow, config.internalKind _ (by decide)] at manual
      exact nomatch manual
    have named : ∀ r x, acknowledged s.cfg src r = some x → x.point = r.point ∧ x.stamp = r.stamp := fun r x eq =>
      ⟨(acknowledged_eq_some eq).1, (acknowledged_eq_some eq).2.1⟩
    refine ⟨.acknowledgeAll s src sel, fun r hr unacked selected => ?_, fun r hr other kept => ?_,
      fun y hy fresh => v.fresh named hy fresh, _, v.plain.filter, v.plain.toPictureFrame, v.acts.returned,
      fun r hr other => v.untaken parts hr (untaken r hr other), fun r hr unacked selected => ?_, s.takeNamed_eq _ _⟩
    · cases eq : acknowledged s.cfg src r with
      | none => exact .inr (v.retired hr (taken r unacked selected) eq).2.2.symm
      | some x =>
        obtain ⟨point, stamp, source, acked, -⟩ := acknowledged_eq_some eq
        rcases (v.written hr (taken r unacked selected) eq (own r x eq)).2 with stands | gone
        · exact .inl ⟨x, stands, point, stamp, acked, source⟩
        · exact .inr (point ▸ gone)
    · exact (v.last.others r other).mpr (v.untaken parts hr (untaken r hr kept))
    · intro kept retired
      have keeps : ∀ st, acknowledged s.cfg src r = some { r.acknowledge src with state := st } → kept st := fun st eq =>
        ⟨_, (v.written hr (taken r unacked selected) eq (own r _ eq)).1, rfl, rfl, rfl, rfl⟩
      have retires : acknowledged s.cfg src r = none → retired := fun eq =>
        ⟨(v.retired hr (taken r unacked selected) eq).2.1, (v.retired hr (taken r unacked selected) eq).1⟩
      refine ⟨fun alert kind => keeps .acked (if_pos ⟨alert, kind⟩), fun alert kind => retires ?_,
        fun returned kind => keeps .awaitReset ?_, fun returned kind => retires ?_⟩ <;> simp [acknowledged, *]

/-- Settles O26: RESET ALL takes every record in AWAIT_RESET once, and its hand-over touches point 63 alone. -/
theorem resetsRetireAwaiting : Obligations.ResetsRetireAwaiting := by
  refine ⟨fun b s range => exec_answers rfl ?_, fun p s other => exec_answers rfl ?_, fun p s awaits => exec_answers rfl ?_,
    fun s => ⟨s.resetEvery, exec_answers rfl ?_, .resetEvery s, fun config legal => ?_⟩⟩
  · show ownReset b s = _
    rw [ownReset, pointOf_none range]
    rfl
  · show ownReset (byteOf p.val) s = _
    rw [ownReset, pointOf_byteOf]
    exact if_neg other
  · show ownReset (byteOf p.val) s = _
    rw [ownReset, pointOf_byteOf]
    exact if_pos awaits
  · show ownResetAll s = _
    rw [ownResetAll, s.countOf_eq]
    rfl
  · have parts := legal.parts
    have v := State.resetEvery_actsLast config parts
    have untaken : ∀ r ∈ s.roster, r.state ≠ .awaitReset → _ := fun r hr other =>
      v.untaken parts hr (beq_eq_false_iff_ne.mpr other)
    refine ⟨fun p awaits => (v.reset parts awaits).2, fun r hr other kept => (v.last.others r other).mpr (untaken r hr kept),
      _, v.plain.filter, v.plain.toPictureFrame, v.acts.returned, untaken,
      fun p awaits => (v.reset parts awaits).1, s.takeNamed_eq _ _⟩

end Sys2Proof.Machine

namespace Sys2Proof.Machine

set_option Elab.async false

/-! ### SHELVE (R54, R95 to R97) -/

variable {s t : State} {p : PointId} {m : Half}

/-- The first entry of a point stands behind those of the others. -/
theorem findIdx_entry {l₁ : List ShelveEntry} (others : ∀ e ∈ l₁, e.point ≠ p) (n : Nat) (l₂ : List ShelveEntry) :
    (l₁ ++ ⟨p, n⟩ :: l₂).findIdx (fun e => e.point == p) = l₁.length := by
  induction l₁ with
  | nil => simp [List.findIdx_cons]
  | cons e l ih =>
    obtain ⟨first, rest⟩ := List.forall_mem_cons.mp others
    simp [List.findIdx_cons, beq_false_of_ne first, ih rest]

/-- A legal duration in whole seconds (R95). -/
theorem secondsLeft_shelveTime (m : Half) : secondsLeft (shelveTime m) = m.toNat * 60 := by
  simp only [secondsLeft, roundedUp, shelveTime, Config.refclkPerSecond, Config.shelveUnit]
  omega

/-- Where a point's entry goes, and what SHELVE answers of it (R95, R96, R181). -/
theorem State.putShelve_placed (s : State) (p : PointId) (m : Half) : ∃ (l₁ l₂ : List ShelveEntry) (h l : Byte),
    s.shelves.filter (fun e => e.point ≠ p) = l₁ ++ l₂ ∧
    s.putShelve p m = { s with shelves := l₁ ++ ⟨p, m.toNat * 240000000⟩ :: l₂ } ∧
    (∀ left st, (s.putShelve p m).shelvePayload p left st m = left.code :: stampBytes st ++ [byteOf l₁.length, h, l]) ∧
    halfFrom h l = BitVec.ofNat 16 (m.toNat * 60) ∧
    (∀ e ∈ l₁, e.timeLeft ≤ m.toNat * 240000000) ∧ ∀ e ∈ l₂.head?, m.toNat * 240000000 < e.timeLeft := by
  obtain ⟨split, before, after⟩ := placed_split ShelveEntry.timeLeft (shelveTime m) (s.shelves.filter fun e => e.point ≠ p)
  have others := fun e he => of_decide_eq_true (List.mem_filter.mp (split ▸ List.mem_append_left _ he : e ∈ s.shelves.filter _)).2
  have put : s.putShelve p m = { s with shelves := insertShelve ⟨p, shelveTime m⟩ (s.shelves.filter fun e => e.point ≠ p) } := by
    rw [State.putShelve, s.withoutShelve_eq]
  refine ⟨_, _, _, _, split, put, fun left st => ?_, halfFrom_bytes _, before, after⟩
  rw [State.shelvePayload, put, secondsLeft_shelveTime]
  show _ ++ [byteOf (List.findIdx _ (insertShelve _ _))] ++ _ = _
  rw [insertShelve, findIdx_entry others, List.append_assoc]
  rfl

/-- A SHELVED point's entry is put in its new place. -/
theorem ownShelve_renews (general : p.val < 62) (range : 1 ≤ m.toNat ∧ m.toNat ≤ 480) (shelved : s.alarmOf p = .shelved) :
    ownShelve (byteOf p.val) m s = (s.putShelve p m).replyOk ((s.putShelve p m).shelvePayload p .shelved 0 m) := by
  have external : isInternal p = false := decide_eq_false (Nat.not_le.mpr general)
  rw [ownShelve, pointOf_byteOf]
  simp [range, external, shelved]

/-- A general point that is neither SHELVED nor out of service leaves the alarm picture where a shelve place is free. -/
theorem ownShelve_leaves (general : p.val < 62) (range : 1 ≤ m.toNat ∧ m.toNat ≤ 480) (inService : s.alarmOf p ≠ .outOfService)
    (free : s.alarmOf p ≠ .shelved) (places : s.shelves.length < 8) :
    ownShelve (byteOf p.val) m s = ((s.putShelve p m).leavePicture p .shelved).replyOk
      ((s.putShelve p m).shelvePayload p (s.alarmOf p) (s.stampOf p) m) := by
  have external : isInternal p = false := decide_eq_false (Nat.not_le.mpr general)
  rw [ownShelve, pointOf_byteOf]
  simp [range, external, inService, free, Nat.not_le.mpr places]

/-- A general point that leaves the alarm picture for SHELVED is touched no more after it has taken that state (R54). -/
theorem State.leavePicture_shelved (s : State) (general : p.val < 62) (quiet : s.alarmOf p ≠ .deferred → p ∉ s.deferred) :
    (s.leavePicture p .shelved).alarmOf p = .shelved ∧ (s.leavePicture p .shelved).filterOf p = s.filterOf p := by
  have overflow : overflowPoint ≠ p := by
    rintro rfl
    exact absurd general (by decide)
  have touches : State.Touches (· ≠ p) (s.setAlarm p .shelved) (s.leavePicture p .shelved) := by
    by_cases deferred : s.alarmOf p = .deferred
    · rw [State.leavePicture, deferred]
      exact .leaveDeferred_after (fun u => .handOverflow u overflow) s p _
    · exact .leavePicture_after s p _ overflow fun _ q hq eq => quiet deferred (eq ▸ hq)
  refine ⟨(touches.alarm p (by simp)).trans ?_, touches.filter p (by simp)⟩
  rw [State.alarmOf_setAlarm, if_pos rfl]

/-- Settles O33: the entry's place is that of its time left, and a point that leaves the alarm picture takes no state but
SHELVED. -/
theorem shelveTakesPointOut : Obligations.ShelveTakesPointOut := by
  intro m s
  refine ⟨fun b range => exec_answers rfl ?_, fun p low high => ⟨fun refused => exec_answers rfl ?_,
    fun general inService free places => exec_answers rfl ?_, fun general shelved => ?_,
    fun config legal general inService free places => ?_⟩⟩
  · show ownShelve b m s = _
    rw [ownShelve]
    rcases range with outside | range
    · rw [pointOf_none outside]
      rfl
    · cases pointOf b with
      | none => rfl
      | some p => exact if_pos (by omega)
  · show ownShelve (byteOf p.val) m s = _
    rw [ownShelve, pointOf_byteOf]
    have internal : isInternal p = true ↔ 62 ≤ p.val := decide_eq_true_iff
    rcases refused with refused | out
    · simp [low, high, internal.mpr refused, State.refuse]
    · simp [low, high, out, State.refuse]
  · show ownShelve (byteOf p.val) m s = _
    rw [ownShelve, pointOf_byteOf]
    have external : isInternal p = false := decide_eq_false (Nat.not_le.mpr general)
    simp [low, high, external, inService, free, places, State.refuse]
  · obtain ⟨l₁, l₂, h, l, split, put, payload, half, before, after⟩ := s.putShelve_placed p m
    refine ⟨l₁, l₂, h, l, split, exec_answers rfl ((ownShelve_renews general ⟨low, high⟩ shelved).trans ?_), half, before,
      after⟩
    rw [payload, put]
    rfl
  · obtain ⟨l₁, l₂, h, l, split, put, payload, half, before, after⟩ := s.putShelve_placed p m
    have parts : ((s.putShelve p m).leavePicture p .shelved).PictureParts := by
      have whole := legal.parts.ownShelve (byteOf p.val) m
      rwa [ownShelve_leaves general ⟨low, high⟩ inService free places] at whole
    have frame := State.PictureFrame.leavePicture (s.putShelve p m) p .shelved
    obtain ⟨alarm, filter⟩ := (s.putShelve p m).leavePicture_shelved general fun here deferred =>
      here ((legal.parts.deferred.mem p).mp deferred)
    have absent : ∀ e ∈ s.shelves, e.point ≠ p := fun e he eq => free ((legal.parts.shelves.mem p).mp ⟨e, he, eq⟩)
    refine ⟨(s.putShelve p m).leavePicture p .shelved, l₁, l₂, h, l,
      exec_answers rfl ((ownShelve_leaves general ⟨low, high⟩ inService free places).trans ?_), ?_, ?_, half, before, after,
      alarm, ?_, ?_, filter, frame.config, frame.service⟩
    · rw [payload]
      rfl
    · rw [← split]
      exact (List.filter_eq_self.mpr fun e he => decide_eq_true (absent e he)).symm
    · rw [frame.shelves, put]
    · have record := parts.toPictureCore.recordOf_isSome (p := p)
      rw [alarm] at record
      exact Option.not_isSome_iff_eq_none.mp (Bool.eq_false_iff.mp record)
    · rw [parts.deferred.mem p, alarm]
      decide

end Sys2Proof.Machine

namespace Sys2Proof.Machine

set_option Elab.async false

/-! ### RESTART with nothing standing (R57, R65, R193) -/

variable {s : State} {p : PointId}

/-- A raw change to the condition a point has already changes nothing (R31). -/
theorem State.takeRawWith_same (ovf : State → State) {v : Bool} (same : (s.filterOf p).raw = v) :
    s.takeRawWith ovf p v = s :=
  if_pos (.inr same)

/-- A point at the start of its qualification takes nothing from a source that gives no condition (R33). -/
theorem State.takeSource_quiet (start : s.filterOf p = .start) (faulted : s.faulted = []) (deferred : s.deferred = [])
    (line : ∀ n, (s.cfg p).source = .line n → (s.lines[n]).classification = .inactive) : s.takeSource p = s := by
  unfold State.takeSource
  cases source : (s.cfg p).source with
  | line n =>
    have unfrozen : s.setFilter p { s.filterOf p with frozen := false } = s := by
      have kept : { s.filterOf p with frozen := false } = s.filterOf p := by rw [start]; rfl
      rw [kept, s.setFilter_self]
    dsimp only
    rw [line n source, State.takeLine, if_neg (show ¬(_ ∧ Classification.inactive.isFault = true) from fun h => nomatch h.2),
      unfrozen]
    exact (congrArg _ (s.takeRawWith_same _ (by rw [start]; rfl))).trans (ite_self s)
  | host => exact s.takeRawWith_same _ (by rw [start]; rfl)
  | internal =>
    dsimp only
    split
    · rename_i own
      exact s.takeRawWith_same _ (by rw [← own, start, faulted]; rfl)
    · split
      · rename_i own
        exact s.takeRawWith_same _ (by rw [← own, start, deferred]; rfl)
      · rfl

/-- With no condition standing no point takes anything, and RESTART ends where it began to take the points. -/
theorem State.restartAll_quiet (faulted : s.faulted = [])
    (line : ∀ p n, s.inService p = true → (s.cfg p).source = .line n → (s.lines[n]).classification = .inactive) :
    s.restartAll = s.restarted :=
  List.foldlRecOn (motive := (· = s.restarted)) _ _ rfl fun u eq p mem => by
    have service : s.inService p = true := State.mem_pointsInService.mp (mem_arrange.mp mem)
    rw [eq]
    exact State.takeSource_quiet (s.restarted_filterOf p) faulted rfl fun n => line p n service

/-- Settles O6: no point takes a condition, so that the picture stays as emptied. -/
theorem restartEmptiesPicture : Obligations.RestartEmptiesPicture := by
  intro s faulted line
  have answers : exec .restart s = .next (s.restartAll.answered .restart (.okWith [])) := exec_answers rfl rfl
  rw [State.restartAll_quiet faulted line] at answers
  refine ⟨_, answers, rfl, rfl, rfl, rfl, fun p service => (s.restarted_alarmOf p).1 service, fun g => ?_,
    fun c => by cases c <;> rfl, s.restarted_flag⟩
  simp [State.answered, State.restarted, State.restartBlocks]

end Sys2Proof.Machine

namespace Sys2Proof.Machine

set_option Elab.async false

/-! ## No command touches the queue -/

variable {s t : State}

/-! ### Lines and service (chapters 1 and 2) -/

theorem State.rederiveFaulted_pending (s : State) : s.rederiveFaulted.pending = s.pending := by
  unfold State.rederiveFaulted
  dsimp only
  split <;> rfl

theorem State.linesChanged_pending (s : State) (ns : List LineId) : (s.linesChanged ns).pending = s.pending :=
  (s.linesChanged_frame ns).pending.trans s.rederiveFaulted_pending

theorem State.serviceChanged_pending (s : State) (p : PointId) : (s.serviceChanged p).pending = s.pending := by
  unfold State.serviceChanged
  split
  · exact (State.PictureFrame.takeRaw _ _ _).pending.trans s.rederiveFaulted_pending
  · rfl
  · rfl

theorem State.bringIn_pending (s : State) (p : PointId) : (s.bringIn p).pending = s.pending :=
  (State.serviceChanged_pending _ p).trans (State.PictureFrame.takeSource (s.entered p) p).pending

theorem State.takeOut_pending (s : State) (p : PointId) : (s.takeOut p).pending = s.pending :=
  (State.serviceChanged_pending _ p).trans (State.PictureFrame.leavePicture (s.withdrawn p) p .outOfService).pending

theorem State.sampleLine_pending (s : State) (n : LineId) (level : Byte) : (s.sampleLine n level).pending = s.pending := by
  unfold State.sampleLine
  dsimp only
  split
  · exact State.linesChanged_pending _ _
  · rfl

theorem State.expireOnDelay_pending (s : State) (p : PointId) : (s.expireOnDelay p).pending = s.pending := by
  unfold State.expireOnDelay
  dsimp only
  split
  · exact (State.PictureFrame.rise _ p).pending
  · rfl

theorem State.expireOffDelay_pending (s : State) (p : PointId) : (s.expireOffDelay p).pending = s.pending := by
  unfold State.expireOffDelay
  dsimp only
  split
  · exact (State.PictureFrame.fall _ p).pending
  · rfl

theorem State.hostCondition_pending (s : State) (b : Byte) (v : Bool) : (s.hostCondition b v).1.pending = s.pending := by
  unfold State.hostCondition
  split
  · rfl
  · split
    · rfl
    · split
      · rfl
      · exact (State.PictureFrame.takeRaw _ _ _).pending

/-! ### Shelves and groups (chapters 5 and 6) -/

theorem State.unshelvePoint_pending (s : State) (p : PointId) : (s.unshelvePoint p).pending = s.pending :=
  (State.PictureFrame.endShelve { s with shelves := s.withoutShelve p } p).pending

theorem State.expireShelve_pending (s : State) (p : PointId) : (s.expireShelve p).pending = s.pending := by
  unfold State.expireShelve
  split
  · exact s.unshelvePoint_pending p
  · rfl

theorem State.ownShelve_pending (s : State) (b : Byte) (m : Half) : (ownShelve b m s).1.pending = s.pending := by
  unfold ownShelve
  split
  · rfl
  · rename_i p _
    have leaves := (State.PictureFrame.leavePicture (s.putShelve p m) p .shelved).pending
    split_ifs <;> first | rfl | exact leaves

/-! ### The panel and its tests (chapter 7) -/

theorem State.setTests_pending (s : State) (panel host : Option Nat) : (s.setTests panel host).pending = s.pending := by
  unfold State.setTests
  dsimp only
  split
  · rfl
  · split
    · exact (((State.SoundFrame.renewTestOn _ .a).trans (.renewTestOn _ .b)).trans (.compareSince _ s)).pending_eq
    · exact (State.SoundFrame.compareChannels _).pending_eq

theorem State.press_pending (s : State) (k : Key) : (s.press k).pending = s.pending := by
  unfold State.press
  split
  · cases k with
    | kack => exact (State.PictureFrame.acknowledgeAll s .panel _).pending
    | ksil => exact (State.PictureFrame.silenceAll s).pending
    | krst => exact (State.PictureFrame.resetEvery s).pending
    | ktst => exact s.setTests_pending _ _
  · rfl

theorem State.expireDebounce_pending (s : State) (k : Key) : (s.expireDebounce k).pending = s.pending := by
  unfold State.expireDebounce
  dsimp only
  split
  · rfl
  · split
    · unfold State.release
      split
      · exact State.setTests_pending _ _ _
      · rfl
    · exact State.press_pending _ k

/-! ### Cues, channels and the link (chapters 8 to 10) -/

theorem State.expireEdit_pending (s : State) : s.expireEdit.pending = s.pending := by
  unfold State.expireEdit
  split
  · split <;> rfl
  · rfl

theorem State.endCheck_pending (s : State) : s.endCheck.pending = s.pending := by
  unfold State.endCheck
  split
  · split
    · split
      · exact ((State.SoundFrame.noticeReplacement _ s _ .a).trans (.noticeReplacement _ s _ .b)).pending_eq
      · rfl
    · rfl
  · rfl

theorem State.changeSettings_pending (s : State) (c : Chan) (v : Bool) (w : SwitchPolicy) :
    (s.changeSettings c v w).pending = s.pending := by
  unfold State.changeSettings
  dsimp only
  split
  · exact (State.SoundFrame.compareChannel _ c).pending_eq
  · unfold State.stopChannel
    split
    · exact (State.SoundFrame.goIdle _ c).pending_eq
    · rfl

theorem State.endStep_pending (s : State) (c : Chan) : (s.endStep c).pending = s.pending := by
  rcases s.endStep_sound c with sound | ⟨o, sound⟩
  · exact sound.pending_eq
  · refine sound.pending_eq.trans ?_
    cases o <;> rfl

theorem State.noteLinkFault_pending (s : State) (v : Bool) : (s.noteLinkFault v).pending = s.pending := by
  unfold State.noteLinkFault
  split <;> rfl

theorem State.expireLink_pending (s : State) : s.expireLink.pending = s.pending := by
  unfold State.expireLink
  split <;> rfl

theorem State.restartAll_pending (s : State) : s.restartAll.pending = s.pending :=
  s.kept_restartAll.1.pending

/-! ### Every command -/

theorem State.writeEnables_pending (s : State) (e : PerKey Bool) : (s.writeEnables e).pending = s.pending := by
  unfold State.writeEnables
  dsimp only
  split
  · rfl
  · exact State.setTests_pending _ _ _

theorem ownerTakes_apart_pending (c : Instr) (s : State) (apart : isApart c = true) :
    (ownerTakes c s).1.pending = s.pending := by
  cases c
  case writePanel a b c d =>
    show (ownWritePanel a b c d s).1.pending = _
    unfold ownWritePanel
    split
    · exact s.writeEnables_pending _
    · rfl
  case lampTest n =>
    show (ownLampTest n s).1.pending = _
    unfold ownLampTest
    split
    · rfl
    · exact s.setTests_pending _ _
  case beginEdit q =>
    show (ownBeginEdit q s).1.pending = _
    unfold ownBeginEdit
    split
    · rfl
    · split <;> rfl
  case writeCueHeader h =>
    show (ownWriteCueHeader h s).1.pending = _
    unfold ownWriteCueHeader
    split
    · rfl
    · split <;> rfl
  case writeSteps o l =>
    show (ownWriteSteps o l s).1.pending = _
    unfold ownWriteSteps
    split
    · rfl
    · split <;> rfl
  case commit =>
    show (ownCommit s).1.pending = _
    unfold ownCommit
    split <;> rfl
  case abortEdit =>
    show (ownAbortEdit s).1.pending = _
    unfold ownAbortEdit
    split <;> rfl
  case eraseCue q =>
    show (ownEraseCue q s).1.pending = _
    unfold ownEraseCue
    split
    · rfl
    · split
      · rfl
      · split
        · exact (State.SoundFrame.compareSince _ s).pending_eq
        · rfl
  case writeChannel c e w =>
    show (ownWriteChannel c e w s).1.pending = _
    unfold ownWriteChannel
    split
    · split
      · rfl
      · exact s.changeSettings_pending _ _ _
    · rfl
  case clearEvents f =>
    show (ownClearEvents f s).1.pending = _
    unfold ownClearEvents
    split <;> rfl
  case writeEventMask m =>
    show (ownWriteEventMask m s).1.pending = _
    unfold ownWriteEventMask
    split <;> rfl
  all_goals exact absurd apart Bool.false_ne_true

theorem ownerTakes_pending (c : Instr) (s : State) : (ownerTakes c s).1.pending = s.pending := by
  by_cases read : isRead c = true
  · rw [ownerTakes_read c s read]
  by_cases apart : isApart c = true
  · exact ownerTakes_apart_pending c s apart
  cases c
  case writePoint b rec =>
    show (ownWritePoint b rec s).1.pending = _
    unfold ownWritePoint
    split
    · rfl
    · split
      · rfl
      · split
        · rfl
        · split <;> rfl
  case setServiceIn b =>
    show (ownSetServiceIn b s).1.pending = _
    unfold ownSetServiceIn
    split
    · rfl
    · split
      · rfl
      · exact s.bringIn_pending _
  case setServiceOut b =>
    show (ownSetServiceOut b s).1.pending = _
    unfold ownSetServiceOut
    split
    · rfl
    · split
      · exact s.takeOut_pending _
      · rfl
  case writeClass n i =>
    show (ownWriteClass n i s).1.pending = _
    unfold ownWriteClass
    split
    · rfl
    · split <;> rfl
  case writeLine n m q k =>
    show (ownWriteLine n m q k s).1.pending = _
    unfold ownWriteLine
    split
    · dsimp only
      split
      · rfl
      · exact State.linesChanged_pending _ _
    · rfl
  case writeThresholds k x a o =>
    show (ownWriteThresholds k x a o s).1.pending = _
    unfold ownWriteThresholds
    split
    · rfl
    · split
      · rfl
      · split
        · rfl
        · exact State.linesChanged_pending _ _
  case assertPoint b => exact s.hostCondition_pending b true
  case releasePoint b => exact s.hostCondition_pending b false
  case ack b e st =>
    show (ownAck b e st s).1.pending = _
    unfold ownAck
    split
    · split
      · split <;> rfl
      · split
        · rfl
        · split
          · exact (State.PictureFrame.acknowledge s .host _).pending
          · rfl
    · rfl
  case ackGroup g =>
    show (ownAckGroup g s).1.pending = _
    unfold ownAckGroup
    split
    · rfl
    · exact (State.PictureFrame.acknowledgeAll s .host _).pending
  case ackAll => exact (State.PictureFrame.acknowledgeAll s .host _).pending
  case reset b =>
    show (ownReset b s).1.pending = _
    unfold ownReset
    split
    · rfl
    · split
      · exact (State.PictureFrame.retire State.PictureFrame.handOverflow s _ _).pending
      · rfl
  case resetAll => exact (State.PictureFrame.resetEvery s).pending
  case writeGroup g v =>
    show (ownWriteGroup g v s).1.pending = _
    unfold ownWriteGroup
    split
    · split
      · rfl
      · split
        · rfl
        · exact (State.PictureFrame.emptySlot s _).pending
    · rfl
  case clearFirstOut g =>
    show (ownClearFirstOut g s).1.pending = _
    unfold ownClearFirstOut
    split
    · rfl
    · have emptied := (State.PictureFrame.emptySlot s ‹_›).pending
      show ((s.emptySlot _).armIfQuiet _).pending = _
      unfold State.armIfQuiet
      split <;> exact emptied
  case shelve b m => exact s.ownShelve_pending b m
  case unshelve b =>
    show (ownUnshelve b s).1.pending = _
    unfold ownUnshelve
    split
    · rfl
    · split
      · exact s.unshelvePoint_pending _
      · rfl
  case silence => exact (State.PictureFrame.silenceAll s).pending
  case writeTones n l =>
    show (ownWriteTones n l s).1.pending = _
    unfold ownWriteTones
    split
    · rfl
    · split <;> rfl
  case restart => exact s.restartAll_pending
  all_goals first | exact absurd rfl read | exact absurd rfl apart | rfl

/-- A completion takes the command that its owner takes, or only writes the link and the answer. -/
theorem execCommandCompletion_pending (marked : Bool) (run : exec (.commandCompletion marked) s = .next t) :
    t.pending = s.pending := by
  obtain rfl := Host.Outcome.next.inj run
  split
  · unfold State.completeMarked
    split
    · rfl
    · split
      · exact ownerTakes_pending _ s
      · rfl
      · rfl
  · unfold State.completeInFlight
    split
    · rfl
    · split
      · rfl
      · split <;> rfl
      · dsimp only
        split <;> exact ownerTakes_pending _ s

/-- Every command leaves the queue alone. -/
theorem exec_pending (c : Instr) (run : exec c s = .next t) : t.pending = s.pending := by
  by_cases host : isHostCommand c = true
  · rw [exec_host c s host] at run
    exact Host.Outcome.next.inj run ▸ ownerTakes_pending c s
  cases c
  case commandCompletion marked => exact execCommandCompletion_pending marked run
  all_goals first | exact absurd rfl host | obtain rfl := Host.Outcome.next.inj run
  case lineSample n level => exact s.sampleLine_pending n level
  case onDelayExpiry p => exact s.expireOnDelay_pending p
  case offDelayExpiry p => exact s.expireOffDelay_pending p
  case shelveExpiry p => exact s.expireShelve_pending p
  case reannounceExpiry p st => exact (State.PictureFrame.expireReannounce s p st).pending
  case debounceExpiry k => exact s.expireDebounce_pending k
  case panelTestExpiry => exact s.setTests_pending _ _
  case hostTestExpiry => exact s.setTests_pending _ _
  case stepEnd c => exact s.endStep_pending c
  case editIdleTimeout => exact s.expireEdit_pending
  case commitCheckEnd => exact s.endCheck_pending
  case selnRise => exact State.noteLinkFault_pending _ _
  case linkReset => exact s.expireLink_pending
  case selnFall => split <;> rfl
  case collect => split <;> rfl
  case byteCompletion b => split <;> rfl
  case requestFrameEnd =>
    split
    · split
      · exact State.noteLinkFault_pending _ _
      · rfl
    · rfl
  all_goals rfl

end Sys2Proof.Machine

namespace Sys2Proof.Machine

set_option Elab.async false

/-! ## The idle step (R28, R32, R64, R99, R107, R121, R139, R154, R178) -/

variable {s t u : State} {p : PointId} {d : Due}

/-! ### The timers at zero -/

theorem State.dueShelve_eq_some : u.dueShelve = some p ↔ ∃ e, u.shelves.head? = some e ∧ e.timeLeft = 0 ∧ e.point = p := by
  unfold State.dueShelve
  cases u.shelves with
  | nil => simp
  | cons e l =>
    dsimp only
    split <;> simp [*]

theorem State.isDue_shelve : u.isDue .shelve = true ↔ ∃ e, u.shelves.head? = some e ∧ e.timeLeft = 0 := by
  show u.dueShelve.isSome = true ↔ _
  simp [Option.isSome_iff_exists, State.dueShelve_eq_some]

/-- A record's timer at zero belongs to a record of the roster. -/
theorem State.mem_roster_of_any {f : RosterRecord → Bool} (any : (u.recordOf p).any f = true) :
    ∃ r ∈ u.roster, r.point = p ∧ f r = true := by
  obtain ⟨r, record, holds⟩ := (Option.any_eq_true _ _).mp any
  exact ⟨r, List.mem_of_find?_eq_some record, by simpa using List.find?_some record, holds⟩

/-- A timer that stands at zero is one of the part's timers. -/
theorem State.mem_timers (due : u.isDue d = true) : d ∈ u.timers := by
  unfold State.timers
  simp only [List.mem_append]
  cases d with
  | onDelay p => simp [allPoints]
  | offDelay p => simp [allPoints]
  | shelve =>
    obtain ⟨e, head, zero⟩ := State.isDue_shelve.mp due
    have listed : Due.shelve ∈ u.shelvesDue :=
      List.mem_map.mpr ⟨e, List.mem_filter.mpr ⟨List.mem_of_mem_head? head, beq_iff_eq.mpr zero⟩, rfl⟩
    simp [listed]
  | reannounce p st =>
    obtain ⟨r, mem, rfl, holds⟩ := State.mem_roster_of_any due
    obtain ⟨stamp, -⟩ := (Bool.and_eq_true _ _).mp holds
    have listed : Due.reannounce r.point st ∈ u.roster.map fun r => .reannounce r.point r.stamp :=
      List.mem_map.mpr ⟨r, mem, by rw [beq_iff_eq.mp stamp]⟩
    simp [listed]
  | age p =>
    obtain ⟨r, mem, rfl, -⟩ := State.mem_roster_of_any due
    have listed : Due.age r.point ∈ u.roster.map fun r => .age r.point := List.mem_map.mpr ⟨r, mem, rfl⟩
    simp [listed]
  | debounce k => cases k <;> simp
  | panelTest => simp
  | hostTest => simp
  | stepEnd c => cases c <;> simp
  | editIdle => simp
  | linkReset => simp

theorem State.mem_dueNow : d ∈ u.dueNow ↔ u.isDue d = true :=
  ⟨fun mem => (List.mem_filter.mp mem).2, fun due => List.mem_filter.mpr ⟨State.mem_timers due, due⟩⟩

/-- A due expiry is taken as the row of its command gives it. -/
theorem exec_eq_takeDue {c : Instr} (row : exec c u = .next (u.expire d)) (due : u.isDue d = true) :
    exec c u = .next (u.takeDue d) := by
  rw [row, State.takeDue, if_pos due]

theorem State.expire_shelve {e : ShelveEntry} (head : u.shelves.head? = some e) (zero : e.timeLeft = 0) :
    u.expire .shelve = u.expireShelve e.point := by
  unfold State.expire
  rw [State.dueShelve_eq_some.mpr ⟨e, head, zero, rfl⟩]

theorem step_idle (idle : s.pending = []) : step s = .next s.tick := by
  rw [step, idle]

/-! ### The obligation -/

/-- Settles O2: every command's claim leaves the queue alone, and an idle step takes the due timers in a free order. -/
theorem commandsCompleteAndIdleStepCounts : Obligations.CommandsCompleteAndIdleStepCounts := by
  refine ⟨fun c s => ?_, fun s idle => ?_, fun d u due => if_neg (by rw [due]; exact Bool.false_ne_true), fun p u => ?_,
    fun u => ?_⟩
  · obtain ⟨t, run⟩ := exec_next c s
    exact ⟨t, run, exec_pending c run⟩
  · exact ⟨fun d => State.mem_dueNow, arrange s.freeCount s.countAll.dueNow, arrange_perm _ _, step_idle idle⟩
  · refine ⟨?_, exec_eq_takeDue rfl, ?_, exec_eq_takeDue rfl, ?_, exec_eq_takeDue rfl, fun st => ⟨?_, exec_eq_takeDue rfl⟩⟩ <;>
      simp [State.isDue, Option.any_eq_true]
  · refine ⟨State.isDue_shelve, fun e head zero => ?_, fun k => ⟨?_, exec_eq_takeDue rfl⟩, ?_, exec_eq_takeDue rfl, ?_,
      exec_eq_takeDue rfl, fun c => ⟨?_, exec_eq_takeDue rfl⟩, ?_, exec_eq_takeDue rfl, ?_, exec_eq_takeDue rfl⟩
    · exact exec_eq_takeDue (congrArg _ (State.expire_shelve head zero).symm) (State.isDue_shelve.mpr ⟨e, head, zero⟩)
    all_goals simp [State.isDue, Option.any_eq_true]

end Sys2Proof.Machine

namespace Sys2Proof.Machine

/-! ## Stamps (R66) -/

/-- The counter goes up by one, and from its largest value to 1. -/
theorem Stamp.next_eq (st : Stamp) : st.next = if st = 0xFFFFFFFF then 1 else st + 1 := by
  have wraps : st + 1 = 0 ↔ st = 0xFFFFFFFF := by constructor <;> intro h <;> bv_omega
  simp only [Stamp.next, wraps]

/-- The search for the next stamp counts on from the counter, past values that are all held. -/
theorem State.nextStamp_eq_iterate (s : State) :
    ∃ n ≤ s.roster.length, s.nextStamp = Stamp.next^[n] s.stampCounter ∧
      ∀ m < n, ∃ r ∈ s.roster, r.stamp = Stamp.next^[m] s.stampCounter := by
  obtain ⟨n, le, eq, passed, -⟩ := s.freeStamp_eq s.roster.length s.stampCounter
  exact ⟨n, le, eq, fun m hm => List.mem_map.mp ((s.stampHeld_iff _).mp (passed m hm))⟩

/-- Settles O22: the search ends on a free value, since it looks at more values than records stand. -/
theorem nextStampIsFree : Obligations.NextStampIsFree := by
  intro s few counter
  obtain ⟨n, le, eq, passed⟩ := s.nextStamp_eq_iterate
  have free : ∀ r ∈ s.roster, r.stamp ≠ s.nextStamp := fun r hr held =>
    s.nextStamp_free counter (by omega) (held ▸ List.mem_map_of_mem hr)
  refine ⟨s.nextStamp_ne_zero counter, free, fun unheld => ?_, Stamp.next_ne_zero _, Stamp.next_eq, n, le, eq, passed⟩
  cases n with
  | zero => exact eq
  | succ n =>
    obtain ⟨r, hr, held⟩ := passed 0 n.succ_pos
    exact absurd held (unheld r hr)

end Sys2Proof.Machine

namespace Sys2Proof.Machine

/-! ## Reads of the roster and of the lists (R76 to R80, R101) -/

variable {s : State} {p : PointId} {r : RosterRecord}

/-- A time in whole seconds, rounded up (R95, R106). -/
theorem secondsLeft_eq (t : Nat) : secondsLeft t = (t + 3999999) / 4000000 := by
  rw [secondsLeft, roundedUp, Config.refclkPerSecond, Nat.add_sub_assoc (by decide)]

/-- A count is sent in two bytes, from which it reads back (R182). -/
theorem halfOf_reads (n : Nat) : ∃ h l : Byte, halfOf n = [h, l] ∧ halfFrom h l = BitVec.ofNat 16 n :=
  ⟨_, _, rfl, halfFrom_bytes _⟩

/-- A stamp is sent in four bytes, from which it reads back (R182). -/
theorem stampBytes_reads (st : Stamp) :
    ∃ b₃ b₂ b₁ b₀ : Byte, stampBytes st = [b₃, b₂, b₁, b₀] ∧ stampFrom b₃ b₂ b₁ b₀ = st :=
  ⟨_, _, _, _, rfl, stampFrom_bytes st⟩

/-- The record at a position is the one that its point's position names. -/
theorem State.positionOf_eq {i : Nat} (points : (s.roster.map RosterRecord.point).Nodup) (there : s.roster[i]? = some r) :
    s.positionOf r.point = i := by
  obtain ⟨bound, rfl⟩ := List.getElem?_eq_some_iff.mp there
  refine (List.findIdx_eq bound).mpr ⟨beq_self_eq_true _, fun j before => beq_eq_false_iff_ne.mpr fun same => ?_⟩
  have once := (points.getElem_inj_iff (i := j) (j := i) (hi := by simp; omega) (hj := by simpa using bound)).mp
    (by simpa using same)
  omega

theorem State.recordOf_getElem? {i : Nat} (points : (s.roster.map RosterRecord.point).Nodup)
    (there : s.roster[i]? = some r) : s.recordOf r.point = some r :=
  (State.recordOf_eq_some points).mpr ⟨List.mem_of_getElem? there, rfl⟩

/-- The first record that meets a test is the one with none before it that does. -/
theorem find?_eq_getElem? {α : Type} {l : List α} {test : α → Bool} {i : Nat} {x : α} (there : l[i]? = some x)
    (meets : test x = true) (before : ∀ y ∈ l.take i, test y = false) : l.find? test = some x := by
  obtain ⟨bound, rfl⟩ := List.getElem?_eq_some_iff.mp there
  refine List.find?_eq_some_iff_getElem.mpr ⟨meets, i, bound, rfl, fun j hj => ?_⟩
  have earlier : l[j] ∈ l.take i := List.mem_take_iff_getElem.mpr ⟨j, by omega, rfl⟩
  rw [before _ earlier]
  rfl

theorem ownReadRecord_absent (absent : s.recordOf p = none) : ownReadRecord (byteOf p.val) s = s.refuse .state := by
  simp only [ownReadRecord, pointOf_byteOf, absent]

theorem ownReadRecord_standing (record : s.recordOf p = some r) :
    ownReadRecord (byteOf p.val) s = s.replyOk (byteOf (s.positionOf p) :: r.encode) := by
  simp only [ownReadRecord, pointOf_byteOf, record]

theorem ownFirstUnacked_none (acked : ∀ x ∈ s.roster, x.unacked = false) : ownFirstUnacked s = s.replyOk [0] := by
  have found : s.roster.find? RosterRecord.unacked = none :=
    List.find?_eq_none.mpr fun x hx => by rw [acked x hx]; exact Bool.false_ne_true
  simp only [ownFirstUnacked, found]

theorem ownFirstUnacked_some (found : s.roster.find? RosterRecord.unacked = some r) :
    ownFirstUnacked s = s.replyOk (1 :: byteOf (s.positionOf r.point) :: r.encode) := by
  simp only [ownFirstUnacked, found]

/-- The thirteen bytes of a record (R186), with the numbers that read back from them. -/
theorem RosterRecord.encode_reads (r : RosterRecord) : ∃ b₃ b₂ b₁ b₀ h₁ l₁ h₂ l₂ : Byte,
    r.encode = [byteOf r.point.val, b₃, b₂, b₁, b₀, r.state.toAlarm.code,
      byteOf (r.firstOut.toNat + 2 * r.silenced.toNat + 4 * r.sounded.toNat), byteOf r.recurrence,
      ackSourceCode r.ackSource, h₁, l₁, h₂, l₂] ∧
    stampFrom b₃ b₂ b₁ b₀ = r.stamp ∧ halfFrom h₂ l₂ = BitVec.ofNat 16 r.age ∧
    halfFrom h₁ l₁ = BitVec.ofNat 16 (reannounceSeconds r.reannounce) := by
  obtain ⟨b₃, b₂, b₁, b₀, stamp, stampReads⟩ := stampBytes_reads r.stamp
  obtain ⟨h₁, l₁, left, leftReads⟩ := halfOf_reads (reannounceSeconds r.reannounce)
  obtain ⟨h₂, l₂, age, ageReads⟩ := halfOf_reads r.age
  refine ⟨b₃, b₂, b₁, b₀, h₁, l₁, h₂, l₂, ?_, stampReads, ageReads, leftReads⟩
  rw [RosterRecord.encode, stamp, left, age, RecordState.code_eq]
  rfl

/-- Settles O27: the position answered is the record's own, and the thirteen bytes read back. -/
theorem recordReads : Obligations.RecordReads := by
  refine ⟨fun b s high => ?_, fun p s absent => ?_, fun i r s there points => ⟨?_, fun unacked before => ?_⟩,
    fun s acked => exec_answers rfl (ownFirstUnacked_none acked), fun r => ?_⟩
  · refine exec_answers rfl (t := s) ?_
    show ownReadRecord b s = s.refuse .range
    rw [ownReadRecord, pointOf_none high]
  · exact exec_answers rfl (ownReadRecord_absent (State.recordOf_eq_none.mpr absent))
  · rw [← State.positionOf_eq points there]
    exact exec_answers rfl (ownReadRecord_standing (State.recordOf_getElem? points there))
  · rw [← State.positionOf_eq points there]
    exact exec_answers rfl (ownFirstUnacked_some (find?_eq_getElem? there unacked before))
  · obtain ⟨b₃, b₂, b₁, b₀, h₁, l₁, h₂, l₂, bytes, stamp, age, left⟩ := r.encode_reads
    refine ⟨b₃, b₂, b₁, b₀, h₁, l₁, h₂, l₂, bytes, stamp, age, fun idle => ?_, fun n runs => ?_⟩
    · rw [left, idle]
      rfl
    · rw [left, runs, reannounceSeconds, secondsLeft_eq]

/-- Settles O28: the page is the roster's part from the start position, and each shelve entry's time reads back. -/
theorem listReads : Obligations.ListReads := by
  refine ⟨fun b s => ⟨(s.roster.drop b.toNat).take 4, exec_answers rfl rfl, by simp, fun i hi => ?_⟩,
    fun s => exec_answers rfl rfl,
    fun s => ⟨s.shelves.map fun e => byteOf e.point.val :: halfOf (secondsLeft e.timeLeft), ?_, List.length_map _,
      fun i e there => ?_⟩⟩
  · have within : i < 4 := lt_of_lt_of_le hi (List.length_take_le 4 _)
    rw [List.getElem?_take_of_lt within, List.getElem?_drop]
  · rw [← List.flatMap_def]
    exact exec_answers rfl rfl
  · obtain ⟨h, l, bytes, reads⟩ := halfOf_reads (secondsLeft e.timeLeft)
    refine ⟨h, l, ?_, reads.trans (by rw [secondsLeft_eq])⟩
    rw [List.getElem?_map, there, Option.map_some, bytes]

/-! ## Counts (R79) -/

/-- A value of its own and the values of a list without it are counted apart. -/
theorem countP_add_countP_contains {α β : Type} [DecidableEq β] (f : α → β) (l : List α) {v : β} {vs : List β}
    (fresh : v ∉ vs) : (l.countP fun x => f x == v) + (l.countP fun x => vs.contains (f x)) =
      l.countP fun x => (v :: vs).contains (f x) := by
  induction l with
  | nil => rfl
  | cons x xs ih =>
    simp only [List.countP_cons, ← ih]
    by_cases here : f x = v
    · simp [here, fresh]
      omega
    · simp [here]
      omega

/-- Members counted value by value, over values that differ, are the members that have one of the values. -/
theorem sum_countP_eq {α β : Type} [DecidableEq β] (f : α → β) (l : List α) {vs : List β} (nodup : vs.Nodup) :
    (vs.map fun v => l.countP fun x => f x == v).sum = l.countP fun x => vs.contains (f x) := by
  induction vs with
  | nil => simp
  | cons v vs ih =>
    obtain ⟨fresh, rest⟩ := List.nodup_cons.mp nodup
    rw [List.map_cons, List.sum_cons, ih rest, countP_add_countP_contains f l fresh]

/-- When every member has one of the values, the counts sum to the length. -/
theorem sum_countP_eq_length {α β : Type} [DecidableEq β] (f : α → β) (l : List α) {vs : List β} (nodup : vs.Nodup)
    (all : ∀ v, v ∈ vs) : (vs.map fun v => l.countP fun x => f x == v).sum = l.length := by
  rw [sum_countP_eq f l nodup, List.countP_eq_length]
  exact fun x _ => List.contains_iff_mem.mpr (all _)

/-- A list that names every point that meets a test, each once, is as long as the points that meet it are many. -/
theorem countP_allPoints_eq_length {test : PointId → Bool} {l : List PointId} (nodup : l.Nodup)
    (mem : ∀ p, p ∈ l ↔ test p = true) : allPoints.countP test = l.length := by
  rw [List.countP_eq_length_filter]
  refine List.Perm.length_eq ((List.perm_ext_iff_of_nodup ((List.nodup_finRange 64).filter test) nodup).mpr fun p => ?_)
  simp [mem]

theorem State.sum_countIn (s : State) :
    s.countIn .outOfService + s.countIn .normal + s.countIn .deferred + s.countIn .alert + s.countIn .acked +
      s.countIn .returned + s.countIn .awaitReset + s.countIn .shelved = 64 := by
  have sum := sum_countP_eq_length s.alarmOf allPoints (vs := alarmStates) (by decide) fun a => by cases a <;> decide
  simp only [alarmStates, List.map_cons, List.map_nil, List.sum_cons, List.sum_nil, allPoints, List.length_finRange] at sum
  simp only [State.countIn, allPoints]
  omega

theorem State.sum_countClass (s : State) :
    s.countClass 0 + s.countClass 1 + s.countClass 2 + s.countClass 3 = s.roster.length := by
  have sum := sum_countP_eq_length s.classOf s.roster (vs := [0, 1, 2, 3]) (by decide) (by decide)
  simp only [List.map_cons, List.map_nil, List.sum_cons, List.sum_nil] at sum
  simp only [State.countClass]
  omega

/-- The points in the four record-holding states are counted by those that hold a record. -/
theorem State.sum_countIn_holdsRecord (s : State) :
    s.countIn .alert + s.countIn .acked + s.countIn .returned + s.countIn .awaitReset =
      allPoints.countP fun p => (s.alarmOf p).holdsRecord := by
  have sum := sum_countP_eq s.alarmOf allPoints (vs := [.alert, .acked, .returned, .awaitReset]) (by decide)
  have holds : ∀ a : AlarmState, [AlarmState.alert, .acked, .returned, .awaitReset].contains a = a.holdsRecord := by
    intro a
    cases a <;> rfl
  simp only [holds, List.map_cons, List.map_nil, List.sum_cons, List.sum_nil] at sum
  simp only [State.countIn]
  omega

/-- In a consistent picture the points that hold a record are those that the roster names (R36). -/
theorem State.PictureLegal.mem_roster_points (h : s.PictureLegal) :
    p ∈ s.roster.map RosterRecord.point ↔ (s.alarmOf p).holdsRecord = true := by
  refine ⟨fun mem => ?_, fun holds => List.mem_map.mpr (h.holders p holds)⟩
  obtain ⟨r, hr, rfl⟩ := List.mem_map.mp mem
  rw [h.mirror r hr]
  exact r.state.toAlarm_holdsRecord

/-- Settles O29: each point is counted in one state and each record in one class; the lists name their points once. -/
theorem summaryCounts : Obligations.SummaryCounts := by
  refine fun s => ⟨exec_answers rfl rfl, fun a => rfl, s.sum_countIn, s.sum_countClass, fun legal => ⟨?_, ?_, ?_, ?_⟩⟩
  · exact countP_allPoints_eq_length legal.deferredOnce fun p => (legal.deferred p).trans beq_iff_eq.symm
  · rw [← List.length_map (as := s.shelves) ShelveEntry.point]
    exact countP_allPoints_eq_length legal.shelvedOnce fun p =>
      List.mem_map.trans ((legal.shelved p).trans beq_iff_eq.symm)
  · rw [s.sum_countIn_holdsRecord, ← List.length_map (as := s.roster) RosterRecord.point]
    exact countP_allPoints_eq_length legal.points fun p => legal.mem_roster_points
  · intro waiting
    exact Nat.sub_eq_zero_of_le (legal.deferredFull waiting).ge

end Sys2Proof.Machine

namespace Sys2Proof.Machine

/-! ## The timers of a record (R64, R74, R107, R157) -/

variable {s : State} {p : PointId} {st : Stamp} {r : RosterRecord}

/-- A point's record is the one written by its point and stamp. -/
theorem State.recordOf_modifyStamped {f : RosterRecord → RosterRecord} (point : ∀ r, (f r).point = r.point)
    (record : s.recordOf p = some r) (stamp : r.stamp = st) : (s.modifyStamped p st f).recordOf p = some (f r) := by
  have same : (fun x : RosterRecord => x.point == p) ∘ (fun x => if x.point = p ∧ x.stamp = st then f x else x) =
      fun x => x.point == p := by
    funext x
    by_cases named : x.point = p ∧ x.stamp = st <;> simp [named, point]
  have own : r.point = p := by simpa using List.find?_some record
  rw [State.recordOf] at record
  rw [State.recordOf, State.modifyStamped, State.setRoster_roster, List.find?_map, same, record, Option.map_some,
    if_pos ⟨own, stamp⟩]

/-- A reannounced record is neither silenced nor sounded, so it demands the cue of its state (R107, R150). -/
theorem State.demandOf_reannounced (s : State) (r : RosterRecord) : s.demandOf r.reannounced = s.cueOf r := by
  have asks : s.cueOf r.reannounced = s.cueOf r := rfl
  rw [State.demandOf, asks]
  cases s.cueOf r <;> simp [RosterRecord.reannounced]

/-- The passes that a reannunciation renews are those for the record that were demanded with its state's cue (R157). -/
theorem State.renewsPass_reannounced (record : s.recordOf p = some r) (stamp : r.stamp = st) (pl : Player) :
    (s.modifyStamped p st RosterRecord.reannounced).RenewsPass p pl ↔ s.PassFor p (s.cueOf r) pl := by
  have written := State.recordOf_modifyStamped (f := RosterRecord.reannounced) (fun _ => rfl) record stamp
  have demand : (s.modifyStamped p st RosterRecord.reannounced).demandOf r.reannounced = s.cueOf r :=
    State.demandOf_reannounced _ r
  simp only [State.RenewsPass, State.PassFor, written, record, Option.some.injEq, exists_eq_left', demand]
  rfl

theorem State.expireReannounce_running (record : s.recordOf p = some r) (stamp : r.stamp = st) (runs : r.reannounce ≠ none) :
    s.expireReannounce p st =
      ((s.modifyStamped p st RosterRecord.reannounced).renewRecord p).compareSince s := by
  simp only [State.expireReannounce, record]
  exact if_pos ⟨stamp, Option.isSome_iff_ne_none.mpr runs⟩

theorem State.expireReannounce_discarded (stale : ∀ r, s.recordOf p = some r → r.stamp ≠ st ∨ r.reannounce = none) :
    s.expireReannounce p st = s := by
  unfold State.expireReannounce
  split
  · rename_i r record
    refine if_neg fun ⟨stamp, runs⟩ => ?_
    rcases stale r record with other | idle
    · exact other stamp
    · exact Option.isSome_iff_ne_none.mp runs idle
  · rfl

theorem State.renews_expireReannounce (record : s.recordOf p = some r) (stamp : r.stamp = st) (runs : r.reannounce ≠ none) :
    State.Renews s (s.expireReannounce p st) (s.PassFor p (s.cueOf r)) := by
  rw [State.expireReannounce_running record stamp runs]
  exact State.renews_of_moved (m := s.modifyStamped p st RosterRecord.reannounced) (fun _ => rfl) rfl
    ((State.PictureFrame.setRoster s _).trans (.renewRecord _ p)) (State.renewsPass_reannounced record stamp)

/-- Settles O30: the record is written in its place, its pass renewed, and the channels compare. -/
theorem recordTimers : Obligations.RecordTimers := by
  refine ⟨fun _ _ => rfl, fun p st r s record stamp runs => ?_, fun p st s stale => ?_⟩
  · have own : r.point = p := by simpa using List.find?_some record
    have sound : State.SoundFrame (s.modifyStamped p st RosterRecord.reannounced) (s.expireReannounce p st) := by
      rw [State.expireReannounce_running record stamp runs]
      exact (State.SoundFrame.renewRecord _ p).trans (.compareSince _ s)
    have renews := State.renews_expireReannounce record stamp runs
    refine ⟨s.expireReannounce p st, rfl, sound.roster_eq, ?_, fun alert => ?_, fun returned => ?_⟩
    · rw [sound.roster_eq]
      exact sound
    · rwa [State.cueOf, alert, own] at renews
    · rwa [State.cueOf, returned, own] at renews
  · exact congrArg _ (State.expireReannounce_discarded stale)

end Sys2Proof.Machine

namespace Sys2Proof

/-- Two writes of one entry leave the second. -/
theorem Table.put_put {α : Type} {n : Nat} (t : Table α n) (i : Fin n) (x y : α) : (t.put i x).put i y = t.put i y :=
  Vector.set_set x i.isLt

end Sys2Proof

namespace Sys2Proof.Machine

/-! ## WRITE GROUP, READ GROUP and CLEAR FIRST-OUT (R89 to R91) -/

variable {s : State} {g : GroupId} {p : PointId} {r : RosterRecord} {b v : Byte}

theorem numbered_group (g : GroupId) : numbered 8 (byteOf g.val) = some g := numbered_byteOf (by decide) g

/-! ### The group operations, each as one write of the group's record and of its holder's mark -/

/-- The state with a group's record written and the mark of the point that held its slot cleared. -/
def State.unmarkHolder (s : State) (g : GroupId) (written : GroupRecord) : State :=
  { s with
    groups := s.groups.put g written
    roster := s.roster.map fun r => if (s.groups[g]).slot = some r.point then { r with firstOut := false } else r }

/-- Emptying the slot clears the mark of the record whose point it named, and no other (R88). -/
theorem State.emptySlot_eq (s : State) (g : GroupId) :
    s.emptySlot g = s.unmarkHolder g { s.groups[g] with slot := none } := by
  unfold State.emptySlot State.unmarkHolder
  split
  case h_1 p slot =>
    simp only [slot, Option.some.injEq, eq_comm (a := p)]
    rfl
  case h_2 empty =>
    have written : s.groups.put g { s.groups[g] with slot := none } = s.groups := by
      rw [← empty]
      exact Table.put_getElem s.groups g
    simp only [written, empty, reduceCtorEq, if_false, List.map_id']

/-- Arming one group if it is quiet writes its armed field alone (R90). -/
theorem State.armIfQuiet_eq (s : State) (g : GroupId) :
    s.armIfQuiet g =
      { s with groups := s.groups.put g { s.groups[g] with armed := (s.groups[g]).armed || s.quiet g } } := by
  unfold State.armIfQuiet
  split
  case isTrue quiet =>
    rw [quiet, Bool.or_true]
    rfl
  case isFalse loud =>
    rw [Bool.not_eq_true] at loud
    rw [loud, Bool.or_false]
    exact congrArg (fun t => { s with groups := t }) (Table.put_getElem s.groups g).symm

/-- First-out marking off: the slot and its mark go, and armed stays (R89). -/
theorem State.disableGroup_eq (s : State) (g : GroupId) :
    s.disableGroup g = s.unmarkHolder g ⟨false, none, (s.groups[g]).armed⟩ := by
  rw [State.disableGroup, State.emptySlot_eq]
  simp only [State.unmarkHolder, State.setGroup, Table.put_put, Table.getElem_put, if_true]

/-- The slot emptied and the group armed if it is quiet, which no slot decides (R84, R90). -/
theorem State.armIfQuiet_emptySlot (s : State) (g : GroupId) :
    (s.emptySlot g).armIfQuiet g =
      s.unmarkHolder g ⟨(s.groups[g]).firstOutEnabled, none, (s.groups[g]).armed || s.quiet g⟩ := by
  have quiet : (s.emptySlot g).quiet g = s.quiet g := by
    rw [State.emptySlot_eq]
    rfl
  rw [State.armIfQuiet_eq, quiet, State.emptySlot_eq]
  simp only [State.unmarkHolder, Table.put_put, Table.getElem_put, if_true]

/-- The states in which a member leaves its group quiet (R84). -/
theorem AlarmState.disturbs_eq_false_iff (a : AlarmState) :
    a.disturbs = false ↔ a = .outOfService ∨ a = .normal ∨ a = .shelved := by
  cases a <;> decide

/-! ### The owner's replies -/

theorem ownWriteGroup_range (range : 7 < b.toNat ∨ 1 < v.toNat) : ownWriteGroup b v s = s.refuse .range := by
  unfold ownWriteGroup
  rcases range with group | value
  · rw [numbered_none group]
  · rw [yesNoOf_none value]
    cases numbered 8 b <;> rfl

/-- WRITE GROUP with a group and a value: nothing when the value is held, else the group's marking goes on or off (R89). -/
theorem ownWriteGroup_yesNo (g : GroupId) (v : Bool) (s : State) :
    ownWriteGroup (byteOf g.val) (yesNo v) s =
      if (s.groups[g]).firstOutEnabled = v then s.replyOk []
      else if v then (s.enableGroup g).replyOk [] else (s.disableGroup g).replyOk [] := by
  simp only [ownWriteGroup, numbered_group, yesNoOf_yesNo]

theorem ownReadGroup_byteOf (g : GroupId) (s : State) :
    ownReadGroup (byteOf g.val) s =
      s.replyOk ([yesNo (s.groups[g]).firstOutEnabled, yesNo (s.groups[g]).armed, yesNo (s.quiet g),
        optionalByte (s.groups[g]).slot] ++ stampBytes (s.slotStamp (s.groups[g]).slot)) := by
  simp only [ownReadGroup, numbered_group]

theorem ownClearFirstOut_byteOf (g : GroupId) (s : State) :
    ownClearFirstOut (byteOf g.val) s =
      ((s.emptySlot g).armIfQuiet g).replyOk [optionalByte (s.groups[g]).slot] := by
  simp only [ownClearFirstOut, numbered_group]

/-- The stamp read for an empty slot is four bytes 0x00 (R91, R182). -/
theorem stampBytes_slotStamp_none (s : State) : stampBytes (s.slotStamp none) = [0, 0, 0, 0] :=
  show stampBytes 0 = _ by decide

theorem State.slotStamp_of_recordOf (record : s.recordOf p = some r) : s.slotStamp (some p) = r.stamp := by
  rw [State.slotStamp, State.stampOf, record]
  rfl

/-- Settles O31: a value held leaves the state, and the two that change it write the group's record and its mark. -/
theorem writeGroupSetsFirstOut : Obligations.WriteGroupSetsFirstOut := by
  refine ⟨fun b v s range => exec_answers rfl (ownWriteGroup_range range), fun g v s held => exec_answers rfl ?_,
    fun g s on => exec_answers rfl ?_, fun g s off => exec_answers rfl ?_, fun g s => ?_⟩
  · exact (ownWriteGroup_yesNo g v s).trans (if_pos held)
  · exact (ownWriteGroup_yesNo g false s).trans (by rw [on, State.disableGroup_eq]; rfl)
  · exact (ownWriteGroup_yesNo g true s).trans (by rw [off]; rfl)
  · simp only [State.quiet_iff, AlarmState.disturbs_eq_false_iff]

/-- Settles O32: the items read are those of one state, and a clearance answers what the slot held before it. -/
theorem groupReadAndClear : Obligations.GroupReadAndClear := by
  refine ⟨fun b s high => ⟨exec_answers (t := s) rfl ?_, exec_answers (t := s) rfl ?_⟩, fun g s empty => exec_answers rfl ?_,
    fun g p r s slot record => exec_answers rfl ?_,
    fun g s => ⟨optionalByte (s.groups[g]).slot, exec_answers rfl ?_, fun empty => ?_, fun p slot => ?_⟩⟩
  · show ownReadGroup b s = s.refuse .range
    rw [ownReadGroup, numbered_none high]
  · show ownClearFirstOut b s = s.refuse .range
    rw [ownClearFirstOut, numbered_none high]
  · exact (ownReadGroup_byteOf g s).trans (by rw [empty, stampBytes_slotStamp_none]; rfl)
  · exact (ownReadGroup_byteOf g s).trans (by rw [slot, State.slotStamp_of_recordOf record]; rfl)
  · exact (ownClearFirstOut_byteOf g s).trans (by rw [State.armIfQuiet_emptySlot]; rfl)
  · rw [empty]
    rfl
  · rw [slot]
    rfl

end Sys2Proof.Machine

namespace Sys2Proof.Machine

/-! ## SILENCE (R103, R104) -/

/-- The timer of a silenced record in REFCLK periods: 15 s for each unit of its class's interval (R103). -/
theorem silenceTimer_eq (interval : Byte) :
    silenceTimer interval = if interval = 0 then none else some (interval.toNat * 60000000) := rfl

/-- SILENCE writes the records in ALERT and RETURNED in their places and leaves the others; the comparison of the channels
that follows writes no record (R103, R104). -/
theorem State.silenceAll_roster (s : State) :
    s.silenceAll.roster = s.roster.map fun r =>
      if r.state = .alert ∨ r.state = .returned then
        { r with
          silenced := true
          reannounce :=
            if s.classInterval[s.classOf r] = 0 then none else some ((s.classInterval[s.classOf r]).toNat * 60000000) }
      else r := by
  simp only [State.silenceAll, State.compareSince_roster, State.setRoster_roster, RosterRecord.unacked_iff, silenceTimer_eq]

/-- Beside its records SILENCE changes only the players and the flags that the channels set (R104). -/
theorem State.SoundFrame.silenceAll (s : State) : State.SoundFrame (s.setRoster s.silenceAll.roster) s.silenceAll := by
  have sound : State.SoundFrame _ s.silenceAll := State.SoundFrame.compareSince _ s
  rw [sound.roster_eq]
  exact sound

/-- Settles O35: the records are written in their places, then the channels compare. -/
theorem silenceWritesUnacknowledged : Obligations.SilenceWritesUnacknowledged := by
  refine fun s => ⟨s.silenceAll, exec_answers rfl ?_, s.silenceAll_roster, .silenceAll s⟩
  show ownSilence s = _
  rw [ownSilence, s.countOf_eq]
  rfl

end Sys2Proof.Machine

namespace Sys2Proof.Machine

/-! ## What leaves the keys and the port alone

The keys are read by the Panel Interface and the transaction by the port; no other block writes them, and the link's work on
commands (R170, R171) is beside the transaction. -/

variable {s t : State}

/-- The keys, the transaction, the receive frame and the link reset timer are as they were. -/
structure State.SameInputs (s t : State) : Prop where
  keys : t.keys = s.keys
  transaction : t.link.trans = s.link.trans
  rx : t.link.rx = s.link.rx
  timer : t.link.timer = s.link.timer

theorem State.SameInputs.refl (s : State) : State.SameInputs s s := ⟨rfl, rfl, rfl, rfl⟩

theorem State.SameInputs.trans {u : State} (h : State.SameInputs s t) (k : State.SameInputs t u) : State.SameInputs s u :=
  ⟨k.keys.trans h.keys, k.transaction.trans h.transaction, k.rx.trans h.rx, k.timer.trans h.timer⟩

/-- A change that leaves the keys and the whole link. -/
theorem State.SameInputs.of_link (keys : t.keys = s.keys) (link : t.link = s.link) : State.SameInputs s t :=
  ⟨keys, congrArg Link.trans link, congrArg Link.rx link, congrArg Link.timer link⟩

/-- A change that begins by writing something else. -/
theorem State.SameInputs.after {u : State} (h : State.SameInputs u t) (keys : u.keys = s.keys) (link : u.link = s.link) :
    State.SameInputs s t := (State.SameInputs.of_link keys link).trans h

theorem State.SameInputs.raise (h : State.SameInputs s t) (e : Event) : State.SameInputs s (t.raise e) :=
  h.trans (.of_link rfl rfl)

theorem State.PictureFrame.sameInputs (h : State.PictureFrame s t) : State.SameInputs s t := .of_link h.keys h.link

theorem State.SoundFrame.sameInputs (h : State.SoundFrame s t) : State.SameInputs s t := h.picture.sameInputs

theorem State.SameInputs.linkLegal (h : State.SameInputs s t) (legal : s.LinkLegal) : t.LinkLegal := by
  constructor
  · rw [h.rx]
    exact legal.frame
  · rw [h.rx, h.transaction]
    exact legal.request
  · rw [h.timer, h.transaction]
    exact legal.timer

theorem State.SameInputs.keysLegal (h : State.SameInputs s t) (legal : s.KeysLegal) : t.KeysLegal := by
  unfold State.KeysLegal
  rw [h.keys]
  exact legal

/-! ### Lines and service (chapters 1 and 2) -/

theorem State.SameInputs.rederiveFaulted (s : State) : State.SameInputs s s.rederiveFaulted := by
  unfold State.rederiveFaulted
  dsimp only
  split <;> exact .of_link rfl rfl

theorem State.SameInputs.linesChanged (s : State) (ns : List LineId) : State.SameInputs s (s.linesChanged ns) :=
  (State.SameInputs.rederiveFaulted s).trans ((State.linesChanged_frame s ns).sameInputs.after rfl rfl)

theorem State.SameInputs.serviceChanged (s : State) (p : PointId) : State.SameInputs s (s.serviceChanged p) := by
  unfold State.serviceChanged
  split
  · exact (State.SameInputs.rederiveFaulted s).trans (State.PictureFrame.takeRaw _ _ _).sameInputs
  · exact .refl s
  · exact .refl s

theorem State.SameInputs.bringIn (s : State) (p : PointId) : State.SameInputs s (s.bringIn p) :=
  ((State.PictureFrame.takeSource (s.entered p) p).sameInputs.trans (.serviceChanged _ p)).after rfl rfl

theorem State.SameInputs.takeOut (s : State) (p : PointId) : State.SameInputs s (s.takeOut p) :=
  ((State.PictureFrame.leavePicture (s.withdrawn p) p _).sameInputs.trans (.serviceChanged _ p)).after rfl rfl

theorem State.SameInputs.sampleLine (s : State) (n : LineId) (level : Byte) : State.SameInputs s (s.sampleLine n level) := by
  unfold State.sampleLine
  dsimp only
  split
  · exact (State.SameInputs.linesChanged (s.setLine n _) _).after rfl rfl
  · exact .of_link rfl rfl

theorem State.SameInputs.expireOnDelay (s : State) (p : PointId) : State.SameInputs s (s.expireOnDelay p) := by
  unfold State.expireOnDelay
  dsimp only
  split
  · exact ((State.PictureFrame.setFilter s p _).trans (.rise _ p)).sameInputs
  · exact .refl s

theorem State.SameInputs.expireOffDelay (s : State) (p : PointId) : State.SameInputs s (s.expireOffDelay p) := by
  unfold State.expireOffDelay
  dsimp only
  split
  · exact ((State.PictureFrame.setFilter s p _).trans (.fall _ p)).sameInputs
  · exact .refl s

theorem State.SameInputs.hostCondition (s : State) (b : Byte) (v : Bool) : State.SameInputs s (s.hostCondition b v).1 := by
  unfold State.hostCondition
  split
  · exact .refl s
  · split
    · exact .refl s
    · split
      · exact .refl s
      · exact ((State.PictureFrame.setFilter s _ _).trans (.takeRaw _ _ _)).sameInputs

/-! ### Shelves and groups (chapters 5 and 6) -/

theorem State.SameInputs.unshelvePoint (s : State) (p : PointId) : State.SameInputs s (s.unshelvePoint p) :=
  (State.PictureFrame.endShelve { s with shelves := s.withoutShelve p } p).sameInputs.after rfl rfl

theorem State.SameInputs.expireShelve (s : State) (p : PointId) : State.SameInputs s (s.expireShelve p) := by
  unfold State.expireShelve
  split
  · exact (State.SameInputs.unshelvePoint s p).raise _
  · exact .refl s

theorem State.SameInputs.ownShelve (s : State) (b : Byte) (m : Half) : State.SameInputs s (ownShelve b m s).1 := by
  unfold Machine.ownShelve
  split
  · exact .refl s
  · rename_i p _
    have leaves : State.SameInputs s ((s.putShelve p m).leavePicture p .shelved) :=
      (State.PictureFrame.leavePicture _ p _).sameInputs.after rfl rfl
    split_ifs <;> first | exact .of_link rfl rfl | exact leaves

theorem State.SameInputs.ownClearFirstOut (s : State) (g : Byte) : State.SameInputs s (ownClearFirstOut g s).1 := by
  unfold Machine.ownClearFirstOut
  split
  · exact .refl s
  · rename_i g _
    refine (State.PictureFrame.emptySlot s g).sameInputs.trans (.of_link ?_ ?_) <;>
      exact (congrArg _ (State.armIfQuiet_eq (s.emptySlot g) g)).trans rfl

/-! ### Panel tests, cues and channels (chapters 7 to 9) -/

theorem State.SameInputs.setTests (s : State) (panel host : Option Nat) : State.SameInputs s (s.setTests panel host) := by
  unfold State.setTests
  dsimp only
  split
  · exact .of_link rfl rfl
  · split
    · exact (((State.SoundFrame.renewTestOn _ .a).trans (.renewTestOn _ .b)).trans
        (.compareSince _ s)).sameInputs.after rfl rfl
    · exact (State.SoundFrame.compareChannels _).sameInputs.after rfl rfl

theorem State.SameInputs.writeEnables (s : State) (e : PerKey Bool) : State.SameInputs s (s.writeEnables e) := by
  unfold State.writeEnables
  dsimp only
  split
  · exact .of_link rfl rfl
  · exact (State.SameInputs.setTests { s with keyEnables := e } _ _).after rfl rfl

theorem State.SameInputs.keyAction (s : State) (k : Key) : State.SameInputs s (s.keyAction k) := by
  cases k with
  | kack => exact (State.PictureFrame.acknowledgeAll s .panel _).sameInputs
  | ksil => exact (State.PictureFrame.silenceAll s).sameInputs
  | krst => exact (State.PictureFrame.resetEvery s).sameInputs
  | ktst => exact .setTests s _ _

theorem State.SameInputs.press (s : State) (k : Key) : State.SameInputs s (s.press k) := by
  unfold State.press
  split
  · exact (State.SameInputs.keyAction s k).raise _
  · exact .refl s

theorem State.SameInputs.release (s : State) (k : Key) : State.SameInputs s (s.release k) := by
  unfold State.release
  split
  · exact .setTests s _ _
  · exact .refl s

theorem State.SameInputs.expireEdit (s : State) : State.SameInputs s s.expireEdit := by
  unfold State.expireEdit
  split
  · split <;> exact .of_link rfl rfl
  · exact .refl s

/-- The answer of a COMMIT reaches the commands in flight and no byte of the port (R140, R141). -/
theorem State.SameInputs.endCheck (s : State) : State.SameInputs s s.endCheck := by
  unfold State.endCheck
  split
  · rename_i e _
    split
    · split
      · have replaced : State.SameInputs s (s.replaceCue e) :=
          ((State.SoundFrame.noticeReplacement _ s e.target .a).trans
            (.noticeReplacement _ s e.target .b)).sameInputs.after rfl rfl
        exact ⟨replaced.keys, replaced.transaction, replaced.rx, replaced.timer⟩
      · exact ⟨rfl, rfl, rfl, rfl⟩
    · exact .refl s
  · exact .refl s

theorem State.SameInputs.changeSettings (s : State) (c : Chan) (v : Bool) (w : SwitchPolicy) :
    State.SameInputs s (s.changeSettings c v w) := by
  unfold State.changeSettings
  dsimp only
  split
  · exact (State.SoundFrame.compareChannel (s.setSettings c v w) c).sameInputs.after rfl rfl
  · unfold State.stopChannel
    split
    · exact (State.SoundFrame.goIdle (s.setSettings c v w) c).sameInputs.after rfl rfl
    · exact .of_link rfl rfl

theorem State.SameInputs.endStep (s : State) (c : Chan) : State.SameInputs s (s.endStep c) := by
  rcases s.endStep_sound c with sound | ⟨o, sound⟩
  · exact sound.sameInputs
  · refine State.SameInputs.trans ?_ sound.sameInputs
    cases o <;> exact .of_link rfl rfl

theorem State.SameInputs.restartAll (s : State) : State.SameInputs s s.restartAll :=
  s.kept_restartAll.1.sameInputs.after rfl rfl

/-! ### Every command but those of the keys and the port -/

theorem ownerTakes_apart_sameInputs (c : Instr) (s : State) (apart : isApart c = true) :
    State.SameInputs s (ownerTakes c s).1 := by
  cases c
  case writePanel a b c d =>
    show State.SameInputs s (ownWritePanel a b c d s).1
    unfold ownWritePanel
    split
    · exact .writeEnables s _
    · exact .refl s
  case lampTest n =>
    show State.SameInputs s (ownLampTest n s).1
    unfold ownLampTest
    split
    · exact .refl s
    · exact .setTests s _ _
  case beginEdit q =>
    show State.SameInputs s (ownBeginEdit q s).1
    unfold ownBeginEdit
    split
    · exact .refl s
    · split <;> exact .of_link rfl rfl
  case writeCueHeader hd =>
    show State.SameInputs s (ownWriteCueHeader hd s).1
    unfold ownWriteCueHeader
    split
    · exact .refl s
    · split <;> exact .of_link rfl rfl
  case writeSteps o l =>
    show State.SameInputs s (ownWriteSteps o l s).1
    unfold ownWriteSteps
    split
    · exact .refl s
    · split <;> exact .of_link rfl rfl
  case commit =>
    show State.SameInputs s (ownCommit s).1
    unfold ownCommit
    split <;> exact .of_link rfl rfl
  case abortEdit =>
    show State.SameInputs s (ownAbortEdit s).1
    unfold ownAbortEdit
    split <;> exact .of_link rfl rfl
  case eraseCue q =>
    show State.SameInputs s (ownEraseCue q s).1
    unfold ownEraseCue
    split
    · exact .refl s
    · split
      · exact .refl s
      · split
        · exact (State.SoundFrame.compareSince _ s).sameInputs.after rfl rfl
        · exact .refl s
  case writeChannel c e w =>
    show State.SameInputs s (ownWriteChannel c e w s).1
    unfold ownWriteChannel
    split
    · split
      · exact .refl s
      · exact .changeSettings s _ _ _
    · exact .refl s
  case clearEvents f =>
    show State.SameInputs s (ownClearEvents f s).1
    unfold ownClearEvents
    split <;> exact .of_link rfl rfl
  case writeEventMask m =>
    show State.SameInputs s (ownWriteEventMask m s).1
    unfold ownWriteEventMask
    split <;> exact .of_link rfl rfl
  all_goals exact absurd apart Bool.false_ne_true

/-- No owner writes the keys or the port. -/
theorem ownerTakes_sameInputs (c : Instr) (s : State) : State.SameInputs s (ownerTakes c s).1 := by
  by_cases read : isRead c = true
  · rw [ownerTakes_read c s read]
    exact .refl s
  by_cases apart : isApart c = true
  · exact ownerTakes_apart_sameInputs c s apart
  cases c
  case writePoint b rec =>
    show State.SameInputs s (ownWritePoint b rec s).1
    unfold ownWritePoint
    split
    · exact .refl s
    · split
      · exact .refl s
      · split
        · exact .refl s
        · split <;> exact .of_link rfl rfl
  case setServiceIn b =>
    show State.SameInputs s (ownSetServiceIn b s).1
    unfold ownSetServiceIn
    split
    · exact .refl s
    · split
      · exact .refl s
      · exact .bringIn s _
  case setServiceOut b =>
    show State.SameInputs s (ownSetServiceOut b s).1
    unfold ownSetServiceOut
    split
    · exact .refl s
    · split
      · exact .takeOut s _
      · exact .refl s
  case writeClass n i =>
    show State.SameInputs s (ownWriteClass n i s).1
    unfold ownWriteClass
    split
    · exact .refl s
    · split <;> exact .of_link rfl rfl
  case writeLine n m q k =>
    show State.SameInputs s (ownWriteLine n m q k s).1
    unfold ownWriteLine
    split
    · dsimp only
      split
      · exact .refl s
      · exact (State.SameInputs.linesChanged _ _).after rfl rfl
    · exact .refl s
  case writeThresholds k x a o =>
    show State.SameInputs s (ownWriteThresholds k x a o s).1
    unfold ownWriteThresholds
    split
    · exact .refl s
    · split
      · exact .refl s
      · split
        · exact .refl s
        · exact (State.SameInputs.linesChanged _ _).after rfl rfl
  case assertPoint b => exact .hostCondition s b true
  case releasePoint b => exact .hostCondition s b false
  case ack b e st =>
    show State.SameInputs s (ownAck b e st s).1
    unfold ownAck
    split
    · split
      · split <;> exact .refl s
      · split
        · exact .refl s
        · split
          · exact (State.PictureFrame.acknowledge s .host _).sameInputs
          · exact .refl s
    · exact .refl s
  case ackGroup g =>
    show State.SameInputs s (ownAckGroup g s).1
    unfold ownAckGroup
    split
    · exact .refl s
    · exact (State.PictureFrame.acknowledgeAll s .host _).sameInputs
  case ackAll => exact (State.PictureFrame.acknowledgeAll s .host _).sameInputs
  case reset b =>
    show State.SameInputs s (ownReset b s).1
    unfold ownReset
    split
    · exact .refl s
    · split
      · exact (State.PictureFrame.retire State.PictureFrame.handOverflow s _ _).sameInputs
      · exact .refl s
  case resetAll => exact (State.PictureFrame.resetEvery s).sameInputs
  case writeGroup g v =>
    show State.SameInputs s (ownWriteGroup g v s).1
    unfold ownWriteGroup
    split
    · split
      · exact .refl s
      · split
        · exact (State.PictureFrame.setGroup s _ _).sameInputs
        · exact ((State.PictureFrame.emptySlot s _).trans (.setGroup _ _ _)).sameInputs
    · exact .refl s
  case clearFirstOut g => exact .ownClearFirstOut s g
  case shelve b m => exact .ownShelve s b m
  case unshelve b =>
    show State.SameInputs s (ownUnshelve b s).1
    unfold ownUnshelve
    split
    · exact .refl s
    · split
      · exact .unshelvePoint s _
      · exact .refl s
  case silence => exact (State.PictureFrame.silenceAll s).sameInputs
  case writeTones n l =>
    show State.SameInputs s (ownWriteTones n l s).1
    unfold ownWriteTones
    split
    · exact .refl s
    · split <;> exact .of_link rfl rfl
  case restart => exact .restartAll s
  all_goals first | exact absurd rfl read | exact absurd rfl apart | exact .refl s

/-- Handing a reply over moves the link's work on and no byte of the port (R170, R171). -/
theorem Reply.sameInputs_handOver (r : Reply) (c : Instr) : State.SameInputs r.1 (r.handOver c) := by
  unfold Reply.handOver Link.takeUp
  split
  · split <;> exact ⟨rfl, rfl, rfl, rfl⟩
  · exact ⟨rfl, rfl, rfl, rfl⟩

theorem execCommandCompletion_sameInputs (marked : Bool) (run : exec (.commandCompletion marked) s = .next t) :
    State.SameInputs s t := by
  have taken : ∀ c, State.SameInputs s (ownerTakes c s).1 := fun c => ownerTakes_sameInputs c s
  obtain rfl := Host.Outcome.next.inj run
  split
  · unfold State.completeMarked
    split
    · exact .refl s
    · split
      · exact ⟨(taken _).keys, (taken _).transaction, (taken _).rx, (taken _).timer⟩
      · exact ⟨rfl, rfl, rfl, rfl⟩
      · exact ⟨rfl, rfl, rfl, rfl⟩
  · unfold State.completeInFlight
    split
    · exact .refl s
    · split
      · exact ⟨rfl, rfl, rfl, rfl⟩
      · split
        · exact .refl s
        · exact ⟨rfl, rfl, rfl, rfl⟩
      · dsimp only
        split <;> exact ⟨(taken _).keys, (taken _).transaction, (taken _).rx, (taken _).timer⟩

/-- The events of the keys and of the port, and power-on reset. -/
def isInputEvent : Instr → Bool
  | .powerOnReset | .keyLineChange _ _ | .debounceExpiry _ | .selnFall | .requestFrameEnd | .collect | .selnRise | .linkReset
  | .byteCompletion _ => true
  | _ => false

/-- Every other command leaves the keys and the port alone. -/
theorem exec_sameInputs (c : Instr) (other : isInputEvent c = false) (run : exec c s = .next t) : State.SameInputs s t := by
  by_cases host : isHostCommand c = true
  · rw [exec_host c s host] at run
    obtain rfl := Host.Outcome.next.inj run
    exact (ownerTakes_sameInputs c s).trans (Reply.sameInputs_handOver _ c)
  cases c
  case commandCompletion marked => exact execCommandCompletion_sameInputs marked run
  all_goals first
    | exact absurd rfl host
    | exact absurd other.symm Bool.false_ne_true
    | obtain rfl := Host.Outcome.next.inj run
  case lineSample n level => exact .sampleLine s n level
  case onDelayExpiry p => exact .expireOnDelay s p
  case offDelayExpiry p => exact .expireOffDelay s p
  case shelveExpiry p => exact .expireShelve s p
  case reannounceExpiry p st => exact (State.PictureFrame.expireReannounce s p st).sameInputs
  case panelTestExpiry => exact .setTests s _ _
  case hostTestExpiry => exact .setTests s _ _
  case stepEnd c => exact .endStep s c
  case editIdleTimeout => exact .expireEdit s
  case commitCheckEnd => exact .endCheck s
  case ageIncrement p => exact (State.PictureFrame.modifyRecord s p _).sameInputs

end Sys2Proof.Machine

namespace Sys2Proof.Machine

/-! ## What every command keeps, every step keeps -/

variable {s t u : State}

/-- Every expiry is a row of the table; a shelve expiry without an entry is none. -/
theorem State.expire_row (u : State) (d : Due) : u.expire d = u ∨ ∃ c, exec c u = .next (u.expire d) := by
  cases d with
  | onDelay p => exact .inr ⟨.onDelayExpiry p, rfl⟩
  | offDelay p => exact .inr ⟨.offDelayExpiry p, rfl⟩
  | shelve =>
    unfold State.expire
    dsimp only
    split
    · exact .inr ⟨.shelveExpiry _, rfl⟩
    · exact .inl rfl
  | reannounce p st => exact .inr ⟨.reannounceExpiry p st, rfl⟩
  | age p => exact .inr ⟨.ageIncrement p, rfl⟩
  | debounce k => exact .inr ⟨.debounceExpiry k, rfl⟩
  | panelTest => exact .inr ⟨.panelTestExpiry, rfl⟩
  | hostTest => exact .inr ⟨.hostTestExpiry, rfl⟩
  | stepEnd c => exact .inr ⟨.stepEnd c, rfl⟩
  | editIdle => exact .inr ⟨.editIdleTimeout, rfl⟩
  | linkReset => exact .inr ⟨.linkReset, rfl⟩

/-- What every command and the count of one period keep, and what does not read the model's own queue and count of orders,
every step keeps. -/
theorem step_keeps {P : State → Prop} (command : ∀ c u v, P u → exec c u = .next v → P v)
    (count : ∀ u, P u → P u.countAll)
    (order : ∀ u n, P u → P { u with freeCount := n }) (queue : ∀ u q, P u → P { u with pending := q }) (start : P s)
    (run : step s = .next t) : P t := by
  have due : ∀ d u, P u → P (u.takeDue d) := fun d u hu => by
    unfold State.takeDue
    split
    · rcases u.expire_row d with same | ⟨c, row⟩
      · rwa [same]
      · exact command c u _ hu row
    · exact hu
  unfold step at run
  split at run
  · exact command _ _ _ (queue _ _ start) run
  · exact Host.Outcome.next.inj run ▸ State.takeAll_induct (order _ _ (count s start)) fun d _ u hu => due d u hu

/-! ## The debounce timers (R110, R111) -/

variable {k j : Key}

theorem PerKey.get_put {α : Type} (v : PerKey α) (k j : Key) (x : α) : (v.put k x).get j = if j = k then x else v.get j := by
  cases k <;> cases j <;> rfl

theorem PerKey.get_map {α β : Type} (f : α → β) (v : PerKey α) (k : Key) : (v.map f).get k = f (v.get k) := by
  cases k <;> rfl

/-- The timer of a key runs exactly while its line differs from its debounced state: what `State.KeysLegal` says of each. -/
def KeyState.Legal (x : KeyState) : Prop := x.timer.isSome = true ↔ ¬ (x.pressed = true ↔ x.line = .low)

theorem levelMatches_iff (level : LineLevel) (pressed : Bool) :
    levelMatches level pressed = true ↔ (pressed = true ↔ level = .low) := by
  cases level <;> simp [levelMatches]

theorem KeyState.Legal.lineTo {x : KeyState} (h : x.Legal) (level : LineLevel) : (x.lineTo level).Legal := by
  unfold KeyState.lineTo
  split
  · exact h
  · unfold KeyState.Legal
    dsimp only
    split
    · rename_i same
      simpa using (levelMatches_iff _ _).mp same
    · rename_i differs
      simpa using mt (levelMatches_iff _ _).mpr differs

theorem KeyState.legal_powerOn (x : KeyState) : x.powerOn.Legal := by
  simp [KeyState.Legal, KeyState.powerOn]

/-- At its expiry a running timer has the debounced state follow the line. -/
theorem KeyState.Legal.settle {x : KeyState} (h : x.Legal) (runs : x.timer.isSome = true) :
    (!x.pressed) = true ↔ x.line = .low := by
  have differs := h.mp runs
  cases pressed : x.pressed <;> simpa [pressed] using differs

/-- The state with a key's debounced state gone over to the other and its timer idle (R110). -/
def State.settleKey (s : State) (k : Key) : State :=
  { s with keys := s.keys.put k { s.keys.get k with pressed := !(s.keys.get k).pressed, timer := none } }

theorem State.expireDebounce_idle (idle : (s.keys.get k).timer = none) : s.expireDebounce k = s := by
  simp only [State.expireDebounce, idle]

/-- At its expiry the key settles, and then a release or a press is taken (R110, R113, R115). -/
theorem State.expireDebounce_running (runs : (s.keys.get k).timer ≠ none) :
    s.expireDebounce k = if (s.keys.get k).pressed then (s.settleKey k).release k else (s.settleKey k).press k := by
  obtain ⟨left, runs⟩ := Option.ne_none_iff_exists'.mp runs
  simp only [State.expireDebounce, runs]
  rfl

/-- The press or the release that follows writes no key and no byte of the port (R113, R115). -/
theorem State.expireDebounce_sameInputs (runs : (s.keys.get k).timer ≠ none) :
    State.SameInputs (s.settleKey k) (s.expireDebounce k) := by
  rw [State.expireDebounce_running runs]
  split
  · exact .release _ k
  · exact .press _ k

theorem State.settleKey_keys (s : State) (k j : Key) :
    (s.settleKey k).keys.get j =
      if j = k then { s.keys.get k with pressed := !(s.keys.get k).pressed, timer := none } else s.keys.get j :=
  PerKey.get_put _ k j _

theorem State.KeysLegal.expireDebounce (h : s.KeysLegal) (k : Key) : (s.expireDebounce k).KeysLegal := by
  by_cases idle : (s.keys.get k).timer = none
  · rwa [State.expireDebounce_idle idle]
  · refine (State.expireDebounce_sameInputs idle).keysLegal fun j => ?_
    rw [State.settleKey_keys]
    split
    · simpa using KeyState.Legal.settle (h k) (Option.isSome_iff_ne_none.mpr idle)
    · exact h j

/-- The events of the port alone. -/
def isPortEvent : Instr → Bool
  | .selnFall | .requestFrameEnd | .collect | .selnRise | .linkReset | .byteCompletion _ => true
  | _ => false

theorem State.noteLinkFault_keys (s : State) (v : Bool) : (s.noteLinkFault v).keys = s.keys := by
  unfold State.noteLinkFault
  split <;> rfl

theorem exec_port_keys (c : Instr) (port : isPortEvent c = true) (run : exec c s = .next t) : t.keys = s.keys := by
  cases c
  all_goals first | exact absurd port Bool.false_ne_true | obtain rfl := Host.Outcome.next.inj run
  case selnFall | collect | byteCompletion => split <;> rfl
  case requestFrameEnd =>
    split
    · split
      · exact State.noteLinkFault_keys _ _
      · rfl
    · rfl
  case selnRise => exact State.noteLinkFault_keys _ _
  case linkReset =>
    show s.expireLink.keys = s.keys
    unfold State.expireLink
    split <;> rfl

/-- Every command keeps the debounce timers in bounds. -/
theorem State.KeysLegal.exec (h : s.KeysLegal) (c : Instr) (run : exec c s = .next t) : t.KeysLegal := by
  by_cases other : isInputEvent c = false
  · exact (exec_sameInputs c other run).keysLegal h
  by_cases port : isPortEvent c = true
  · intro k
    rw [exec_port_keys c port run]
    exact h k
  cases c
  all_goals first | exact absurd rfl other | exact absurd rfl port | obtain rfl := Host.Outcome.next.inj run
  case powerOnReset =>
    intro k
    show (PerKey.get (s.keys.map KeyState.powerOn) k).Legal
    rw [PerKey.get_map]
    exact KeyState.legal_powerOn _
  case keyLineChange k level =>
    intro j
    show (PerKey.get (s.keys.put k _) j).Legal
    rw [PerKey.get_put]
    split
    · exact KeyState.Legal.lineTo (h k) level
    · exact h j
  case debounceExpiry k => exact h.expireDebounce k

theorem State.KeysLegal.countAll (h : s.KeysLegal) : s.countAll.KeysLegal := fun k => by
  have counted : s.countAll.keys.get k = { s.keys.get k with timer := countDown (s.keys.get k).timer } :=
    PerKey.get_map _ _ k
  rw [counted, countDown, Option.isSome_map]
  exact h k

/-! ## The receive frame and the link reset timer (R167, R168, R178) -/

variable {l : Link}

/-- A frame that is not whole takes one more byte (R168). -/
theorem receivable_append {rx : List Byte} (h : receivable rx) (more : frameWhole rx = false) (b : Byte) :
    receivable (rx ++ [b]) := by
  intro n there
  by_cases announced : 2 < rx.length
  · rw [List.getElem?_append_left announced] at there
    have room := h n there
    simp only [frameWhole, there, Bool.or_eq_false_iff, decide_eq_false_iff_not, beq_eq_false_iff_ne] at more
    obtain ⟨short, unfinished⟩ := more
    rw [if_neg short] at room
    rw [if_neg short, List.length_append, List.length_singleton]
    omega
  · have bound : 2 < (rx ++ [b]).length := (List.getElem?_eq_some_iff.mp there).1
    rw [List.length_append, List.length_singleton] at *
    split <;> omega

/-- What `State.LinkLegal` says, of the link alone. -/
structure Link.Legal (l : Link) : Prop where
  frame : receivable l.rx
  request : l.trans = .request → l.rx ≠ []
  timer : l.timer.isSome → l.trans ≠ .idle

theorem State.linkLegal_iff : s.LinkLegal ↔ s.link.Legal :=
  ⟨fun h => ⟨h.frame, h.request, h.timer⟩, fun h => ⟨h.frame, h.request, h.timer⟩⟩

theorem receivable_short {rx : List Byte} (h : rx.length ≤ 2) : receivable rx := fun n there => by
  have bound : 2 < rx.length := (List.getElem?_eq_some_iff.mp there).1
  omega

/-- An emptied receive frame is legal outside a request. -/
theorem Link.legal_emptied (emptied : l.rx = []) (trans : l.trans ≠ .request) (timer : l.timer.isSome → l.trans ≠ .idle) :
    l.Legal :=
  ⟨emptied ▸ receivable_short (Nat.zero_le 2), fun request => absurd request trans, timer⟩

theorem Link.Legal.retime (h : l.Legal) (f : Nat → Nat) : ({ l with timer := l.timer.map f } : Link).Legal :=
  ⟨h.frame, h.request, fun runs => h.timer (by simpa using runs)⟩

theorem Link.Legal.receive (h : l.Legal) (b : Byte) : (l.receive b).Legal := by
  unfold Link.receive
  split
  case h_1 =>
    split
    · exact ⟨h.frame, nofun, nofun⟩
    · exact ⟨receivable_short (Nat.le_succ 1), fun _ => List.cons_ne_nil _ _, nofun⟩
  case h_2 =>
    split
    · exact h
    · rename_i more
      exact ⟨receivable_append h.frame (Bool.eq_false_iff.mpr more) b, fun _ => by simp, fun runs => h.timer runs⟩
  case h_3 => exact ⟨h.frame, nofun, nofun⟩
  all_goals exact h

theorem Link.Legal.selnUp (h : l.Legal) : l.selnUp.Legal := by
  have idle : ∀ r, ({ l with trans := .idle, timer := none, response := r } : Link).Legal :=
    fun r => ⟨h.frame, nofun, nofun⟩
  unfold Link.selnUp
  dsimp only
  split
  case h_1 => split <;> exact idle _
  case h_2 =>
    split
    · exact idle _
    · exact Link.legal_emptied rfl nofun nofun
  all_goals exact idle _

theorem Transaction.afterEnd_ne_request (x : Transaction) : x.afterEnd ≠ .request := by cases x <;> exact nofun

theorem Transaction.afterEnd_eq_idle {x : Transaction} (h : x.afterEnd = .idle) : x = .idle := by
  cases x <;> first | rfl | exact nomatch h

theorem Transaction.afterLinkReset_ne_request (x : Transaction) : x.afterLinkReset ≠ .request := by
  unfold Transaction.afterLinkReset
  split <;> exact nofun

/-- After a frame end the receive frame is empty and the transaction's further bytes are ignored (R168, R171, R172). -/
theorem Link.Legal.afterEnd (h : l.Legal) (inFlight : Option InFlight) (response : Option Response) :
    ({ l with trans := l.trans.afterEnd, rx := [], inFlight := inFlight, response := response } : Link).Legal :=
  Link.legal_emptied rfl (Transaction.afterEnd_ne_request _) fun runs ended =>
    h.timer runs (Transaction.afterEnd_eq_idle ended)

theorem Link.legal_linkReset (l : Link) : l.linkReset.Legal :=
  Link.legal_emptied rfl (Transaction.afterLinkReset_ne_request _) nofun

theorem State.noteLinkFault_link (s : State) (v : Bool) : (s.noteLinkFault v).link = s.link := by
  unfold State.noteLinkFault
  split <;> rfl

theorem exec_port_legal (c : Instr) (port : isPortEvent c = true) (h : s.link.Legal) (run : exec c s = .next t) :
    t.link.Legal := by
  cases c
  all_goals first | exact absurd port Bool.false_ne_true | obtain rfl := Host.Outcome.next.inj run
  case selnFall =>
    split
    · exact ⟨h.frame, nofun, nofun⟩
    · exact h
  case requestFrameEnd =>
    split
    · split
      · exact (State.noteLinkFault_link _ _).symm ▸ h.afterEnd _ _
      · exact h.afterEnd _ _
    · exact h
  case collect =>
    split
    · exact ⟨h.frame, nofun, nofun⟩
    · exact h
  case selnRise => exact (State.noteLinkFault_link _ _).symm ▸ h.selnUp
  case linkReset =>
    show s.expireLink.link.Legal
    unfold State.expireLink
    split
    · exact Link.legal_linkReset _
    · exact h
  case byteCompletion b =>
    split
    · exact h
    · exact (h.retime _).receive b

/-- Every command keeps the port in bounds. -/
theorem State.LinkLegal.exec (h : s.LinkLegal) (c : Instr) (run : exec c s = .next t) : t.LinkLegal := by
  by_cases other : isInputEvent c = false
  · exact (exec_sameInputs c other run).linkLegal h
  by_cases port : isPortEvent c = true
  · exact State.linkLegal_iff.mpr (exec_port_legal c port (State.linkLegal_iff.mp h) run)
  cases c
  all_goals first | exact absurd rfl other | exact absurd rfl port | obtain rfl := Host.Outcome.next.inj run
  case powerOnReset =>
    have notRequest : s.link.trans.powerOn ≠ .request := by cases s.link.trans <;> exact nofun
    exact State.linkLegal_iff.mpr (Link.legal_emptied rfl notRequest nofun)
  case keyLineChange k level => exact ⟨h.frame, h.request, h.timer⟩
  case debounceExpiry k =>
    by_cases idle : (s.keys.get k).timer = none
    · rwa [State.expireDebounce_idle idle]
    · exact (State.expireDebounce_sameInputs idle).linkLegal ⟨h.frame, h.request, h.timer⟩

theorem State.LinkLegal.countAll (h : s.LinkLegal) : s.countAll.LinkLegal :=
  State.linkLegal_iff.mpr ((State.linkLegal_iff.mp h).retime _)

/-- Settles O56: every command and the count of one period keep the port and the keys in bounds. -/
theorem stepKeepsLinkAndKeysLegal : Obligations.StepKeepsLinkAndKeysLegal :=
  ⟨fun _ _ => step_keeps (P := State.LinkLegal) (fun c _ _ h => h.exec c) (fun _ h => h.countAll)
      (fun _ _ h => ⟨h.frame, h.request, h.timer⟩) fun _ _ h => ⟨h.frame, h.request, h.timer⟩,
    fun _ _ => step_keeps (P := State.KeysLegal) (fun c _ _ h => h.exec c) (fun _ h => h.countAll) (fun _ _ h => h)
      fun _ _ h => h⟩

end Sys2Proof.Machine

namespace Sys2Proof.Machine

/-! ## The lamp test (R115 to R118) -/

variable {s t v : State} {c k : Chan} {pl : Player} {panel host : Option Nat}

/-- The state with both sources of the lamp test written. -/
def State.withTests (s : State) (panel host : Option Nat) : State := { s with panelTest := panel, hostTest := host }

theorem State.testActive_eq_false_iff : s.testActive = false ↔ s.panelTest = none ∧ s.hostTest = none := by
  simp [State.testActive]

/-! ### The test's three courses (R117) -/

theorem State.setTests_eq (s : State) (panel host : Option Nat) :
    s.setTests panel host =
      if s.testActive = (s.withTests panel host).testActive then s.withTests panel host
      else if (s.withTests panel host).testActive then (s.withTests panel host).testStarted s
      else (s.withTests panel host).testEnded := rfl

theorem State.setTests_same (same : s.testActive = (s.withTests panel host).testActive) :
    s.setTests panel host = s.withTests panel host := if_pos same

theorem State.setTests_started (idle : s.testActive = false) (active : (s.withTests panel host).testActive = true) :
    s.setTests panel host = (s.withTests panel host).testStarted s := by
  simp [State.setTests_eq, idle, active]

theorem State.setTests_ended (running : s.testActive = true) (done : (s.withTests panel host).testActive = false) :
    s.setTests panel host = (s.withTests panel host).testEnded := by
  simp [State.setTests_eq, running, done]

/-- What a write of the sources does: the test demands are unsounded when the test as a whole ends, and nothing but the
channels and their flags follows. -/
structure State.TestsSet (s : State) (panel host : Option Nat) (t : State) : Prop where
  panelTest : t.panelTest = panel
  hostTest : t.hostTest = host
  testSounded : t.testSounded = if s.testActive = true ∧ t.testActive = false then ⟨false, false⟩ else s.testSounded
  sound : State.SoundFrame { s with panelTest := panel, hostTest := host, testSounded := t.testSounded } t

/-- The sources written and nothing heard of it by the channels but what a sound frame allows. -/
theorem State.SoundFrame.testsSet {ts : PerChan Bool}
    (sound : State.SoundFrame { s with panelTest := panel, hostTest := host, testSounded := ts } t)
    (sounded : ts =
      if s.testActive = true ∧ (s.withTests panel host).testActive = false then ⟨false, false⟩ else s.testSounded) :
    State.TestsSet s panel host t := by
  have active : t.testActive = (s.withTests panel host).testActive := by
    rw [State.testActive, sound.panelTest_eq, sound.hostTest_eq]
    rfl
  refine ⟨sound.panelTest_eq, sound.hostTest_eq, ?_, ?_⟩
  · rw [sound.testSounded_eq, active]
    exact sounded
  · rw [sound.testSounded_eq]
    exact sound

theorem State.SoundFrame.testStarted (s before : State) : State.SoundFrame s (s.testStarted before) :=
  ((State.SoundFrame.renewTestOn s .a).trans (.renewTestOn _ .b)).trans (.compareSince _ before)

theorem State.testsSet (s : State) (panel host : Option Nat) : State.TestsSet s panel host (s.setTests panel host) := by
  cases running : s.testActive <;> cases active : (s.withTests panel host).testActive
  · rw [State.setTests_same (running.trans active.symm)]
    exact (State.SoundFrame.refl (s.withTests panel host)).testsSet (by simp [running])
  · rw [State.setTests_started running active]
    exact (State.SoundFrame.testStarted (s.withTests panel host) s).testsSet (by simp [running])
  · rw [State.setTests_ended running active]
    refine State.SoundFrame.testsSet (ts := ⟨false, false⟩) (State.SoundFrame.compareChannels _) ?_
    rw [if_pos ⟨running, active⟩]
  · rw [State.setTests_same (running.trans active.symm)]
    exact (State.SoundFrame.refl (s.withTests panel host)).testsSet (by simp [active])

theorem State.TestsSet.testActive (h : State.TestsSet s panel host t) :
    t.testActive = (s.withTests panel host).testActive := by
  rw [State.testActive, h.panelTest, h.hostTest]
  rfl

theorem State.TestsSet.testActive_eq_false_iff (h : State.TestsSet s panel host t) :
    t.testActive = false ↔ panel = none ∧ host = none := by
  rw [State.testActive_eq_false_iff, h.panelTest, h.hostTest]

/-! ### The renewal of a test demand's pass (R157) -/

/-- A pass after the lamp test has started again: one for the test demand is renewed. -/
def Player.renewedByTest (pl : Player) : Player := if pl.owner = .test then { pl with renewed := true } else pl

theorem State.playerOf_renewTestOn (s : State) (c k : Chan) :
    (s.renewTestOn c).playerOf k = if k = c then (s.playerOf c).map Player.renewedByTest else s.playerOf k := by
  unfold State.renewTestOn
  cases playing : s.playerOf c with
  | none => split <;> simp_all
  | some pl =>
    by_cases test : pl.owner = .test <;> simp [test, State.playerOf_setPlayer, Player.renewedByTest]
    rintro rfl
    exact playing

/-- Both channels are told that the test has started. -/
theorem State.playerOf_renewTests (s : State) (c : Chan) :
    ((s.renewTestOn .a).renewTestOn .b).playerOf c = (s.playerOf c).map Player.renewedByTest := by
  cases c <;> simp [State.playerOf_renewTestOn]

/-- A test that starts renews the passes for the test demand that go on, and no other. -/
theorem State.renews_setTests (idle : s.testActive = false) (active : (s.setTests panel host).testActive = true) :
    State.Renews s (s.setTests panel host) fun pl => pl.owner = .test := by
  rw [(s.testsSet panel host).testActive] at active
  rw [State.setTests_started idle active, State.testStarted]
  have renewed := (State.SoundFrame.renewTestOn (s.withTests panel host) .a).trans (.renewTestOn _ .b)
  have compared := State.SoundFrame.compareSince (((s.withTests panel host).renewTestOn .a).renewTestOn .b) s
  constructor <;> intro c pl playing goes isTest <;>
    refine State.playerOf_compareSince_goesOn renewed.picture.policy ?_ (compared.passGoesOn.mp goes) <;>
    rw [State.playerOf_renewTests, show (s.withTests panel host).playerOf c = some pl from playing, Option.map_some,
      Player.renewedByTest]
  · rw [if_pos isTest]
  · rw [if_neg isTest]

end Sys2Proof.Machine

namespace Sys2Proof.Machine

/-! ## LAMP TEST, the test expiries and WRITE PANEL (R112, R115, R116) -/

variable {s t : State} {b : Byte} {panel host : Option Nat}

theorem ownLampTest_ok (ok : b.toNat ≤ 15) (s : State) :
    ownLampTest b s = (s.setHostTest b.toNat).replyOk [yesNo (s.setHostTest b.toNat).testActive] :=
  if_neg (Nat.not_lt.mpr ok)

theorem State.setHostTest_eq (s : State) (b : Byte) :
    s.setHostTest b.toNat = s.setTests s.panelTest (if b = 0 then none else some (b.toNat * 4000000)) := by
  have zero : b.toNat = 0 ↔ b = 0 := by simp [BitVec.toNat_eq]
  simp only [State.setHostTest, zero]

/-- The channels hear of nothing when the test as a whole neither starts nor ends (R117). -/
theorem State.setTests_channels (same : s.testActive = (s.setTests panel host).testActive) :
    (s.setTests panel host).channels = s.channels := by
  rw [(s.testsSet panel host).testActive] at same
  rw [State.setTests_same same]
  rfl

/-- A value that is neither yes nor no leaves the panel record as it is (R112). -/
theorem ownWritePanel_range {a b c d : Byte} (range : 1 < a.toNat ∨ 1 < b.toNat ∨ 1 < c.toNat ∨ 1 < d.toNat) :
    ownWritePanel a b c d s = s.refuse .range := by
  unfold ownWritePanel
  split
  · rename_i ha hb hc hd
    rcases range with high | high | high | high
    · exact nomatch (yesNoOf_none high).symm.trans ha
    · exact nomatch (yesNoOf_none high).symm.trans hb
    · exact nomatch (yesNoOf_none high).symm.trans hc
    · exact nomatch (yesNoOf_none high).symm.trans hd
  · rfl

theorem ownWritePanel_yesNo (v : PerKey Bool) (s : State) :
    ownWritePanel (yesNo v.kack) (yesNo v.ksil) (yesNo v.krst) (yesNo v.ktst) s = (s.writeEnables v).replyOk [] := by
  simp only [ownWritePanel, yesNoOf_yesNo]

theorem State.writeEnables_running {v : PerKey Bool} (off : v.ktst = false) :
    s.writeEnables v = ({ s with keyEnables := v } : State).setTests none s.hostTest :=
  if_neg (by rw [off]; exact Bool.false_ne_true)

/-- Enables that leave KTST enabled, or find no panel test running, are written and nothing more. -/
theorem State.writeEnables_still {v : PerKey Bool} (still : v.ktst = true ∨ s.panelTest = none) :
    s.writeEnables v = { s with keyEnables := v } := by
  cases on : v.ktst with
  | true => exact if_pos on
  | false =>
    have idle : s.panelTest = none := still.resolve_left (by simp [on])
    have same : ({ s with keyEnables := v } : State).withTests none s.hostTest = { s with keyEnables := v } := by
      rw [State.withTests, ← idle]
    rw [State.writeEnables_running on, State.setTests_same (by rw [same]), same]

/-- Settles O37: each row writes the two sources once, and the channels hear of a test that starts or ends. -/
theorem lampTestAndPanelRecord : Obligations.LampTestAndPanelRecord := by
  refine ⟨fun s => ⟨fun b high => exec_answers rfl (if_pos high), fun b ok => ?_, ?_, ?_⟩,
    fun a b c d s range => exec_answers rfl (ownWritePanel_range range), fun v s => ⟨fun still => ?_, fun off => ?_⟩⟩
  · have set := s.testsSet s.panelTest (if b = 0 then none else some (b.toNat * 4000000))
    refine ⟨_, exec_answers rfl (ownLampTest_ok ok s), ?_⟩
    rw [State.setHostTest_eq]
    refine ⟨set.hostTest, set.testSounded, ?_, State.setTests_channels, State.renews_setTests⟩
    rw [set.hostTest]
    exact set.sound
  · have set := s.testsSet none s.hostTest
    have sounded := set.testSounded
    simp only [set.testActive_eq_false_iff, true_and] at sounded
    exact ⟨_, rfl, set.panelTest, sounded, set.sound⟩
  · have set := s.testsSet s.panelTest none
    have sounded := set.testSounded
    simp only [set.testActive_eq_false_iff, and_true] at sounded
    exact ⟨_, rfl, set.hostTest, sounded, set.sound⟩
  · refine exec_answers rfl ((ownWritePanel_yesNo v s).trans ?_)
    rw [State.writeEnables_still still]
    rfl
  · have set := ({ s with keyEnables := v } : State).testsSet none s.hostTest
    refine ⟨_, exec_answers rfl ((ownWritePanel_yesNo v s).trans (by rw [State.writeEnables_running off]; rfl)), ?_⟩
    exact ⟨set.sound.keyEnables_eq, set.panelTest, set.hostTest, set.sound.keys_eq, set.sound.roster_eq, set.sound.alarm_eq⟩

end Sys2Proof.Machine

namespace Sys2Proof.Machine

/-! ## Keys (R110 to R113) -/

variable {s : State} {k : Key}

/-- What a change of a key's line makes of its timer (R110). -/
theorem KeyState.lineTo_eq (x : KeyState) (level : LineLevel) :
    x.lineTo level =
      { x with
        line := level
        timer := if x.line = level then x.timer else if (x.pressed = true ↔ level = .low) then none else some 160000 } := by
  unfold KeyState.lineTo
  split
  · rename_i same
    subst same
    simp
  · rename_i change
    simp only [levelMatches_iff, Config.debounceTime, Config.refclkPerMs, Nat.reduceMul]

theorem exec_debounceExpiry {t : State} (expires : s.expireDebounce k = t) : exec (.debounceExpiry k) s = .next t :=
  congrArg _ expires

/-- A press of an enabled key takes its action and sets PANEL_ACTION (R113). -/
theorem State.expireDebounce_enabled (runs : (s.keys.get k).timer ≠ none) (released : (s.keys.get k).pressed = false)
    (enabled : s.keyEnables.get k = true) :
    s.expireDebounce k = ((s.settleKey k).keyAction k).raise .panelAction := by
  rw [State.expireDebounce_running runs, released]
  exact if_pos enabled

/-- A press of a disabled key is ignored (R112). -/
theorem State.expireDebounce_disabled (runs : (s.keys.get k).timer ≠ none) (released : (s.keys.get k).pressed = false)
    (disabled : s.keyEnables.get k = false) : s.expireDebounce k = s.settleKey k := by
  rw [State.expireDebounce_running runs, released]
  exact if_neg (Bool.eq_false_iff.mp disabled)

theorem State.expireDebounce_release (runs : (s.keys.get k).timer ≠ none) (pressed : (s.keys.get k).pressed = true) :
    s.expireDebounce k = (s.settleKey k).release k := by
  rw [State.expireDebounce_running runs, pressed]
  rfl

/-- At its expiry the debounced state of a key follows its line (R110). -/
theorem State.KeysLegal.expireDebounce_follows (h : s.KeysLegal) (k : Key) :
    ((s.expireDebounce k).keys.get k).timer = none ∧ ((s.expireDebounce k).keys.get k).line = (s.keys.get k).line ∧
      (((s.expireDebounce k).keys.get k).pressed = true ↔ (s.keys.get k).line = .low) := by
  by_cases idle : (s.keys.get k).timer = none
  · rw [State.expireDebounce_idle idle]
    have legal := h k
    rw [idle] at legal
    exact ⟨idle, rfl, not_not.mp (mt legal.mpr Bool.false_ne_true)⟩
  · rw [(State.expireDebounce_sameInputs idle).keys, State.settleKey_keys, if_pos rfl]
    exact ⟨rfl, rfl, KeyState.Legal.settle (h k) (Option.isSome_iff_ne_none.mpr idle)⟩

/-- Settles O36: the key settles, and then the release or the press is taken by its own rule. -/
theorem keysDebounceAndAct : Obligations.KeysDebounceAndAct := by
  refine fun k s => ⟨fun level => ?_, fun idle => exec_debounceExpiry (State.expireDebounce_idle idle),
    fun legal => ⟨_, rfl, legal.expireDebounce_follows k⟩, fun runs => ⟨fun pressed other => ?_, fun pressed own => ?_,
      fun released disabled => exec_debounceExpiry (State.expireDebounce_disabled runs released disabled),
      fun released enabled => ?_⟩⟩
  · rw [← KeyState.lineTo_eq]
    rfl
  · exact exec_debounceExpiry ((State.expireDebounce_release runs pressed).trans (if_neg other))
  · subst own
    have ends : s.expireDebounce .ktst = (s.settleKey .ktst).setTests none s.hostTest :=
      State.expireDebounce_release runs pressed
    have set := (s.settleKey .ktst).testsSet none s.hostTest
    exact ⟨_, exec_debounceExpiry ends, set.panelTest, set.sound.keys_eq, set.sound.roster_eq, set.hostTest,
      set.sound.flags _ rfl⟩
  · have acts := State.expireDebounce_enabled runs released enabled
    refine ⟨?_, ?_, ?_, ?_⟩ <;> rintro rfl
    · exact exec_debounceExpiry acts
    · exact exec_debounceExpiry acts
    · exact exec_debounceExpiry acts
    · have set := (s.settleKey .ktst).testsSet (some 60000000) s.hostTest
      refine ⟨_, exec_debounceExpiry acts, set.panelTest, set.sound.keys_eq, set.sound.roster_eq,
        set.hostTest, ?_, fun panel host => ?_⟩
      · rw [State.flag_raise]
        simp
      · have renews := State.renews_setTests (s := s.settleKey .ktst) (panel := some 60000000) (host := s.hostTest)
          (State.testActive_eq_false_iff.mpr ⟨panel, host⟩) (set.testActive.trans rfl)
        exact ⟨renews.renewed, renews.others⟩

end Sys2Proof.Machine

namespace Sys2Proof.Machine

/-! ## Lamps and CALM (R117, R121 to R126) -/

variable {s : State} {n : LampId} {p : PointId} {r : RosterRecord}

/-! ### The highest-ranked of several patterns (R123) -/

theorem Pattern.rank_over (x y : Pattern) : (x.over y).rank = max x.rank y.rank := by
  unfold Pattern.over
  split <;> omega

theorem Pattern.over_eq (x y : Pattern) : x.over y = x ∨ x.over y = y := by
  unfold Pattern.over
  split
  · exact .inr rfl
  · exact .inl rfl

/-- No pattern of the list, nor the one begun with, ranks above the result, and the result is one of them. -/
theorem Pattern.foldl_over {α : Type} (pattern : α → Pattern) (l : List α) (first : Pattern) :
    first.rank ≤ (l.foldl (fun acc x => acc.over (pattern x)) first).rank ∧
      (∀ x ∈ l, (pattern x).rank ≤ (l.foldl (fun acc x => acc.over (pattern x)) first).rank) ∧
      (l.foldl (fun acc x => acc.over (pattern x)) first = first ∨
        ∃ x ∈ l, pattern x = l.foldl (fun acc x => acc.over (pattern x)) first) := by
  induction l generalizing first with
  | nil => simp
  | cons y ys ih =>
    obtain ⟨above, members, attained⟩ := ih (first.over (pattern y))
    rw [Pattern.rank_over, max_le_iff] at above
    simp only [List.foldl_cons, List.forall_mem_cons, List.exists_mem_cons_iff]
    refine ⟨above.1, ⟨above.2, members⟩, ?_⟩
    rcases attained with result | later
    · rw [result]
      exact (first.over_eq (pattern y)).imp_right fun own => .inl own.symm
    · exact .inr (.inr later)

/-- A lamp line has the highest-ranked of the patterns of the points that name it, and is OFF when none is lit (R123). -/
theorem State.lampPattern_highest (s : State) (n : LampId) :
    (∀ p, (s.cfg p).lamp = some n → (s.pointPattern p).rank ≤ (s.lampPattern n).rank) ∧
      (s.lampPattern n = .off ∨ ∃ p, (s.cfg p).lamp = some n ∧ s.pointPattern p = s.lampPattern n) := by
  have named : ∀ p, p ∈ allPoints.filter (fun p => (s.cfg p).lamp == some n) ↔ (s.cfg p).lamp = some n := by
    simp [allPoints]
  obtain ⟨-, members, attained⟩ :=
    Pattern.foldl_over s.pointPattern (allPoints.filter fun p => (s.cfg p).lamp == some n) .off
  exact ⟨fun p names => members p ((named p).mpr names),
    attained.imp_right fun ⟨p, mem, own⟩ => ⟨p, (named p).mp mem, own⟩⟩

/-! ### The pattern of a point (R122) -/

theorem State.pointPattern_of_record (record : s.recordOf p = some r) :
    s.pointPattern p = patternOf (s.alarmOf p) r.firstOut := by
  rw [State.pointPattern, record, Option.any_some]

/-! ### The intervals of the flash frame (R121) -/

theorem phaseIn_iff (phase a b : Nat) : phaseIn phase a b = true ↔ a * 4000 ≤ phase ∧ phase < b * 4000 := by
  simp [phaseIn]

theorem Pattern.onAt_slow (phase : Nat) : Pattern.slow.onAt phase = true ↔ phase < 2000000 := by
  simp [Pattern.onAt, phaseIn_iff]

theorem Pattern.onAt_wink (phase : Nat) : Pattern.wink.onAt phase = true ↔ phase < 400000 := by
  simp [Pattern.onAt, phaseIn_iff]

theorem Pattern.onAt_double (phase : Nat) :
    Pattern.double.onAt phase = true ↔ phase < 400000 ∨ 800000 ≤ phase ∧ phase < 1200000 := by
  simp [Pattern.onAt, phaseIn_iff]

theorem Pattern.onAt_fast (phase : Nat) :
    Pattern.fast.onAt phase = true ↔ phase < 500000 ∨ 1000000 ≤ phase ∧ phase < 1500000 ∨
      2000000 ≤ phase ∧ phase < 2500000 ∨ 3000000 ≤ phase ∧ phase < 3500000 := by
  simp [Pattern.onAt, phaseIn_iff, or_assoc]

/-- While the lamp test is active every line shows STEADY (R117). -/
theorem State.lampLine_tested (active : s.testActive = true) (n : LampId) : s.lampLine .high n = true := by
  simp only [State.lampLine, underReset, State.lampShown, active, if_true, Pattern.onAt]

theorem State.lampLine_untested (idle : s.testActive = false) (n : LampId) :
    s.lampLine .high n = (s.lampPattern n).onAt s.flashPhase := by
  simp only [State.lampLine, underReset, State.lampShown, idle, Bool.false_eq_true, if_false]

/-! ### CALM (R126) -/

theorem AlarmState.calls_iff (a : AlarmState) : a.calls = true ↔ a = .alert ∨ a = .returned ∨ a = .deferred := by
  cases a <;> decide

theorem State.calm_iff :
    s.calm = true ↔ ∃ p, s.alarmOf p = .alert ∨ s.alarmOf p = .returned ∨ s.alarmOf p = .deferred := by
  simp [State.calm, allPoints, AlarmState.calls_iff]

/-- Settles O38: the outputs are read off the state by R121 to R126. -/
theorem lampsAndCalm : Obligations.LampsAndCalm := by
  intro s
  refine ⟨exec_answers rfl ?_, fun n => (s.lampPattern_highest n).1, fun n => (s.lampPattern_highest n).2,
    fun p r record state => ?_, fun p => ?_, State.lampLine_tested, fun idle n => ?_, fun _ => rfl, rfl, rfl, State.calm_iff⟩
  · show ownReadLamps s = _
    rw [ownReadLamps, secondsLeft_eq]
    rfl
  · rw [State.pointPattern_of_record record]
    rcases state with alarm | alarm <;> rw [alarm] <;> rfl
  · refine ⟨fun alarm => ?_, fun alarm => ?_, fun alarm => ?_, ?_⟩
    · rw [State.pointPattern, alarm, patternOf]
    · rw [State.pointPattern, alarm, patternOf]
    · rw [State.pointPattern, alarm, patternOf]
    · rintro (alarm | alarm | alarm) <;> rw [State.pointPattern, alarm, patternOf]
  · rw [State.lampLine_untested idle]
    refine ⟨?_, ?_, ?_, ?_, ?_, ?_⟩ <;> intro pattern <;> rw [pattern]
    · rfl
    · rfl
    · exact Pattern.onAt_slow _
    · exact Pattern.onAt_wink _
    · exact Pattern.onAt_double _
    · exact Pattern.onAt_fast _

end Sys2Proof.Machine

namespace Sys2Proof.Machine

/-! ## The step end (R154 to R158, R160) -/

variable {s t v : State} {c k : Chan} {pl : Player} {d : Demand}

/-! ### A step as it starts (R128, R133, R154) -/

/-- The player's step copy is the one that its step gives, and the whole of its time is left (R154). -/
def State.Copied (s : State) (q : CueContents) (np : Player) : Prop :=
  ∀ st : CueStep, q.steps[np.stepIndex]? = some st →
    np.copy.tone = st.tone ∧ np.copy.length = st.length ∧ np.copy.ms = tempoMs (q.tempoAt np.stepIndex) ∧
    (∀ i : ToneId, st.tone = .tone i → np.copy.frequency = some s.tones[i]) ∧
    (st.tone = .rest → np.copy.frequency = none) ∧ np.timeLeft = st.length * np.copy.ms * 4000

theorem State.copied_startStep (s : State) (pl : Player) (source : Option Nat) (i : Nat) :
    s.Copied (s.contents pl.playedCue) (s.startStep pl source i) := by
  intro st there
  have step : ((s.contents pl.playedCue).steps[i]?).getD ⟨.rest, 1⟩ = st := by
    rw [show (s.contents pl.playedCue).steps[i]? = some st from there, Option.getD_some]
  simp only [State.startStep, State.copyStep, step, StepCopy.duration]
  refine ⟨trivial, trivial, trivial, fun i tone => ?_, fun rest => ?_, trivial⟩
  · rw [tone]
  · rw [rest]

/-- A loop's counter on arrival at a step: loaded at the loop's first step from outside its span, else kept (R133). -/
theorem loadCounters_getElem? {loops : List LoopEntry} {counters : List Nat} (length : counters.length = loops.length)
    (source : Option Nat) (i : Nat) {k : Nat} {l : LoopEntry} (there : loops[k]? = some l) :
    (loadCounters loops source i counters)[k]? =
      if l.first = i ∧ ¬ (source.any l.inSpan = true) then some l.count else counters[k]? := by
  have bound : k < counters.length := length ▸ (List.getElem?_eq_some_iff.mp there).1
  rw [loadCounters, List.getElem?_zipWith, there, List.getElem?_eq_getElem bound]
  dsimp only
  split <;> rfl

theorem LoopEntry.inSpan_iff (l : LoopEntry) (i : Nat) : l.inSpan i = true ↔ l.first ≤ i ∧ i ≤ l.last := by
  simp [LoopEntry.inSpan]

/-! ### A pass as it begins (R153) -/

theorem State.resolve_eq (s : State) (q : CueId) : s.resolve q = if s.cues[q] ≠ none then q else 0 := by
  simp only [State.resolve, State.ready, Option.isSome_iff_ne_none, fallbackCue]

/-- The player is at the start of a pass for a demand (R153). -/
def State.Fresh (s : State) (d : Demand) (np : Player) : Prop :=
  let q : CueId := if s.cues[d.cue] ≠ none then d.cue else 0
  np.current = d ∧ np.playedCue = q ∧ np.passPolicy = (s.contents q).policy ∧ np.stepIndex = 0 ∧
  s.Copied (s.contents q) np ∧
  (∀ (k : Nat) (l : LoopEntry), (s.contents q).loops[k]? = some l →
    np.counters[k]? = some (if l.first = 0 then l.count else 0)) ∧
  (np.firmHold = true ↔ (s.contents q).policy = .firm) ∧ np.renewed = false ∧ np.replacementPending = false

theorem State.fresh_passStart (s : State) (d : Demand) : s.Fresh d (s.passStart d.owner d.cue) := by
  unfold State.Fresh
  rw [← State.resolve_eq]
  have copied : s.Copied _ (s.passStart d.owner d.cue) := State.copied_startStep s _ none 0
  refine ⟨rfl, rfl, rfl, rfl, copied, fun k l there => ?_, beq_iff_eq, rfl, rfl⟩
  have loaded := loadCounters_getElem? (counters := (s.contents (s.resolve d.cue)).loops.map fun _ => 0) (by simp) none 0 there
  refine Eq.trans loaded ?_
  rw [List.getElem?_map, there]
  simp only [Option.any_none, Bool.false_eq_true, not_false_eq_true, and_true, Option.map_some]
  split <;> rfl

/-- A channel has begun a pass for a demand, and its cue's being EMPTY is the one flag this sets (R153). -/
structure State.BeginsPass (s : State) (c : Chan) (d : Demand) (t : State) : Prop where
  player : ∃ np, t.playerOf c = some np ∧ s.Fresh d np
  fallback : s.cues[d.cue] = none → t.flag .cueFallback = true
  events : s.cues[d.cue] ≠ none → t.events = s.events
  sound : State.SoundFrame s t

theorem State.beginsPass_beginPass (s : State) (c : Chan) (d : Demand) : State.BeginsPass s c d (s.beginPass c d) := by
  refine ⟨⟨_, (s.playerOf_beginPass c c d).trans (if_pos rfl), s.fresh_passStart d⟩, fun empty => ?_, fun ready => ?_,
    .beginPass s c d⟩
  · have noted : s.noteFallback d.cue = s.raise .cueFallback := if_neg (by simp [State.ready, empty])
    show (s.noteFallback d.cue).flag .cueFallback = true
    rw [noted, State.flag_raise]
    simp
  · have silent : s.noteFallback d.cue = s := if_pos (Option.isSome_iff_ne_none.mpr ready)
    show (s.noteFallback d.cue).events = s.events
    rw [silent]

/-! ### The ways on from a step end (R155, R156, R160) -/

theorem State.endStep_replaced (playing : s.playerOf c = some pl) (pending : pl.replacementPending = true) :
    s.endStep c = s.continueReplaced c pl := by
  simp only [State.endStep, playing, pending, if_true]

/-- Without hold a differing wanted demand, or none, is taken at the step end. -/
theorem State.endStep_switches (playing : s.playerOf c = some pl) (settled : pl.replacementPending = false)
    (free : pl.firmHold = false) (differs : s.wanted c ≠ some pl.current) : s.endStep c = s.switchTo c (s.wanted c) := by
  simp only [State.endStep, playing, settled, Bool.false_eq_true, if_false, if_pos (And.intro free differs)]

theorem State.endStep_goesOn (playing : s.playerOf c = some pl) (settled : pl.replacementPending = false)
    (goes : pl.firmHold = true ∨ s.wanted c = some pl.current) : s.endStep c = s.advanceStep c pl := by
  have stays : ¬ (pl.firmHold = false ∧ s.wanted c ≠ some pl.current) := fun ⟨free, differs⟩ =>
    goes.elim (fun held => Bool.false_ne_true (free.symm.trans held)) differs
  simp only [State.endStep, playing, settled, Bool.false_eq_true, if_false, if_neg stays]

theorem State.advanceStep_jump {counters : List Nat} {target : Nat}
    (jump : loopJump (s.contents pl.playedCue).loops pl.stepIndex pl.counters = some (counters, target)) :
    s.advanceStep c pl =
      s.setPlayer c (some (s.startStep { pl with counters := counters } (some pl.stepIndex) target)) := by
  simp only [State.advanceStep, jump]

theorem State.advanceStep_next (straight : loopJump (s.contents pl.playedCue).loops pl.stepIndex pl.counters = none)
    (more : pl.stepIndex + 1 < (s.contents pl.playedCue).steps.length) :
    s.advanceStep c pl = s.setPlayer c (some (s.startStep pl (some pl.stepIndex) (pl.stepIndex + 1))) := by
  simp only [State.advanceStep, straight, if_pos more]

theorem State.advanceStep_ends (straight : loopJump (s.contents pl.playedCue).loops pl.stepIndex pl.counters = none)
    (last : (s.contents pl.playedCue).steps.length ≤ pl.stepIndex + 1) : s.advanceStep c pl = s.passEnd c pl := by
  simp only [State.advanceStep, straight, if_neg (Nat.not_lt.mpr last)]

/-- At a pass end the channel begins what is wanted, be it the demand it has, or goes IDLE (R156). -/
theorem State.comparePassEnd_eq (s : State) (c : Chan) (pl : Player) : s.comparePassEnd c pl = s.switchTo c (s.wanted c) := by
  unfold State.comparePassEnd
  split
  · rename_i wants
    rw [wants]
    rfl
  · rfl

theorem State.passEnd_again (again : (s.contents pl.playedCue).policy = .repeating ∨ pl.renewed = true) :
    s.passEnd c pl = s.switchTo c (s.wanted c) := (if_pos again).trans (s.comparePassEnd_eq c pl)

/-- The state once the owner of a finished pass is marked as sounded and its channel has taken what is wanted then. -/
def State.soundedOn (s : State) (c : Chan) (o : Owner) : State :=
  (s.markSounded c o).switchTo c ((s.markSounded c o).wanted c)

theorem State.passEnd_sounded (once : (s.contents pl.playedCue).policy ≠ .repeating) (unrenewed : pl.renewed = false) :
    s.passEnd c pl = (s.soundedOn c pl.owner).compareSince s := by
  have marks : ¬ ((s.contents pl.playedCue).policy = .repeating ∨ pl.renewed = true) := by simp [once, unrenewed]
  rw [State.passEnd, if_neg marks, State.comparePassEnd_eq, State.soundedOn]

/-- After a COMMIT of its cue a pass is kept when it is held in the new contents too or still wanted (R160). -/
theorem State.continueReplaced_keeps
    (keeps : (pl.firmHold = true ∧ (s.contents (s.resolve pl.demandedCue)).policy = .firm) ∨ s.wanted c = some pl.current) :
    s.continueReplaced c pl = s.beginPass c pl.current := by
  refine if_neg fun ⟨free, differs⟩ => ?_
  rcases keeps with ⟨held, firm⟩ | wants
  · simp [held, firm] at free
  · exact differs wants

theorem State.continueReplaced_switches
    (free : ¬ (pl.firmHold = true ∧ (s.contents (s.resolve pl.demandedCue)).policy = .firm)) :
    s.continueReplaced c pl = s.switchTo c (s.wanted c) := by
  by_cases wants : s.wanted c = some pl.current
  · rw [State.continueReplaced_keeps (.inr wants), wants]
    rfl
  · exact if_pos ⟨by simpa using free, wants⟩

/-! ### What a comparison leaves (R152, R163, R188) -/

/-- Everything a comparison can do to a channel: nothing, or a switch to what is wanted. -/
theorem State.compareChannel_cases (s : State) (c : Chan) :
    s.compareChannel c = s ∨ s.compareChannel c = s.switchTo c (s.wanted c) := by
  unfold State.compareChannel
  split
  · split
    · rename_i wants
      rw [wants]
      exact .inr rfl
    · exact .inl rfl
  · split
    · exact .inl rfl
    · split
      · exact .inr rfl
      · exact .inl rfl

theorem State.flag_switchTo {w : Option Demand} {e : Event} (set : s.flag e = true) : (s.switchTo c w).flag e = true := by
  cases w with
  | none =>
    show ((s.setPlayer c none).raise (idleEvent c)).flag e = true
    rw [State.flag_raise, show (s.setPlayer c none).flag e = true from set, Bool.true_or]
  | some d =>
    show (s.noteFallback d.cue).flag e = true
    unfold State.noteFallback
    split
    · exact set
    · rw [State.flag_raise, set, Bool.true_or]

theorem State.flag_compareChannelSince {before : State} {e : Event} (set : s.flag e = true) :
    (s.compareChannelSince before c).flag e = true := by
  unfold State.compareChannelSince
  split
  · exact set
  · rcases s.compareChannel_cases c with same | switches
    · rwa [same]
    · rw [switches]
      exact State.flag_switchTo set

/-- A set flag stays set over the comparison of both channels. -/
theorem State.flag_compareSince {before : State} {e : Event} (set : s.flag e = true) :
    (s.compareSince before).flag e = true := State.flag_compareChannelSince (State.flag_compareChannelSince set)

/-- A channel that serves what is wanted, or is IDLE and wants nothing, compares without effect. -/
theorem State.compareChannelSince_serving (before : State) (serves : (s.playerOf c).map Player.current = s.wanted c) :
    s.compareChannelSince before c = s := by
  refine (ite_eq_left_iff.mpr fun _ => ?_)
  cases playing : s.playerOf c with
  | none => exact State.compareChannel_idle playing (by rw [← serves, playing]; rfl)
  | some pl => exact State.compareChannel_serving playing (by rw [← serves, playing]; rfl)

theorem State.playerOf_compareSince_serving (before : State) (serves : (s.playerOf c).map Player.current = s.wanted c) :
    (s.compareSince before).playerOf c = s.playerOf c := by
  unfold State.compareSince
  cases c with
  | a =>
    rw [State.playerOf_compareChannelSince_ne _ before (by decide), State.compareChannelSince_serving before serves]
  | b =>
    have other : (s.compareChannelSince before .a).playerOf .b = s.playerOf .b :=
      s.playerOf_compareChannelSince_ne before (by decide)
    rw [State.compareChannelSince_serving before, other]
    rw [other, (State.SoundFrame.compareChannelSince s before .a).wanted]
    exact serves

theorem State.playerOf_switchTo (s : State) (c : Chan) (w : Option Demand) :
    ((s.switchTo c w).playerOf c).map Player.current = w := by
  cases w with
  | none => exact congrArg _ ((s.playerOf_setPlayer c c none).trans (if_pos rfl))
  | some d => exact congrArg _ ((s.playerOf_beginPass c c d).trans (if_pos rfl))

end Sys2Proof.Machine

namespace Sys2Proof.Machine

/-! ### The player after a step end, and the whole row -/

variable {s t : State} {c : Chan} {pl np : Player} {d : Demand} {o : Owner}

/-- The player has arrived at a step of the pass it was in, with these counters before the arrival (R133, R154). -/
def State.Arrives (s : State) (pl np : Player) (counters : List Nat) : Prop :=
  let q := s.contents pl.playedCue
  np.current = pl.current ∧ np.playedCue = pl.playedCue ∧ np.firmHold = pl.firmHold ∧ np.renewed = pl.renewed ∧
  np.passPolicy = pl.passPolicy ∧ np.replacementPending = false ∧ s.Copied q np ∧
  (counters.length = q.loops.length → ∀ (k : Nat) (l : LoopEntry), q.loops[k]? = some l →
    np.counters[k]? =
      if l.first = np.stepIndex ∧ ¬ (l.first ≤ pl.stepIndex ∧ pl.stepIndex ≤ l.last) then some l.count else counters[k]?)

theorem State.arrives_startStep (settled : pl.replacementPending = false) (counters : List Nat) (i : Nat) :
    s.Arrives pl (s.startStep { pl with counters := counters } (some pl.stepIndex) i) counters := by
  refine ⟨rfl, rfl, rfl, rfl, rfl, settled, State.copied_startStep s { pl with counters := counters } _ i,
    fun length k l there => ?_⟩
  have loaded := loadCounters_getElem? length (some pl.stepIndex) i there
  simp only [Option.any_some, LoopEntry.inSpan_iff] at loaded
  exact loaded

theorem State.endStep_idle (idle : s.playerOf c = none) : s.endStep c = s := by
  simp only [State.endStep, idle]

/-! ### A pass that has sounded (R118, R156) -/

theorem State.Fresh.of_markSounded (fresh : (s.markSounded c o).Fresh d np) : s.Fresh d np := by
  cases o <;> exact fresh

theorem State.markSounded_cues (s : State) (c : Chan) (o : Owner) : (s.markSounded c o).cues = s.cues := by cases o <;> rfl

theorem State.markSounded_alarm (s : State) (c : Chan) (o : Owner) : (s.markSounded c o).alarm = s.alarm := by
  cases o <;> rfl

theorem State.SoundFrame.soundedOn (s : State) (c : Chan) (o : Owner) :
    State.SoundFrame (s.markSounded c o) ((s.soundedOn c o).compareSince s) :=
  (State.SoundFrame.switchTo _ c _).trans (.compareSince _ s)

/-- The channel serves what it wants once the mark is written, and the comparison of both leaves it at that. -/
theorem State.playerOf_soundedOn (s : State) (c : Chan) (o : Owner) :
    ((s.soundedOn c o).compareSince s).playerOf c = (s.soundedOn c o).playerOf c :=
  State.playerOf_compareSince_serving s
    ((State.playerOf_switchTo _ c _).trans ((State.SoundFrame.switchTo (s.markSounded c o) c _).wanted c).symm)

/-- What an unrenewed SINGLE or FIRM pass leaves behind it. -/
structure State.Sounded (s : State) (c : Chan) (o : Owner) (t : State) : Prop where
  alarm : t.alarm = s.alarm
  serves : (t.playerOf c).map Player.current = t.wanted c
  idle : t.wanted c = none → t.flag (idleEvent c) = true
  begins : ∀ d : Demand, t.wanted c = some d → (∃ np, t.playerOf c = some np ∧ s.Fresh d np) ∧
    (s.cues[d.cue] = none → t.flag .cueFallback = true)
  record : ∀ p st, o = .record p st → t.testSounded = s.testSounded ∧
    t.roster = s.roster.map fun r => if r.point = p ∧ r.stamp = st then { r with sounded := true } else r
  test : o = .test → t.roster = s.roster ∧ t.testSounded = s.testSounded.put c true

theorem State.sounded_compareSince (s : State) (c : Chan) (o : Owner) :
    State.Sounded s c o ((s.soundedOn c o).compareSince s) := by
  have sound := State.SoundFrame.soundedOn s c o
  have player := s.playerOf_soundedOn c o
  have switched : ∀ w, (s.markSounded c o).wanted c = w → s.soundedOn c o = (s.markSounded c o).switchTo c w := by
    rintro w rfl
    rfl
  refine ⟨sound.alarm_eq.trans (s.markSounded_alarm c o), ?_, fun nothing => ?_, fun d wants => ?_, ?_, ?_⟩
  · rw [player, sound.wanted]
    exact State.playerOf_switchTo _ c _
  · rw [sound.wanted] at nothing
    refine State.flag_compareSince ?_
    rw [switched _ nothing]
    show (((s.markSounded c o).setPlayer c none).raise (idleEvent c)).flag (idleEvent c) = true
    simp [State.flag_raise]
  · rw [sound.wanted] at wants
    have begun := State.beginsPass_beginPass (s.markSounded c o) c d
    obtain ⟨np, playing, fresh⟩ := begun.player
    rw [player, switched _ wants]
    refine ⟨⟨np, playing, fresh.of_markSounded⟩, fun empty => State.flag_compareSince (begun.fallback ?_)⟩
    rwa [s.markSounded_cues c o]
  · rintro p st rfl
    exact ⟨sound.testSounded_eq, sound.roster_eq⟩
  · rintro rfl
    exact ⟨sound.roster_eq, sound.testSounded_eq⟩

/-- Settles O45: R155 decides which of the ways on is taken, and each way is one operation on the channel. -/
theorem stepEndsInOrder : Obligations.StepEndsInOrder := by
  intro c s goesIdle copied fresh begins
  have idles : s.endStep c = s.switchTo c none → goesIdle := congrArg Host.Outcome.next
  have starts : ∀ d, s.endStep c = s.switchTo c (some d) → begins d := fun d way => by
    have begun := State.beginsPass_beginPass s c d
    obtain ⟨np, playing, isFresh⟩ := begun.player
    exact ⟨_, np, congrArg Host.Outcome.next way, playing, isFresh, begun.fallback, begun.events, begun.sound.roster_eq,
      begun.sound.testSounded_eq⟩
  refine ⟨fun idle => congrArg Host.Outcome.next (State.endStep_idle idle), fun pl playing pending => ?_,
    fun pl playing settled => ⟨fun free nothing => ?_, fun d free wants differs => ?_, fun goes => ?_⟩⟩
  · intro held
    have resolved := s.resolve_eq pl.demandedCue
    have way := State.endStep_replaced playing pending
    have switches (free : ¬ held) : s.endStep c = s.switchTo c (s.wanted c) :=
      way.trans (State.continueReplaced_switches (resolved ▸ free))
    exact ⟨fun keeps => starts _ (way.trans (State.continueReplaced_keeps (resolved ▸ keeps))),
      fun free nothing => idles (nothing ▸ switches free), fun d free wants => starts d (wants ▸ switches free)⟩
  · have switches := State.endStep_switches playing settled free (by rw [nothing]; exact nofun)
    exact idles (nothing ▸ switches)
  · have switches := State.endStep_switches playing settled free fun same =>
      differs (Option.some.inj (wants.symm.trans same))
    exact starts d (wants ▸ switches)
  · have way := State.endStep_goesOn playing settled goes
    refine ⟨fun counters target jump => ?_,
      fun straight => ⟨fun more => ?_, fun last => ⟨fun again => ?_, fun once unrenewed => ?_⟩⟩⟩
    · exact ⟨_, congrArg Host.Outcome.next (way.trans (State.advanceStep_jump jump)), rfl,
        State.arrives_startStep settled counters target⟩
    · exact ⟨_, congrArg Host.Outcome.next (way.trans (State.advanceStep_next straight more)), rfl,
        State.arrives_startStep settled pl.counters _⟩
    · have switches := (way.trans (State.advanceStep_ends straight last)).trans (State.passEnd_again again)
      exact ⟨fun nothing => idles (nothing ▸ switches), fun d wants => starts d (wants ▸ switches)⟩
    · have ends := (way.trans (State.advanceStep_ends straight last)).trans (State.passEnd_sounded once unrenewed)
      have sounded := State.sounded_compareSince s c pl.owner
      exact ⟨_, congrArg Host.Outcome.next ends, sounded.alarm, sounded.serves, sounded.idle, sounded.begins, sounded.record,
        sounded.test⟩

end Sys2Proof.Machine

namespace Sys2Proof

/-- A table with the entries of a list written from an offset on, those beyond its end ignored: what `writeSlotsFrom` and
`writeTonesFrom` do. -/
def Table.putFrom {α : Type} {n : Nat} (t : Table α n) (offset : Nat) : List α → Table α n
  | [] => t
  | x :: xs => Table.putFrom (if h : offset < n then t.put ⟨offset, h⟩ x else t) (offset + 1) xs

theorem Table.getElem_putFrom {α : Type} {n : Nat} (t : Table α n) (offset : Nat) (l : List α) (i : Fin n) :
    (t.putFrom offset l)[i] = if offset ≤ i.val then (l[i.val - offset]?).getD t[i] else t[i] := by
  induction l generalizing t offset with
  | nil => simp [Table.putFrom]
  | cons x xs ih =>
    have first : (if h : offset < n then t.put ⟨offset, h⟩ x else t)[i] = if offset = i.val then x else t[i] := by
      split
      · simp only [Table.getElem_put, Fin.ext_iff]
      · rw [if_neg (by omega)]
    rw [Table.putFrom, ih, first]
    rcases Nat.lt_trichotomy offset i.val with before | rfl | after
    · have next : i.val - offset = i.val - (offset + 1) + 1 := by omega
      rw [if_pos (Nat.succ_le_of_lt before), if_pos before.le, if_neg before.ne, next, List.getElem?_cons_succ]
    · simp
    · rw [if_neg (by omega), if_neg (by omega), if_neg (by omega)]

end Sys2Proof

namespace Sys2Proof.Machine

/-! ## The edit session (R135 to R140, R142) -/

variable {s : State} {e : EditSession} {b : Byte} {h : HeaderBytes} {l : List StepBytes} {q : CueId}

theorem writeSlotsFrom_eq (t : Table StepBytes 16) (offset : Nat) (l : List StepBytes) :
    writeSlotsFrom t offset l = t.putFrom offset l := by
  induction l generalizing t offset with
  | nil => rfl
  | cons x xs ih => exact ih _ _

theorem writeTonesFrom_eq (t : Table Half 24) (first : Nat) (l : List Half) :
    writeTonesFrom t first l = t.putFrom first l := by
  induction l generalizing t first with
  | nil => rfl
  | cons f fs ih => exact ih _ _

/-! ### The session and the operands as they are read -/

theorem State.openSession_eq_some_iff : s.openSession = some e ↔ s.edit = some e ∧ e.phase = .openPhase := by
  unfold State.openSession
  cases s.edit with
  | none => simp
  | some e' =>
    simp only [Option.ite_none_right_eq_some, Option.some.injEq]
    exact ⟨fun ⟨phase, same⟩ => ⟨same, same ▸ phase⟩, fun ⟨same, phase⟩ => ⟨same ▸ phase, same⟩⟩

theorem State.openSession_eq_none (busy : ∀ e, s.edit = some e → e.phase = .validating) : s.openSession = none := by
  refine Option.eq_none_iff_forall_ne_some.mpr fun e opened => ?_
  obtain ⟨editing, phase⟩ := State.openSession_eq_some_iff.mp opened
  exact nomatch (busy e editing).symm.trans phase

theorem loadableOf_none (range : b.toNat < 8 ∨ 31 < b.toNat) : loadableOf b = none := by
  unfold loadableOf
  split
  · exact numbered_none (by omega)
  · rfl

theorem numbered_cue (q : CueId) : numbered 32 (byteOf q.val) = some q := numbered_byteOf (by decide) q

theorem loadableOf_byteOf (loadable : 8 ≤ q.val) : loadableOf (byteOf q.val) = some q := by
  have value : (byteOf q.val).toNat = q.val := by
    simp only [byteOf, BitVec.toNat_ofNat]
    omega
  rw [loadableOf, value, if_pos loadable, numbered_cue]

theorem loadableOf_loadable (read : loadableOf b = some q) : 8 ≤ q.val := by
  unfold loadableOf at read
  split at read
  · unfold numbered at read
    split at read
    · obtain rfl := Option.some.inj read
      assumption
    · exact nomatch read
  · exact nomatch read

theorem cuePolicyOf_none (range : 2 < b.toNat) : cuePolicyOf b = none := by
  unfold cuePolicyOf
  split_ifs with zero one two
  · simp [zero] at range
  · simp [one] at range
  · simp [two] at range
  · rfl

theorem headerOf_none (range : 2 < h.policy.toNat ∨ 2 < h.loopCount.toNat) : headerOf h = none := by
  unfold headerOf
  rcases range with policy | loops
  · rw [cuePolicyOf_none policy]
  · cases cuePolicyOf h.policy with
    | none => rfl
    | some policy => exact if_pos loops

theorem headerOf_code {policy : CuePolicy} (code : h.policy = policy.code) (loops : h.loopCount.toNat ≤ 2) :
    headerOf h = some
      { policy := policy
        tempo := h.tempo
        alt := if h.altFrom = 0 then none else some (h.altFrom, h.altTempo)
        loops := [h.loop0, h.loop1].take h.loopCount.toNat } := by
  rw [headerOf, code, cuePolicyOf_code]
  exact if_neg (Nat.not_lt.mpr loops)

/-! ### The writes of the session -/

/-- Settles O39: each write is the owner's reply on the session as it is read, and the slots written are those of a table
written from an offset on. -/
theorem editSessionWrites : Obligations.EditSessionWrites := by
  refine ⟨fun b s range => exec_answers rfl ?_,
    fun q s loadable => ⟨fun editing => exec_answers rfl ?_, fun closed => exec_answers rfl ?_⟩,
    fun h o l s busy => ⟨exec_answers rfl ?_, exec_answers rfl ?_⟩,
    fun h e s editing phase => ⟨fun range => exec_answers rfl ?_, fun policy code loops => exec_answers rfl ?_⟩,
    fun o l e s editing phase => ⟨fun range => exec_answers rfl ?_, fun some fits =>
      ⟨writeSlotsFrom e.steps o.toNat l, exec_answers rfl ?_, fun i => ?_⟩⟩⟩
  · show ownBeginEdit b s = s.refuse .range
    rw [ownBeginEdit, loadableOf_none range]
  · show ownBeginEdit _ s = s.refuse .state
    rw [ownBeginEdit, loadableOf_byteOf loadable]
    exact if_pos (Option.isSome_iff_ne_none.mpr editing)
  · show ownBeginEdit _ s = (s.setEdit (some (freshSession q))).replyOk []
    rw [ownBeginEdit, loadableOf_byteOf loadable]
    simp only [closed, Option.isSome_none, Bool.false_eq_true, if_false]
  · show ownWriteCueHeader h s = s.refuse .state
    rw [ownWriteCueHeader, State.openSession_eq_none busy]
  · show ownWriteSteps o l s = s.refuse .state
    rw [ownWriteSteps, State.openSession_eq_none busy]
  · show ownWriteCueHeader h s = (s.setEdit (some e.touched)).refuse .range
    simp only [ownWriteCueHeader, State.openSession_eq_some_iff.mpr ⟨editing, phase⟩, headerOf_none range]
  · show ownWriteCueHeader h s = _
    simp only [ownWriteCueHeader, State.openSession_eq_some_iff.mpr ⟨editing, phase⟩, headerOf_code code loops]
    rfl
  · show ownWriteSteps o l s = (s.setEdit (some e.touched)).refuse .range
    simp only [ownWriteSteps, State.openSession_eq_some_iff.mpr ⟨editing, phase⟩, if_pos range]
  · show ownWriteSteps o l s = _
    simp only [ownWriteSteps, State.openSession_eq_some_iff.mpr ⟨editing, phase⟩]
    exact if_neg (not_or.mpr ⟨some, Nat.not_lt.mpr fits⟩)
  · rw [writeSlotsFrom_eq, Table.getElem_putFrom]

/-! ### The session's end -/

/-- Settles O42: the abort and the expiry find the session OPEN and end it, or find none. -/
theorem editSessionEnds : Obligations.EditSessionEnds := by
  refine ⟨fun s busy => exec_answers rfl ?_, fun e s editing phase => exec_answers rfl ?_,
    fun e s editing phase runs => congrArg Host.Outcome.next ?_, fun s stopped => congrArg Host.Outcome.next ?_⟩
  · show ownAbortEdit s = s.refuse .state
    rw [ownAbortEdit, State.openSession_eq_none busy]
  · show ownAbortEdit s = s.endEdit.replyOk []
    rw [ownAbortEdit, State.openSession_eq_some_iff.mpr ⟨editing, phase⟩]
  · show s.expireEdit = s.endEdit
    rw [State.expireEdit, State.openSession_eq_some_iff.mpr ⟨editing, phase⟩]
    exact if_pos (Option.isSome_iff_ne_none.mpr runs)
  · show s.expireEdit = s
    unfold State.expireEdit
    split
    · rename_i e opened
      obtain ⟨editing, phase⟩ := State.openSession_eq_some_iff.mp opened
      rcases stopped e editing with busy | idle
      · exact nomatch busy.symm.trans phase
      · rw [idle]
        rfl
    · rfl

end Sys2Proof.Machine

namespace Sys2Proof

/-! ## The check of COMMIT (R127, R141)

### Its tests of a step and of a loop entry, as the manual words them -/

/-- A step's tone is one of the table's or REST (test 2). -/
def StepBytes.ToneGood (st : StepBytes) : Prop := st.tone.toNat ≤ 23 ∨ st.tone = 0x80

/-- A step's length is one that a cue step may have (test 3). -/
def StepBytes.LengthGood (st : StepBytes) : Prop := 1 ≤ st.length.toNat ∧ st.length.toNat ≤ 16

/-- A loop entry has a count and a span that a cue of so many steps may hold (test 6). -/
def LoopBytes.Good (stepCount : Nat) (l : LoopBytes) : Prop :=
  2 ≤ l.count.toNat ∧ l.count.toNat ≤ 15 ∧ l.first.toNat ≤ l.last.toNat ∧ l.last.toNat < stepCount

/-- The loop entry that a COMMIT makes of its bytes. -/
def LoopBytes.entry (l : LoopBytes) : Machine.LoopEntry := ⟨l.first.toNat, l.last.toNat, l.count.toNat⟩

end Sys2Proof

namespace Sys2Proof.Machine

variable {e : EditSession} {b : Byte} {i : Nat}

/-! ### Its seven tests -/

/-- The session has steps, and each is one that a cue may hold (tests 1 to 3). -/
def EditSession.StepsGood (e : EditSession) : Prop :=
  1 ≤ e.stepCount ∧ ∀ st ∈ e.written, st.ToneGood ∧ st.LengthGood

/-- The alternate tempo is absent, or starts within the cue and is a tempo (test 5). -/
def EditSession.AltGood (e : EditSession) : Prop :=
  ∀ a ∈ e.header.alt, 1 ≤ a.1.toNat ∧ a.1.toNat < e.stepCount ∧ a.2.toNat ≤ 11

/-- Of a list's entries the one at `i` is the first that is not good. -/
def FailsFirst {α : Type} (good : α → Prop) (l : List α) (i : Nat) : Prop :=
  (∃ x, l[i]? = some x ∧ ¬ good x) ∧ ∀ (j : Nat) (x : α), j < i → l[j]? = some x → good x

theorem firstFailing_eq_some_iff {α : Type} {ok : α → Bool} {good : α → Prop} (same : ∀ x, ok x = true ↔ good x)
    (l : List α) : firstFailing ok l = some i ↔ FailsFirst good l i := by
  rw [firstFailing, List.findIdx?_eq_some_iff_getElem, FailsFirst]
  simp only [List.getElem?_eq_some_iff, ← same, Bool.not_eq_true', Bool.not_eq_true]
  constructor
  · rintro ⟨there, fails, before⟩
    exact ⟨⟨_, ⟨there, rfl⟩, fails⟩, fun j x below ⟨_, at_j⟩ => by simpa [at_j] using before j below⟩
  · rintro ⟨⟨x, ⟨there, rfl⟩, fails⟩, before⟩
    exact ⟨there, fails, fun j below => by simpa using before j _ below ⟨below.trans there, rfl⟩⟩

theorem firstFailing_eq_none_iff {α : Type} {ok : α → Bool} {good : α → Prop} (same : ∀ x, ok x = true ↔ good x)
    (l : List α) : firstFailing ok l = none ↔ ∀ x ∈ l, good x := by
  simp only [firstFailing, List.findIdx?_eq_none_iff, Bool.not_eq_false', same]

theorem toneOf_isSome (st : StepBytes) : (toneOf st.tone).isSome = true ↔ st.ToneGood := by
  unfold toneOf StepBytes.ToneGood
  split
  · rename_i rest
    simp [rest]
  · rename_i tone
    rw [Option.isSome_map, numbered_isSome, or_iff_left tone, Nat.lt_succ_iff]

theorem lengthOk_iff (st : StepBytes) : lengthOk st.length = true ↔ st.LengthGood := by
  simp [lengthOk, StepBytes.LengthGood]

theorem altOk_iff : altOk e.stepCount e.header.alt = true ↔ e.AltGood := by
  unfold EditSession.AltGood
  cases e.header.alt with
  | none => simp [altOk]
  | some a => simp [altOk, and_assoc]

theorem loopOk_iff (stepCount : Nat) (l : LoopBytes) : loopOk stepCount l = true ↔ l.Good stepCount := by
  simp [loopOk, LoopBytes.Good, and_assoc]

theorem EditSession.build_loops (e : EditSession) : e.build.loops = e.header.loops.map LoopBytes.entry := rfl

theorem LoopBytes.compatible_iff (x y : LoopBytes) :
    (spansApart x y || (spanInside x y != spanInside y x)) = true ↔ x.entry.compatible y.entry := by
  have inside : ∀ x y, spanInside x y = true ↔ y.entry.first ≤ x.entry.first ∧ x.entry.last ≤ y.entry.last := fun x y => by
    simp [spanInside, LoopBytes.entry]
  have apart : spansApart x y = true ↔ x.entry.last < y.entry.first ∨ y.entry.last < x.entry.first := by
    simp [spansApart, LoopBytes.entry]
  rw [Bool.or_eq_true, apart, bne_iff_ne, Ne, Bool.eq_iff_iff, inside, inside, LoopEntry.compatible, Ne, Prod.mk.injEq]
  omega

theorem loopsCompatible_iff {loops : List LoopBytes} (few : loops.length ≤ 2) :
    loopsCompatible loops = true ↔ (loops.map LoopBytes.entry).Pairwise LoopEntry.compatible := by
  match loops, few with
  | [], _ => simp [loopsCompatible]
  | [x], _ => simp [loopsCompatible]
  | [x, y], _ =>
    rw [loopsCompatible, LoopBytes.compatible_iff]
    simp

/-! ### The verdict -/

/-- What R141 says of a session whose check comes to a verdict: it has passed every test, or passed those before the one
named and failed that, the index being that of the first entry to fail it. -/
def EditSession.Judged (e : EditSession) : Option (Rejection × Byte) → Prop
  | none =>
    e.StepsGood ∧ e.header.tempo.toNat ≤ 11 ∧ e.AltGood ∧ (∀ l ∈ e.header.loops, l.Good e.stepCount) ∧
      e.build.loops.Pairwise LoopEntry.compatible
  | some (.noSteps, b) => b = 0xFF ∧ e.stepCount = 0
  | some (.toneRange, b) => ∃ i, b = byteOf i ∧ FailsFirst StepBytes.ToneGood e.written i
  | some (.lengthRange, b) =>
    ∃ i, b = byteOf i ∧ (∀ st ∈ e.written, st.ToneGood) ∧ FailsFirst StepBytes.LengthGood e.written i
  | some (.tempoRange, b) => b = 0xFF ∧ e.StepsGood ∧ 11 < e.header.tempo.toNat
  | some (.altRange, b) => b = 0xFF ∧ e.StepsGood ∧ e.header.tempo.toNat ≤ 11 ∧ ¬ e.AltGood
  | some (.loopRange, b) =>
    ∃ i, b = byteOf i ∧ e.StepsGood ∧ e.header.tempo.toNat ≤ 11 ∧ e.AltGood ∧
      FailsFirst (LoopBytes.Good e.stepCount) e.header.loops i
  | some (.loopOverlap, b) =>
    b = 1 ∧ e.StepsGood ∧ e.header.tempo.toNat ≤ 11 ∧ e.AltGood ∧ (∀ l ∈ e.header.loops, l.Good e.stepCount) ∧
      ¬ e.build.loops.Pairwise LoopEntry.compatible

theorem EditSession.written_length (e : EditSession) : e.written.length = min e.stepCount 16 := by
  simp [EditSession.written]

theorem FailsFirst.lt_length {α : Type} {good : α → Prop} {l : List α} (fails : FailsFirst good l i) : i < l.length := by
  obtain ⟨⟨x, there, -⟩, -⟩ := fails
  exact (List.getElem?_eq_some_iff.mp there).1

theorem EditSession.stepCount_ne_zero {good : StepBytes → Prop} (fails : FailsFirst good e.written i) : e.stepCount ≠ 0 := by
  have := e.written_length ▸ fails.lt_length
  omega

/-- The check comes to the verdict that R141 gives it. -/
theorem EditSession.judged_rejection (few : e.header.loops.length ≤ 2) : e.Judged e.rejection := by
  unfold EditSession.rejection
  split
  · exact ⟨rfl, ‹_›⟩
  · rename_i steps
    split
    · rename_i i tone
      exact ⟨i, rfl, (firstFailing_eq_some_iff toneOf_isSome _).mp tone⟩
    · rename_i tones
      rw [firstFailing_eq_none_iff toneOf_isSome] at tones
      split
      · rename_i i length
        exact ⟨i, rfl, tones, (firstFailing_eq_some_iff lengthOk_iff _).mp length⟩
      · rename_i lengths
        rw [firstFailing_eq_none_iff lengthOk_iff] at lengths
        have good : e.StepsGood := ⟨Nat.one_le_iff_ne_zero.mpr steps, fun st mem => ⟨tones st mem, lengths st mem⟩⟩
        split
        · exact ⟨rfl, good, ‹_›⟩
        · rename_i tempo
          rw [Nat.not_lt] at tempo
          split
          · rename_i alt
            refine ⟨rfl, good, tempo, fun altGood => ?_⟩
            rw [altOk_iff.mpr altGood] at alt
            exact nomatch alt
          · rename_i alt
            rw [Bool.not_eq_false, altOk_iff] at alt
            split
            · rename_i i loop
              exact ⟨i, rfl, good, tempo, alt, (firstFailing_eq_some_iff (loopOk_iff _) _).mp loop⟩
            · rename_i loops
              rw [firstFailing_eq_none_iff (loopOk_iff _)] at loops
              split
              · exact ⟨good, tempo, alt, loops, (loopsCompatible_iff few).mp ‹_›⟩
              · rename_i overlap
                exact ⟨rfl, good, tempo, alt, loops, mt (loopsCompatible_iff few).mpr overlap⟩

/-- Steps that are good pass tests 1 to 3. -/
theorem EditSession.StepsGood.pass (good : e.StepsGood) :
    e.stepCount ≠ 0 ∧ firstFailing (fun st => (toneOf st.tone).isSome) e.written = none ∧
      firstFailing (fun st => lengthOk st.length) e.written = none := by
  obtain ⟨steps, good⟩ := good
  exact ⟨Nat.one_le_iff_ne_zero.mp steps, (firstFailing_eq_none_iff toneOf_isSome _).mpr fun st mem => (good st mem).1,
    (firstFailing_eq_none_iff lengthOk_iff _).mpr fun st mem => (good st mem).2⟩

/-- A verdict that R141 gives is the one the check comes to. -/
theorem EditSession.Judged.rejection_eq {v : Option (Rejection × Byte)} (few : e.header.loops.length ≤ 2)
    (judged : e.Judged v) : e.rejection = v := by
  match v, judged with
  | none, ⟨good, tempo, alt, loops, compatible⟩ =>
    obtain ⟨steps, tones, lengths⟩ := good.pass
    have loops := (firstFailing_eq_none_iff (loopOk_iff _) _).mpr loops
    have compatible := (loopsCompatible_iff few).mpr compatible
    simp [EditSession.rejection, steps, tones, lengths, tempo, altOk_iff.mpr alt, loops, compatible]
  | some (.noSteps, b), ⟨index, empty⟩ => rw [EditSession.rejection, if_pos empty, index]
  | some (.toneRange, b), ⟨i, index, fails⟩ =>
    have tone := (firstFailing_eq_some_iff toneOf_isSome _).mpr fails
    simp [EditSession.rejection, e.stepCount_ne_zero fails, tone, index]
  | some (.lengthRange, b), ⟨i, index, tones, fails⟩ =>
    have tones := (firstFailing_eq_none_iff toneOf_isSome _).mpr tones
    have length := (firstFailing_eq_some_iff lengthOk_iff _).mpr fails
    simp [EditSession.rejection, e.stepCount_ne_zero fails, tones, length, index]
  | some (.tempoRange, b), ⟨index, good, tempo⟩ =>
    obtain ⟨steps, tones, lengths⟩ := good.pass
    simp [EditSession.rejection, steps, tones, lengths, tempo, index]
  | some (.altRange, b), ⟨index, good, tempo, alt⟩ =>
    obtain ⟨steps, tones, lengths⟩ := good.pass
    simp [EditSession.rejection, steps, tones, lengths, tempo, Bool.eq_false_iff.mpr (mt altOk_iff.mp alt), index]
  | some (.loopRange, b), ⟨i, index, good, tempo, alt, fails⟩ =>
    obtain ⟨steps, tones, lengths⟩ := good.pass
    have loop := (firstFailing_eq_some_iff (loopOk_iff _) _).mpr fails
    simp [EditSession.rejection, steps, tones, lengths, tempo, altOk_iff.mpr alt, loop, index]
  | some (.loopOverlap, b), ⟨index, good, tempo, alt, loops, overlap⟩ =>
    obtain ⟨steps, tones, lengths⟩ := good.pass
    have loops := (firstFailing_eq_none_iff (loopOk_iff _) _).mpr loops
    have overlap := Bool.eq_false_iff.mpr (mt (loopsCompatible_iff few).mp overlap)
    simp [EditSession.rejection, steps, tones, lengths, tempo, altOk_iff.mpr alt, loops, overlap, index]

theorem EditSession.rejection_eq_iff (few : e.header.loops.length ≤ 2) (v : Option (Rejection × Byte)) :
    e.rejection = v ↔ e.Judged v :=
  ⟨fun verdict => verdict ▸ EditSession.judged_rejection few, fun judged => judged.rejection_eq few⟩

/-- Numbers below 256 have bytes of their own. -/
theorem byteOf_inj {m n : Nat} (hm : m < 256) (hn : n < 256) (same : byteOf m = byteOf n) : m = n := by
  have value := congrArg BitVec.toNat same
  simp only [byteOf, BitVec.toNat_ofNat] at value
  omega

/-- An index that a verdict carries is the byte of one number only. -/
theorem exists_byteOf_iff {i n : Nat} {P : Nat → Prop} (small : i < 256) (bound : ∀ k, P k → k < n) (short : n ≤ 256) :
    (∃ k, byteOf i = byteOf k ∧ P k) ↔ P i := by
  refine ⟨fun ⟨k, same, holds⟩ => ?_, fun holds => ⟨i, rfl, holds⟩⟩
  obtain rfl := byteOf_inj small ((bound k holds).trans_le short) same
  exact holds

/-- Settles O41: the check comes to exactly the verdict that the seven tests, taken in order, give. -/
theorem commitCheckIsExact : Obligations.CommitCheckIsExact := by
  intro e count few toneGood lengthGood altGood loopGood stepsGood
  have verdict := EditSession.rejection_eq_iff few
  have written : e.written.length ≤ 16 := e.written_length ▸ Nat.min_le_right _ _
  refine ⟨verdict none, (verdict _).trans (and_iff_right rfl), fun i small => (verdict _).trans ?_,
    fun i small => (verdict _).trans ?_, (verdict _).trans (and_iff_right rfl), (verdict _).trans (and_iff_right rfl),
    fun i small => (verdict _).trans ?_, (verdict _).trans (and_iff_right rfl)⟩
  · exact exists_byteOf_iff (by omega) (fun k fails => fails.lt_length) (by omega)
  · exact exists_byteOf_iff (by omega) (fun k ⟨_, fails⟩ => fails.lt_length) (by omega)
  · exact exists_byteOf_iff (by omega) (fun k ⟨_, _, _, fails⟩ => fails.lt_length) (by omega)

end Sys2Proof.Machine

namespace Sys2Proof.Machine

/-! ## The tone table and the tone outputs (R128, R130, R131, R134, R161) -/

variable {s : State} {l : List Half} {loops : List LoopEntry} {counters : List Nat} {i : Nat}

/-! ### Lists of fields of one length -/

theorem length_flatMap_fields {α β : Type} {f : α → List β} {width : Nat} (fields : ∀ x, (f x).length = width)
    (l : List α) : (l.flatMap f).length = width * l.length := by
  simp [List.length_flatMap, fields, Nat.mul_comm]

/-- Where every entry is sent in fields of one width, the fields of the entry numbered `i` stand from `width * i` on. -/
theorem getElem?_flatMap_fields {α β : Type} {f : α → List β} {width : Nat} (fields : ∀ x, (f x).length = width)
    {l : List α} {i j : Nat} {x : α} (there : l[i]? = some x) (within : j < width) :
    (l.flatMap f)[width * i + j]? = (f x)[j]? := by
  induction l generalizing i with
  | nil => exact nomatch there
  | cons y ys ih =>
    rw [List.flatMap_cons]
    cases i with
    | zero =>
      obtain rfl := Option.some.inj there
      rw [Nat.mul_zero, Nat.zero_add, List.getElem?_append_left ((fields y).symm ▸ within)]
    | succ i =>
      have after : width * (i + 1) + j - (f y).length = width * i + j := by
        rw [fields, Nat.mul_succ]
        omega
      rw [List.getElem?_append_right (by rw [fields, Nat.mul_succ]; omega), after]
      exact ih there

/-! ### WRITE TONES (R130) -/

theorem frequencyOk_iff (f : Half) : frequencyOk f = true ↔ 200 ≤ f.toNat ∧ f.toNat ≤ 5000 := by
  simp [frequencyOk]

theorem ownWriteTones_range {first : Byte} (some : 1 ≤ l.length) (few : l.length ≤ 16)
    (range : 24 < first.toNat + l.length ∨ ∃ f ∈ l, f.toNat < 200 ∨ 5000 < f.toNat) :
    ownWriteTones first l s = s.refuse .range := by
  have refused : 24 < first.toNat + l.length ∨ l.all frequencyOk = false := range.imp_right fun ⟨f, mem, beyond⟩ => by
    refine List.all_eq_false.mpr ⟨f, mem, fun ok => ?_⟩
    have := (frequencyOk_iff f).mp ok
    omega
  rw [ownWriteTones, if_neg (not_not.mpr ⟨some, few⟩), if_pos refused]

theorem ownWriteTones_ok {first : Byte} (some : 1 ≤ l.length) (few : l.length ≤ 16) (fits : first.toNat + l.length ≤ 24)
    (ok : ∀ f ∈ l, 200 ≤ f.toNat ∧ f.toNat ≤ 5000) :
    ownWriteTones first l s = ({ s with tones := writeTonesFrom s.tones first.toNat l } : State).replyOk [] := by
  have all : l.all frequencyOk = true := List.all_eq_true.mpr fun f mem => (frequencyOk_iff f).mpr (ok f mem)
  have taken : ¬ (24 < first.toNat + l.length ∨ l.all frequencyOk = false) := by
    rw [all]
    simpa using fits
  rw [ownWriteTones, if_neg (not_not.mpr ⟨some, few⟩), if_neg taken]

/-! ### The jump at the end of a step (R134) -/

/-- A list of at most two loops that end at one step, put with the inner one first, holds the same loops, and an inner one
never after an outer one. -/
theorem loopsEndingAt_spec (few : loops.length ≤ 2) (i : Nat) :
    (∀ (l : LoopEntry) (k : Nat), (l, k) ∈ loopsEndingAt loops i ↔ loops[k]? = some l ∧ l.last = i) ∧
      (loopsEndingAt loops i).Pairwise fun x y => y.1.first ≤ x.1.first := by
  have there : ∀ (l : LoopEntry) (k : Nat), (l, k) ∈ loops.zipIdx.filter (fun l => l.1.last == i) ↔
      loops[k]? = some l ∧ l.last = i := fun l k => by
    rw [List.mem_filter, List.mk_mem_zipIdx_iff_getElem?, beq_iff_eq]
  have short : (loops.zipIdx.filter fun l => l.1.last == i).length ≤ 2 :=
    (List.length_filter_le _ _).trans (List.length_zipIdx.trans_le few)
  unfold loopsEndingAt
  generalize loops.zipIdx.filter (fun l => l.1.last == i) = here at there short
  match here, short with
  | [], _ => exact ⟨there, .nil⟩
  | [x], _ => exact ⟨there, List.pairwise_singleton _ x⟩
  | [x, y], _ =>
    dsimp only
    split
    · rename_i inner
      refine ⟨fun l k => ?_, List.pairwise_pair.mpr inner.le⟩
      rw [← there, List.mem_pair, List.mem_pair, or_comm]
    · rename_i inner
      exact ⟨there, List.pairwise_pair.mpr (Nat.not_lt.mp inner)⟩

/-- The jump that a loop takes when its counter has one left (R134). -/
def LoopEntry.jump (counters : List Nat) (l : LoopEntry × Nat) : Option (List Nat × Nat) :=
  if 1 < counters.getD l.2 0 then some (counters.set l.2 (counters.getD l.2 0 - 1), l.1.first) else none

theorem loopJump_eq (loops : List LoopEntry) (i : Nat) (counters : List Nat) :
    loopJump loops i counters = (loopsEndingAt loops i).findSome? (LoopEntry.jump counters) := rfl

theorem LoopEntry.jump_eq_none_iff {k n : Nat} {l : LoopEntry} (count : counters[k]? = some n) :
    LoopEntry.jump counters (l, k) = none ↔ n ≤ 1 := by
  simp [LoopEntry.jump, count]

theorem loopJump_eq_none_iff (few : loops.length ≤ 2) (length : counters.length = loops.length) :
    loopJump loops i counters = none ↔
      ∀ (k : Nat) (l : LoopEntry) (n : Nat), loops[k]? = some l → counters[k]? = some n → l.last = i → n ≤ 1 := by
  obtain ⟨ends, -⟩ := loopsEndingAt_spec few i
  rw [loopJump_eq, List.findSome?_eq_none_iff]
  refine ⟨fun none k l n there count last => ?_, fun done ⟨l, k⟩ mem => ?_⟩
  · exact (LoopEntry.jump_eq_none_iff count).mp (none (l, k) ((ends l k).mpr ⟨there, last⟩))
  · obtain ⟨there, last⟩ := (ends l k).mp mem
    have bound : k < counters.length := length ▸ (List.getElem?_eq_some_iff.mp there).1
    have count := List.getElem?_eq_getElem bound
    exact (LoopEntry.jump_eq_none_iff count).mpr (done k l _ there count last)

/-- The jump taken is that of a loop with one left, and every loop inside it has none. -/
theorem loopJump_eq_some {after : List Nat} {target : Nat} (few : loops.length ≤ 2)
    (length : counters.length = loops.length) (jumps : loopJump loops i counters = some (after, target)) :
    ∃ (k : Nat) (l : LoopEntry) (n : Nat), loops[k]? = some l ∧ counters[k]? = some n ∧ l.last = i ∧ 1 < n ∧
      target = l.first ∧ after = counters.set k (n - 1) ∧
      ∀ (k' : Nat) (l' : LoopEntry) (n' : Nat), loops[k']? = some l' → counters[k']? = some n' → l'.last = i →
        l.first < l'.first → n' ≤ 1 := by
  obtain ⟨ends, order⟩ := loopsEndingAt_spec few i
  obtain ⟨inner, ⟨l, k⟩, outer, split, jump, none⟩ := List.findSome?_eq_some_iff.mp (loopJump_eq loops i counters ▸ jumps)
  rw [split] at ends order
  obtain ⟨there, last⟩ := (ends l k).mp (by simp)
  have bound : k < counters.length := length ▸ (List.getElem?_eq_some_iff.mp there).1
  obtain ⟨n, count⟩ : ∃ n, counters[k]? = some n := ⟨_, List.getElem?_eq_getElem bound⟩
  simp only [LoopEntry.jump, List.getD_eq_getElem?_getD, count, Option.getD_some, Option.ite_none_right_eq_some,
    Option.some.injEq, Prod.mk.injEq] at jump
  obtain ⟨more, after, target⟩ := jump
  refine ⟨k, l, n, there, count, last, more, target.symm, after.symm, fun k' l' n' there' count' last' inside => ?_⟩
  rcases List.mem_append.mp ((ends l' k').mpr ⟨there', last'⟩) with mem | mem
  · exact (LoopEntry.jump_eq_none_iff count').mp (none _ mem)
  · refine absurd inside (Nat.not_lt.mpr ?_)
    rcases List.mem_cons.mp mem with same | mem
    · obtain rfl := congrArg Prod.fst same
      exact le_rfl
    · exact List.rel_of_pairwise_cons (List.pairwise_append.mp order).2.1 mem

/-! ### The tempo in force (R128) and the tone outputs (R161) -/

theorem CueContents.tempoAt_alt {q : CueContents} {a : AltTempo} (alt : q.alt = some a) (i : Nat) :
    q.tempoAt i = if a.fromStep ≤ i then a.tempo else q.tempo := by
  rw [CueContents.tempoAt, alt]

/-- Half a period is the whole number of clock periods nearest to it. -/
theorem halfPeriod_nearest {f : Half} (sounds : f ≠ 0) :
    2 * f.toNat * halfPeriod f ≤ 4000000 + f.toNat ∧ 4000000 + f.toNat < 2 * f.toNat * (halfPeriod f + 1) := by
  have pos : 0 < 2 * f.toNat := by
    have : f.toNat ≠ 0 := fun zero => sounds (BitVec.eq_of_toNat_eq zero)
    omega
  exact ⟨Nat.mul_div_le _ _, Nat.lt_mul_div_succ _ pos⟩

theorem State.toneOutput_rest {c : Chan} {pl : Player} (playing : s.playerOf c = some pl)
    (rest : pl.copy.frequency = none) : s.toneOutput .high c = false := by
  simp only [State.toneOutput, underReset, playing, rest]

/-- The output in the half period numbered `k` of the step (R161). -/
theorem State.toneOutput_tone {c : Chan} {pl : Player} {f : Half} {k : Nat} (playing : s.playerOf c = some pl)
    (tone : pl.copy.frequency = some f) (half : (pl.copy.duration - pl.timeLeft) / halfPeriod f = k) :
    s.toneOutput .high c = true ↔ k % 2 = 0 := by
  simp only [State.toneOutput, underReset, playing, tone, half, beq_iff_eq]

/-- Settles O44: the list written reads back entry by entry, the jump is that of the innermost loop with one left, and the
output follows the number of the half period. -/
theorem tonesWrittenAndRead : Obligations.TonesWrittenAndRead := by
  refine ⟨fun s => ⟨s.tones.toList.flatMap halfBytes, exec_answers rfl rfl, ?_, fun i => ?_⟩,
    fun first l s some few range => exec_answers rfl (ownWriteTones_range some few range),
    fun first l s some few fits ok => ⟨writeTonesFrom s.tones first.toNat l,
      exec_answers rfl (ownWriteTones_ok some few fits ok), fun i => ?_⟩,
    fun f sounds => halfPeriod_nearest sounds, by decide, by decide,
    fun q i => ⟨fun a alt from_step => ?_, fun before => ?_⟩,
    fun loops i counters few length => ⟨loopJump_eq_none_iff few length, fun after target => loopJump_eq_some few length⟩,
    fun c s => ⟨rfl, fun idle => ?_, fun pl playing => ⟨fun rest => ?_, fun f k tone sounds low high => ?_⟩⟩⟩
  · rw [length_flatMap_fields (width := 2) fun _ => rfl, Vector.length_toList]
  · have there : s.tones.toList[i.val]? = some s.tones[i] := by simp
    have bytes := fun j => getElem?_flatMap_fields (f := halfBytes) (width := 2) (fun _ => rfl) there (j := j)
    exact ⟨_, _, bytes 0 (by decide), bytes 1 (by decide), halfFrom_bytes _⟩
  · rw [writeTonesFrom_eq, Table.getElem_putFrom]
  · rw [CueContents.tempoAt_alt alt, if_pos from_step]
  · cases alt : q.alt with
    | none => rw [CueContents.tempoAt, alt]
    | some a => rw [CueContents.tempoAt_alt alt, if_neg (Nat.not_le.mpr (before a alt))]
  · simp only [State.toneOutput, underReset, idle]
  · exact State.toneOutput_rest playing rest
  · exact State.toneOutput_tone playing tone (Nat.div_eq_of_lt_le low high)

end Sys2Proof.Machine

namespace Sys2Proof.Machine

/-! ## A change of the cues, and what the channels make of it (R140, R150, R152, R158, R160) -/

variable {s t u v : State} {c : Chan} {pl : Player} {q : CueId}

/-! ### The comparison of both channels after any change -/

/-- A channel whose pass may not go on, or that is IDLE, compares and then plays what is wanted, or nothing. -/
theorem State.serves_compareChannelSince (policy : (v.channels.get c).policy = (s.channels.get c).policy)
    (player : v.playerOf c = s.playerOf c) (stops : ∀ pl, s.playerOf c = some pl → ¬ s.PassGoesOn v c pl) :
    ((v.compareChannelSince s c).playerOf c).map Player.current = v.wanted c := by
  cases playing : v.playerOf c with
  | none =>
    have settled : ∀ pl, v.playerOf c = some pl → pl.replacementPending = false := by simp [playing]
    rw [State.compareChannelSince_settled settled]
    cases wants : v.wanted c with
    | none => rw [State.compareChannel_idle playing wants, playing, Option.map_none]
    | some d =>
      have begins : v.compareChannel c = v.switchTo c (some d) := by
        simp only [State.compareChannel, playing, wants, State.switchTo]
      rw [begins, State.playerOf_switchTo]
  | some pl =>
    have stopped := stops pl (player ▸ playing)
    simp only [State.PassGoesOn, not_or] at stopped
    obtain ⟨notStep, free, differs, settled⟩ := stopped
    have immediate : (v.channels.get c).policy = .immediate := by
      rw [policy]
      cases kind : (s.channels.get c).policy with
      | step => exact absurd kind notStep
      | immediate => rfl
    have compares : ¬ v.finishesStep s c = true := fun finishes => settled <| by
      rw [State.finishesStep, playing, Option.any_some, Bool.and_eq_true, beq_iff_eq] at finishes
      exact ⟨finishes.1, finishes.2.symm⟩
    have switches : v.compareChannel c = v.switchTo c (v.wanted c) := by
      simp only [State.compareChannel, playing, if_neg (not_or.mpr ⟨free, differs⟩), immediate]
    rw [State.compareChannelSince, if_neg compares, switches, State.playerOf_switchTo]

/-- Once both channels have compared after a change that left their policies and players, every pass that may go on does, and
every other channel plays what is wanted. -/
theorem State.compared_compareSince (policy : ∀ c, (v.channels.get c).policy = (s.channels.get c).policy)
    (player : ∀ c, v.playerOf c = s.playerOf c) : State.Compared s (v.compareSince s) := by
  have sound := State.SoundFrame.compareSince v s
  have first := State.SoundFrame.compareChannelSince v s .a
  refine ⟨fun c pl playing goes => State.playerOf_compareSince_goesOn policy ((player c).trans playing)
    (sound.passGoesOn.mp goes), fun c stops => ?_⟩
  have stops : ∀ pl, s.playerOf c = some pl → ¬ s.PassGoesOn v c pl := fun pl playing goes =>
    stops pl playing (sound.passGoesOn.mpr goes)
  rw [sound.wanted, State.compareSince]
  cases c with
  | a =>
    rw [State.playerOf_compareChannelSince_ne _ s (by decide)]
    exact State.serves_compareChannelSince (policy .a) (player .a) stops
  | b =>
    rw [← first.wanted]
    exact State.serves_compareChannelSince ((first.picture.policy .b).trans (policy .b))
      ((v.playerOf_compareChannelSince_ne s (by decide)).trans (player .b))
      fun pl playing goes => stops pl playing (first.passGoesOn.mp goes)

/-! ### The notice of a COMMIT (R140 step 4) -/

theorem State.noticeReplacement_told (before : State) (playing : v.playerOf c = some pl) (demanded : pl.demandedCue = q) :
    v.noticeReplacement before q c = v.setPlayer c (some { pl with replacementPending := true }) := by
  simp only [State.noticeReplacement, playing, if_pos demanded]

theorem State.noticeReplacement_other (before : State) (other : ∀ pl, v.playerOf c = some pl → pl.demandedCue ≠ q) :
    v.noticeReplacement before q c = v.compareChannelSince before c := by
  cases playing : v.playerOf c with
  | none => simp [State.noticeReplacement, State.compareChannelSince, State.finishesStep, playing]
  | some pl => simp only [State.noticeReplacement, playing, if_neg (other pl playing)]

theorem State.playerOf_noticeReplacement_ne (v before : State) (q : CueId) {k : Chan} (ne : k ≠ c) :
    (v.noticeReplacement before q c).playerOf k = v.playerOf k := by
  by_cases told : ∃ pl, v.playerOf c = some pl ∧ pl.demandedCue = q
  · obtain ⟨pl, playing, demanded⟩ := told
    rw [State.noticeReplacement_told before playing demanded, State.playerOf_setPlayer, if_neg ne]
  · rw [State.noticeReplacement_other before fun pl playing demanded => told ⟨pl, playing, demanded⟩]
    exact v.playerOf_compareChannelSince_ne before ne

/-- What a channel has made of a COMMIT of cue `q`: one that plays it takes replacement pending, and any other compares. -/
structure State.Noticed (s t : State) (q : CueId) (c : Chan) : Prop where
  told : ∀ pl, s.playerOf c = some pl → pl.demandedCue = q → t.playerOf c = some { pl with replacementPending := true }
  goesOn : ∀ pl, s.playerOf c = some pl → pl.demandedCue ≠ q → s.PassGoesOn t c pl → t.playerOf c = some pl
  serves : (∀ pl, s.playerOf c = some pl → pl.demandedCue ≠ q ∧ ¬ s.PassGoesOn t c pl) →
    (t.playerOf c).map Player.current = t.wanted c

theorem State.Noticed.after (h : State.Noticed s t q c) (sound : State.SoundFrame t u) (player : u.playerOf c = t.playerOf c) :
    State.Noticed s u q c := by
  constructor
  · rw [player]
    exact h.told
  · simp only [player, sound.passGoesOn]
    exact h.goesOn
  · simp only [player, sound.passGoesOn, sound.wanted]
    exact h.serves

theorem State.noticed_noticeReplacement (q : CueId) (policy : (v.channels.get c).policy = (s.channels.get c).policy)
    (player : v.playerOf c = s.playerOf c) : State.Noticed s (v.noticeReplacement s q c) q c := by
  have sound := State.SoundFrame.noticeReplacement v s q c
  have other : ∀ pl, s.playerOf c = some pl → pl.demandedCue ≠ q → ∀ pl, v.playerOf c = some pl → pl.demandedCue ≠ q :=
    fun pl playing differs pl' playing' => Option.some.inj (playing.symm.trans (player ▸ playing')) ▸ differs
  refine ⟨fun pl playing demanded => ?_, fun pl playing differs goes => ?_, fun stops => ?_⟩
  · rw [State.noticeReplacement_told s (player.trans playing) demanded, State.playerOf_setPlayer, if_pos rfl]
  · rw [sound.passGoesOn] at goes
    rw [State.noticeReplacement_other s (other pl playing differs),
      State.compareChannelSince_goesOn policy (player.trans playing) goes, player, playing]
  · rw [sound.wanted, State.noticeReplacement_other s fun pl playing => (stops pl (player ▸ playing)).1]
    exact State.serves_compareChannelSince policy player fun pl playing goes =>
      (stops pl playing).2 (sound.passGoesOn.mpr goes)

/-- Both channels take notice, each of its own. -/
theorem State.noticed_both (q : CueId) (policy : ∀ c, (v.channels.get c).policy = (s.channels.get c).policy)
    (player : ∀ c, v.playerOf c = s.playerOf c) (c : Chan) :
    State.Noticed s ((v.noticeReplacement s q .a).noticeReplacement s q .b) q c := by
  have first := State.SoundFrame.noticeReplacement v s q .a
  cases c with
  | a =>
    exact (State.noticed_noticeReplacement q (policy .a) (player .a)).after (.noticeReplacement _ s q .b)
      (State.playerOf_noticeReplacement_ne _ s q (by decide))
  | b =>
    exact State.noticed_noticeReplacement q ((first.picture.policy .b).trans (policy .b))
      ((v.playerOf_noticeReplacement_ne s q (by decide)).trans (player .b))

end Sys2Proof.Machine

namespace Sys2Proof.Machine

/-! ## COMMIT and the end of its check (R140, R141) -/

variable {s t : State} {e : EditSession} {b : Byte} {q : CueId}

/-! ### The contents built from a session's buffers -/

theorem code_of_toneOf {tone : StepTone} (read : toneOf b = some tone) : tone.code = b := by
  unfold toneOf at read
  split at read
  · rename_i rest
    obtain rfl := Option.some.inj read
    exact rest.symm
  · obtain ⟨t, number, rfl⟩ := Option.map_eq_some_iff.mp read
    exact byteOf_of_numbered number

theorem byteOf_tempoOf (range : b.toNat ≤ 11) : byteOf (tempoOf b).val = b := by
  obtain ⟨tempo, number⟩ := Option.isSome_iff_exists.mp (numbered_isSome.mpr (Nat.lt_succ_of_le range))
  rw [tempoOf, number, Option.getD_some, byteOf_of_numbered number]

/-- The step that a COMMIT makes of its bytes. -/
def CueStep.ofBytes (st : StepBytes) : CueStep := ⟨(toneOf st.tone).getD .rest, st.length.toNat⟩

theorem EditSession.build_steps (e : EditSession) : e.build.steps = e.written.map CueStep.ofBytes := rfl

theorem EditSession.build_steps_length (count : e.stepCount ≤ 16) : e.build.steps.length = e.stepCount := by
  rw [e.build_steps, List.length_map, e.written_length, Nat.min_eq_left count]

theorem CueStep.ofBytes_reads {st : StepBytes} (good : st.ToneGood) :
    (CueStep.ofBytes st).tone.code = st.tone ∧ byteOf (CueStep.ofBytes st).length = st.length := by
  obtain ⟨tone, read⟩ := Option.isSome_iff_exists.mp ((toneOf_isSome st).mpr good)
  refine ⟨?_, byteOf_toNat _⟩
  rw [CueStep.ofBytes, read, Option.getD_some, code_of_toneOf read]

theorem EditSession.written_getElem? {i : Nat} (below : i < e.stepCount) : e.written[i]? = e.steps[i]? := by
  rw [EditSession.written, List.getElem?_take_of_lt below, Vector.getElem?_toList]

/-- A step that has passed the check reads back from the contents built. -/
theorem EditSession.StepsGood.build_reads (good : e.StepsGood) {i : Nat} {st : StepBytes} (below : i < e.stepCount)
    (there : e.steps[i]? = some st) :
    (e.build.steps[i]?).map (fun x => (x.tone.code, byteOf x.length)) = some (st.tone, st.length) := by
  have written := (EditSession.written_getElem? below).trans there
  obtain ⟨tone, length⟩ := CueStep.ofBytes_reads (good.2 st (List.mem_of_getElem? written)).1
  rw [e.build_steps, List.getElem?_map, written, Option.map_some, Option.map_some, tone, length]

theorem EditSession.AltGood.build_reads (good : e.AltGood) :
    e.build.alt.map (fun a => (byteOf a.fromStep, byteOf a.tempo.val)) = e.header.alt := by
  have built : e.build.alt = e.header.alt.map fun a => ⟨a.1.toNat, tempoOf a.2⟩ := rfl
  rw [built]
  cases alt : e.header.alt with
  | none => rfl
  | some a =>
    obtain ⟨-, -, tempo⟩ := good a alt
    simp only [Option.map_some, byteOf_toNat, byteOf_tempoOf tempo]

theorem EditSession.build_loops_read (e : EditSession) :
    e.build.loops.map (fun l => (⟨byteOf l.first, byteOf l.last, byteOf l.count⟩ : LoopBytes)) = e.header.loops := by
  rw [e.build_loops, List.map_map]
  refine (List.map_congr_left fun l _ => ?_).trans (List.map_id _)
  simp only [Function.comp_apply, LoopBytes.entry, byteOf_toNat, id_eq]

/-- A session that passes the check builds legal contents (R127). -/
theorem EditSession.build_legal (passes : e.rejection = none) (count : e.stepCount ≤ 16) (few : e.header.loops.length ≤ 2) :
    e.build.Legal := by
  obtain ⟨steps, -, alt, loops, compatible⟩ := (EditSession.rejection_eq_iff few none).mp passes
  have length := EditSession.build_steps_length count
  refine ⟨length ▸ ⟨steps.1, count⟩, fun st mem => ?_, fun a built => ?_, ?_, fun l mem => ?_, compatible⟩
  · obtain ⟨bytes, written, rfl⟩ := List.mem_map.mp mem
    exact (steps.2 bytes written).2
  · obtain ⟨bytes, written, rfl⟩ := Option.map_eq_some_iff.mp built
    obtain ⟨first, below, -⟩ := alt bytes written
    exact length ▸ ⟨first, below⟩
  · rw [e.build_loops, List.length_map]
    exact few
  · obtain ⟨bytes, written, rfl⟩ := List.mem_map.mp mem
    exact length ▸ loops bytes written

/-! ### The end of the check -/

theorem State.endCheck_idle (idle : ∀ e, s.edit = some e → e.phase = .openPhase) : s.endCheck = s := by
  unfold State.endCheck
  split
  · rename_i e editing
    rw [idle e editing]
    rfl
  · rfl

theorem State.endCheck_passes (editing : s.edit = some e) (phase : e.phase = .validating) (passes : e.rejection = none) :
    s.endCheck = (s.replaceCue e).answerCommit (.okWith []) := by
  simp only [State.endCheck, editing, phase, if_true, passes]

theorem State.endCheck_rejects {why : Rejection} (editing : s.edit = some e) (phase : e.phase = .validating)
    (fails : e.rejection = some (why, b)) :
    s.endCheck = (s.setEdit (some { e.touched with phase := .openPhase })).answerCommit ⟨.rejected, [why.code, b]⟩ := by
  simp only [State.endCheck, editing, phase, if_true, fails]

/-- The state with a cue replaced and the session ended, before the channels are told (R140 steps 1 to 3). -/
def State.committed (s : State) (e : EditSession) : State :=
  ({ s with cues := s.cues.put e.target (some e.build) } : State).endEdit

theorem State.SoundFrame.replaceCue (s : State) (e : EditSession) : State.SoundFrame (s.committed e) (s.replaceCue e) :=
  (State.SoundFrame.noticeReplacement _ s e.target .a).trans (.noticeReplacement _ s e.target .b)

theorem State.noticed_replaceCue (s : State) (e : EditSession) (c : Chan) :
    State.Noticed s (s.replaceCue e) e.target c :=
  State.noticed_both (s := s) (v := s.committed e) e.target (fun _ => rfl) (fun _ => rfl) c

theorem State.flag_committed (s : State) (e : EditSession) (f : Event) :
    (s.committed e).flag f = (s.flag f || decide (.editEnded = f)) :=
  State.flag_raise _ _ _

/-- Settles O40: the session and the answer are the owner's and the check's, the contents those of the buffers, and each
channel has taken notice. -/
theorem commitReplacesOrRejects : Obligations.CommitReplacesOrRejects := by
  refine ⟨fun s busy => exec_answers rfl ?_, fun e s editing phase => ?_, fun s idle => congrArg _ (State.endCheck_idle idle),
    ?_⟩
  · show ownCommit s = s.refuse .state
    rw [ownCommit, State.openSession_eq_none busy]
  · have taken : ownCommit s = (s.setEdit (some { e with phase := .validating, idleTimer := none }), none) := by
      rw [ownCommit, State.openSession_eq_some_iff.mpr ⟨editing, phase⟩]
    show Reply.outcome (ownCommit s) .commit = _
    rw [taken]
    rfl
  · intro e s editing phase count few told
    refine ⟨fun passes => ?_, fun why i fails => congrArg _ (State.endCheck_rejects editing phase fails)⟩
    obtain ⟨steps, tempo, alt, -, -⟩ := (EditSession.rejection_eq_iff few none).mp passes
    have sound := State.SoundFrame.replaceCue s e
    have noticed := s.noticed_replaceCue e
    refine ⟨_, congrArg Host.Outcome.next (State.endCheck_passes editing phase passes), rfl, sound.edit_eq, ?_, sound.cues_eq,
      EditSession.build_legal passes count few, EditSession.build_steps_length count, rfl,
      fun i st below there => steps.build_reads below there, byteOf_tempoOf tempo, alt.build_reads, e.build_loops_read, ?_,
      sound.roster_eq, sound.alarm_eq, sound.tones_eq, fun f other own => ?_,
      fun c pl playing => ⟨(noticed c).told pl playing, (noticed c).goesOn pl playing⟩, fun c => (noticed c).serves⟩
    · refine (sound.flags .editEnded rfl).trans ?_
      rw [State.flag_committed, decide_eq_true rfl, Bool.or_true]
    · show (s.replaceCue e).link.commitAnswered _ = _
      rw [sound.link_eq]
      rfl
    · refine (sound.flags f own).trans ?_
      rw [State.flag_committed, decide_eq_false other.symm, Bool.or_false]

/-! ## READ CUE (R144, R182, R187) -/

variable {header : List Byte} {steps : List CueStep} {loops : List LoopEntry} {i : Nat}

theorem Config.inapplicable_cases (item : Config.InapplicableItem) :
    Config.inapplicable item = 0 ∨ Config.inapplicable item = 0xFF := by
  unfold Config.inapplicable
  split
  · exact .inl rfl
  · exact .inr rfl

/-! ### The steps and the loops in their bytes -/

theorem paddedSteps_eq (steps : List CueStep) :
    paddedSteps steps = steps.flatMap CueStep.encode ++
      (List.replicate (16 - steps.length) ()).flatMap fun _ => [Config.inapplicable .stepTone, 0x00] := by
  simp [paddedSteps, List.flatMap_def]

theorem paddedSteps_length (few : steps.length ≤ 16) : (paddedSteps steps).length = 32 := by
  rw [paddedSteps_eq, List.length_append, length_flatMap_fields (f := CueStep.encode) (width := 2) fun _ => rfl,
    length_flatMap_fields (width := 2) fun _ => rfl, List.length_replicate]
  omega

theorem paddedSteps_step {st : CueStep} (there : steps[i]? = some st) {j : Nat} (within : j < 2) :
    (paddedSteps steps)[2 * i + j]? = st.encode[j]? := by
  have below := (List.getElem?_eq_some_iff.mp there).1
  have fields : ∀ st : CueStep, st.encode.length = 2 := fun _ => rfl
  rw [paddedSteps_eq, List.getElem?_append_left (by rw [length_flatMap_fields fields]; omega),
    getElem?_flatMap_fields fields there within]

/-- A step beyond the step count: its tone does not apply, and its length is 0 (R182). -/
theorem paddedSteps_beyond (beyond : steps.length ≤ i) (within : i < 16) {j : Nat} (field : j < 2) :
    (paddedSteps steps)[2 * i + j]? = [Config.inapplicable .stepTone, 0x00][j]? := by
  have fields : ∀ st : CueStep, st.encode.length = 2 := fun _ => rfl
  have there : (List.replicate (16 - steps.length) ())[i - steps.length]? = some () :=
    List.getElem?_replicate_of_lt (by omega)
  have place : 2 * i + j - 2 * steps.length = 2 * (i - steps.length) + j := by omega
  rw [paddedSteps_eq, List.getElem?_append_right (by rw [length_flatMap_fields fields]; omega),
    length_flatMap_fields fields, place]
  exact getElem?_flatMap_fields (width := 2) (fun _ => rfl) there field

theorem paddedLoops_eq (loops : List LoopEntry) :
    paddedLoops loops =
      byteOf loops.length :: (loops.flatMap LoopEntry.encode ++ List.replicate (3 * (2 - loops.length)) 0x00) := rfl

theorem paddedLoops_length (few : loops.length ≤ 2) : (paddedLoops loops).length = 7 := by
  have fields : ∀ l : LoopEntry, l.encode.length = 3 := fun _ => rfl
  rw [paddedLoops_eq, List.length_cons, List.length_append, length_flatMap_fields fields, List.length_replicate]
  omega

theorem paddedLoops_loop {l : LoopEntry} (there : loops[i]? = some l) {j : Nat} (within : j < 3) :
    (paddedLoops loops)[3 * i + j + 1]? = l.encode[j]? := by
  have below := (List.getElem?_eq_some_iff.mp there).1
  have fields : ∀ l : LoopEntry, l.encode.length = 3 := fun _ => rfl
  rw [paddedLoops_eq, List.getElem?_cons_succ,
    List.getElem?_append_left (by rw [length_flatMap_fields fields]; omega), getElem?_flatMap_fields fields there within]

theorem paddedLoops_beyond (beyond : 3 * loops.length ≤ i) (within : i < 6) : (paddedLoops loops)[i + 1]? = some 0 := by
  have fields : ∀ l : LoopEntry, l.encode.length = 3 := fun _ => rfl
  rw [paddedLoops_eq, List.getElem?_cons_succ, List.getElem?_append_right (by rwa [length_flatMap_fields fields]),
    length_flatMap_fields fields]
  exact List.getElem?_replicate_of_lt (by omega)

/-- A cue's report is six bytes, its sixteen steps in 32 bytes and its loops in seven, each in its place. -/
structure CueReport (bytes header : List Byte) (steps : List CueStep) (loops : List LoopEntry) : Prop where
  length : bytes.length = 45
  header : ∀ i < 6, bytes[i]? = header[i]?
  step : ∀ (i : Nat) (st : CueStep), steps[i]? = some st →
    bytes[6 + 2 * i]? = some st.tone.code ∧ bytes[7 + 2 * i]? = some (byteOf st.length)
  noStep : ∀ i : Nat, steps.length ≤ i → i < 16 →
    (bytes[6 + 2 * i]? = some 0 ∨ bytes[6 + 2 * i]? = some 0xFF) ∧ bytes[7 + 2 * i]? = some 0
  loopCount : bytes[38]? = some (byteOf loops.length)
  loop : ∀ (i : Nat) (l : LoopEntry), loops[i]? = some l →
    bytes[39 + 3 * i]? = some (byteOf l.first) ∧ bytes[40 + 3 * i]? = some (byteOf l.last) ∧
      bytes[41 + 3 * i]? = some (byteOf l.count)
  noLoop : ∀ i : Nat, 39 + 3 * loops.length ≤ i → i < 45 → bytes[i]? = some 0

theorem cueReport_append (six : header.length = 6) (fewSteps : steps.length ≤ 16) (fewLoops : loops.length ≤ 2) :
    CueReport (header ++ paddedSteps steps ++ paddedLoops loops) header steps loops := by
  have length := paddedSteps_length fewSteps
  have ofHeader : ∀ i < 6, (header ++ paddedSteps steps ++ paddedLoops loops)[i]? = header[i]? := fun i within => by
    rw [List.append_assoc, List.getElem?_append_left (six.symm ▸ within)]
  have ofStep : ∀ k < 32, ∀ n, n = 6 + k →
      (header ++ paddedSteps steps ++ paddedLoops loops)[n]? = (paddedSteps steps)[k]? := by
    rintro k within _ rfl
    rw [List.getElem?_append_left (by rw [List.length_append]; omega), List.getElem?_append_right (by omega), six,
      Nat.add_sub_cancel_left]
  have ofLoop : ∀ k n, n = 38 + k →
      (header ++ paddedSteps steps ++ paddedLoops loops)[n]? = (paddedLoops loops)[k]? := by
    rintro k _ rfl
    have before : (header ++ paddedSteps steps).length = 38 := by rw [List.length_append, six, length]
    rw [List.getElem?_append_right (by omega), before, Nat.add_sub_cancel_left]
  refine ⟨?_, ofHeader, fun i st there => ?_, fun i beyond within => ?_, ofLoop 0 38 rfl, fun i l there => ?_,
    fun i beyond within => ?_⟩
  · rw [List.length_append, List.length_append, six, length, paddedLoops_length fewLoops]
  · have below := (List.getElem?_eq_some_iff.mp there).1
    exact ⟨(ofStep (2 * i + 0) (by omega) _ (by omega)).trans (paddedSteps_step there (by decide)),
      (ofStep (2 * i + 1) (by omega) _ (by omega)).trans (paddedSteps_step there (by decide))⟩
  · have tone := (ofStep (2 * i + 0) (by omega) _ rfl).trans (paddedSteps_beyond beyond within (by decide))
    refine ⟨?_, (ofStep (2 * i + 1) (by omega) _ (by omega)).trans (paddedSteps_beyond beyond within (by decide))⟩
    exact (Config.inapplicable_cases .stepTone).imp (fun zero => tone.trans (congrArg some zero))
      fun absent => tone.trans (congrArg some absent)
  · exact ⟨(ofLoop (3 * i + 0 + 1) _ (by omega)).trans (paddedLoops_loop there (by decide)),
      (ofLoop (3 * i + 1 + 1) _ (by omega)).trans (paddedLoops_loop there (by decide)),
      (ofLoop (3 * i + 2 + 1) _ (by omega)).trans (paddedLoops_loop there (by decide))⟩
  · exact (ofLoop (i - 39 + 1) i (by omega)).trans (paddedLoops_beyond (by omega) (by omega))

/-! ### A cue's report -/

theorem ownReadCue_byteOf (q : CueId) (s : State) :
    ownReadCue (byteOf q.val) s = s.replyOk (contentsBytes s.cues[q] ++ s.sessionBytes q ++
      [byteOf ((s.plays .a q).toNat + 2 * (s.plays .b q).toNat)]) := by
  rw [ownReadCue, numbered_cue]

theorem contentsBytes_none : ∃ header, CueReport (contentsBytes none) header [] [] ∧ header[0]? = some 0 ∧
    header[5]? = some 0 ∧ ∀ i, 1 ≤ i → i ≤ 4 → header[i]? = some 0 ∨ header[i]? = some 0xFF := by
  have free : ∀ item, some (Config.inapplicable item) = some 0 ∨ some (Config.inapplicable item) = some 0xFF := fun item =>
    (Config.inapplicable_cases item).imp (congrArg some) (congrArg some)
  refine ⟨[0, Config.inapplicable .cuePolicy, Config.inapplicable .cueTempo, Config.inapplicable .altFrom,
    Config.inapplicable .altTempo, 0], cueReport_append rfl (by decide) (by decide), rfl, rfl, fun i low high => ?_⟩
  match i, low, high with
  | 1, _, _ => exact free _
  | 2, _, _ => exact free _
  | 3, _, _ => exact free _
  | 4, _, _ => exact free _

/-- The six bytes that stand before the steps of a READY cue's report (R144). -/
def CueContents.headerBytes (c : CueContents) : List Byte :=
  [1, c.policy.code, byteOf c.tempo.val, (c.alt.map fun a => byteOf a.fromStep).getD (Config.inapplicable .altFrom),
    (c.alt.map fun a => byteOf a.tempo.val).getD (Config.inapplicable .altTempo), byteOf c.steps.length]

theorem CueContents.Legal.report {c : CueContents} (legal : c.Legal) :
    CueReport (contentsBytes (some c)) c.headerBytes c.steps c.loops :=
  cueReport_append rfl legal.stepCount.2 legal.loopCount

/-! ## ERASE CUE (R145) -/

theorem State.plays_iff (s : State) (c : Chan) (q : CueId) :
    s.plays c q = true ↔ ∃ pl, s.playerOf c = some pl ∧ pl.playedCue = q := by
  simp [State.plays, Option.any_eq_true]

/-- The cue is the target of the session, or a channel plays it: ERASE CUE is refused (R145). -/
theorem State.cueInUse_iff (s : State) (q : CueId) :
    s.edits q = true ∨ s.plays .a q = true ∨ s.plays .b q = true ↔
      (∃ e, s.edit = some e ∧ e.target = q) ∨ ∃ c pl, s.playerOf c = some pl ∧ pl.playedCue = q := by
  have edits : s.edits q = true ↔ ∃ e, s.edit = some e ∧ e.target = q := by simp [State.edits, Option.any_eq_true]
  have plays : s.plays .a q = true ∨ s.plays .b q = true ↔ ∃ c, s.plays c q = true :=
    ⟨fun plays => plays.elim (⟨.a, ·⟩) (⟨.b, ·⟩), fun ⟨c, plays⟩ => match c with
      | .a => .inl plays
      | .b => .inr plays⟩
  rw [edits, plays]
  simp only [State.plays_iff]

/-- A loadable cue that is not in use is emptied, and the channels compare; an EMPTY one stays so. -/
theorem ownEraseCue_free (loadable : 8 ≤ q.val) (target : ∀ e, s.edit = some e → e.target ≠ q)
    (played : ∀ c pl, s.playerOf c = some pl → pl.playedCue ≠ q) :
    ownEraseCue (byteOf q.val) s =
      if s.ready q then (({ s with cues := s.cues.put q none } : State).compareSince s).replyOk [] else s.replyOk [] := by
  have free : ¬ (s.edits q = true ∨ s.plays .a q = true ∨ s.plays .b q = true) := by
    rw [State.cueInUse_iff]
    rintro (⟨e, editing, same⟩ | ⟨c, pl, playing, same⟩)
    · exact target e editing same
    · exact played c pl playing same
  rw [ownEraseCue, loadableOf_byteOf loadable]
  exact if_neg free

/-- Settles O43: the report's parts stand in their places, and the erasure is one write of the cue table after which the
channels compare. -/
theorem cueReadAndErase : Obligations.CueReadAndErase := by
  refine ⟨fun b s range => exec_answers rfl ?_,
    fun q s legal => ⟨contentsBytes s.cues[q], exec_answers rfl (ownReadCue_byteOf q s), ?_, fun empty => ?_, fun c ready => ?_⟩,
    fun b s range => exec_answers rfl ?_, fun q s loadable => ⟨fun used => exec_answers rfl ?_, fun target played => ?_⟩⟩
  · show ownReadCue b s = s.refuse .range
    rw [ownReadCue, numbered_none range]
  · cases cue : s.cues[q] with
    | none =>
      obtain ⟨_, report, -⟩ := contentsBytes_none
      exact report.length
    | some c => exact (legal.ready q c cue).report.length
  · rw [empty]
    obtain ⟨header, report, state, count, items⟩ := contentsBytes_none
    refine ⟨(report.header 0 (by decide)).trans state, (report.header 5 (by decide)).trans count, fun i low high => ?_,
      fun i within => report.noStep i (Nat.zero_le i) within, fun i low high => ?_⟩
    · rw [report.header i (by omega)]
      exact items i low high
    · rcases low.eq_or_lt with rfl | low
      · exact report.loopCount
      · exact report.noLoop i low high
  · rw [ready]
    have report := (legal.ready q c ready).report
    have header := fun i within (v : Byte) (reads : c.headerBytes[i]? = some v) => (report.header i within).trans reads
    refine ⟨header 0 (by decide) _ rfl, header 1 (by decide) _ rfl, header 2 (by decide) _ rfl, header 5 (by decide) _ rfl,
      report.step, report.noStep, fun a alt => ?_, fun plain => ?_, report.loopCount, report.loop, report.noLoop⟩
    · exact ⟨header 3 (by decide) _ (by simp [CueContents.headerBytes, alt]),
        header 4 (by decide) _ (by simp [CueContents.headerBytes, alt])⟩
    · have free : ∀ i < 6, ∀ item, c.headerBytes[i]? = some (Config.inapplicable item) →
          (contentsBytes (some c))[i]? = some 0 ∨ (contentsBytes (some c))[i]? = some 0xFF := fun i within item reads => by
        rw [header i within _ reads]
        exact (Config.inapplicable_cases item).imp (congrArg some) (congrArg some)
      exact ⟨free 3 (by decide) .altFrom (by simp [CueContents.headerBytes, plain]),
        free 4 (by decide) .altTempo (by simp [CueContents.headerBytes, plain])⟩
  · show ownEraseCue b s = s.refuse .range
    rw [ownEraseCue, loadableOf_none range]
  · show ownEraseCue _ s = s.refuse .state
    rw [ownEraseCue, loadableOf_byteOf loadable]
    exact if_pos ((s.cueInUse_iff q).mpr used)
  · have erases := ownEraseCue_free loadable target played
    cases cue : s.cues[q] with
    | none =>
      have empty : ¬ s.ready q = true := by simp [State.ready, cue]
      have stays : exec (.eraseCue (byteOf q.val)) s = .next (s.answered (.eraseCue (byteOf q.val)) (.okWith [])) :=
        exec_answers rfl (erases.trans (if_neg empty))
      have same : s.cues = s.cues.put q none := by
        rw [← cue]
        exact (Table.put_getElem s.cues q).symm
      exact ⟨fun _ => stays, s, stays, same, .refl s, fun ready => absurd rfl ready⟩
    | some c =>
      have ready : s.ready q = true := by simp [State.ready, cue]
      have sound := State.SoundFrame.compareSince { s with cues := s.cues.put q none } s
      refine ⟨nofun, _, exec_answers rfl (erases.trans (if_pos ready)), sound.cues_eq, ?_, fun _ => ?_⟩
      · rw [sound.cues_eq]
        exact sound
      · exact State.compared_compareSince (fun _ => rfl) fun _ => rfl

end Sys2Proof.Machine

namespace Sys2Proof.Machine

/-! ## What leaves the cue library and the host link alone

No other block writes the cues and the session (chapter 8), and an owner leaves the link to learn of its answer (R170). -/

variable {s t u : State}

/-- The cues, the edit session and the host link are as they were. -/
structure State.Beside (s t : State) : Prop where
  cues : t.cues = s.cues
  edit : t.edit = s.edit
  link : t.link = s.link

theorem State.Beside.refl (s : State) : State.Beside s s := ⟨rfl, rfl, rfl⟩

theorem State.Beside.trans (h : State.Beside s t) (k : State.Beside t u) : State.Beside s u :=
  ⟨k.cues.trans h.cues, k.edit.trans h.edit, k.link.trans h.link⟩

/-- A change that begins by writing something else. -/
theorem State.Beside.after (h : State.Beside u t) (cues : u.cues = s.cues) (edit : u.edit = s.edit)
    (link : u.link = s.link) : State.Beside s t := State.Beside.trans ⟨cues, edit, link⟩ h

theorem State.PictureFrame.beside (h : State.PictureFrame s t) : State.Beside s t := ⟨h.cues, h.edit, h.link⟩

theorem State.SoundFrame.beside (h : State.SoundFrame s t) : State.Beside s t := h.picture.beside

/-! ### Lines and service (chapters 1 and 2) -/

theorem State.Beside.rederiveFaulted (s : State) : State.Beside s s.rederiveFaulted := by
  unfold State.rederiveFaulted
  dsimp only
  split <;> exact ⟨rfl, rfl, rfl⟩

theorem State.Beside.linesChanged (s : State) (ns : List LineId) : State.Beside s (s.linesChanged ns) :=
  (State.Beside.rederiveFaulted s).trans ((State.linesChanged_frame s ns).beside.after rfl rfl rfl)

theorem State.Beside.serviceChanged (s : State) (p : PointId) : State.Beside s (s.serviceChanged p) := by
  unfold State.serviceChanged
  split
  · exact (State.Beside.rederiveFaulted s).trans (State.PictureFrame.takeRaw _ _ _).beside
  · exact .refl s
  · exact .refl s

theorem State.Beside.bringIn (s : State) (p : PointId) : State.Beside s (s.bringIn p) :=
  ((State.PictureFrame.takeSource (s.entered p) p).beside.trans (.serviceChanged _ p)).after rfl rfl rfl

theorem State.Beside.takeOut (s : State) (p : PointId) : State.Beside s (s.takeOut p) :=
  ((State.PictureFrame.leavePicture (s.withdrawn p) p _).beside.trans (.serviceChanged _ p)).after rfl rfl rfl

theorem State.Beside.sampleLine (s : State) (n : LineId) (level : Byte) : State.Beside s (s.sampleLine n level) := by
  unfold State.sampleLine
  dsimp only
  split
  · exact (State.Beside.linesChanged (s.setLine n _) _).after rfl rfl rfl
  · exact ⟨rfl, rfl, rfl⟩

theorem State.Beside.expireOnDelay (s : State) (p : PointId) : State.Beside s (s.expireOnDelay p) := by
  unfold State.expireOnDelay
  dsimp only
  split
  · exact ((State.PictureFrame.setFilter s p _).trans (.rise _ p)).beside
  · exact .refl s

theorem State.Beside.expireOffDelay (s : State) (p : PointId) : State.Beside s (s.expireOffDelay p) := by
  unfold State.expireOffDelay
  dsimp only
  split
  · exact ((State.PictureFrame.setFilter s p _).trans (.fall _ p)).beside
  · exact .refl s

theorem State.Beside.hostCondition (s : State) (b : Byte) (v : Bool) : State.Beside s (s.hostCondition b v).1 := by
  unfold State.hostCondition
  split
  · exact .refl s
  · split
    · exact .refl s
    · split
      · exact .refl s
      · exact ((State.PictureFrame.setFilter s _ _).trans (.takeRaw _ _ _)).beside

/-! ### Shelves and groups (chapters 5 and 6) -/

theorem State.Beside.unshelvePoint (s : State) (p : PointId) : State.Beside s (s.unshelvePoint p) :=
  (State.PictureFrame.endShelve { s with shelves := s.withoutShelve p } p).beside.after rfl rfl rfl

theorem State.Beside.expireShelve (s : State) (p : PointId) : State.Beside s (s.expireShelve p) := by
  unfold State.expireShelve
  split
  · exact (State.Beside.unshelvePoint s p).trans (State.PictureFrame.raise _ _).beside
  · exact .refl s

theorem State.Beside.ownShelve (s : State) (b : Byte) (m : Half) : State.Beside s (ownShelve b m s).1 := by
  unfold Machine.ownShelve
  split
  · exact .refl s
  · rename_i p _
    have leaves : State.Beside s ((s.putShelve p m).leavePicture p .shelved) :=
      (State.PictureFrame.leavePicture _ p _).beside.after rfl rfl rfl
    split_ifs <;> first | exact ⟨rfl, rfl, rfl⟩ | exact leaves

theorem State.Beside.ownWriteGroup (s : State) (g v : Byte) : State.Beside s (ownWriteGroup g v s).1 := by
  unfold Machine.ownWriteGroup
  split
  · split
    · exact .refl s
    · split
      · exact (State.PictureFrame.setGroup s _ _).beside
      · exact ((State.PictureFrame.emptySlot s _).trans (.setGroup _ _ _)).beside
  · exact .refl s

theorem State.Beside.ownClearFirstOut (s : State) (g : Byte) : State.Beside s (ownClearFirstOut g s).1 := by
  unfold Machine.ownClearFirstOut
  split
  · exact .refl s
  · rename_i g _
    refine (State.PictureFrame.emptySlot s g).beside.trans ?_
    show State.Beside _ ((s.emptySlot g).armIfQuiet g)
    rw [State.armIfQuiet_eq]
    exact ⟨rfl, rfl, rfl⟩

/-! ### Panel and channels (chapters 7 and 9) -/

theorem State.Beside.setTests (s : State) (panel host : Option Nat) : State.Beside s (s.setTests panel host) := by
  unfold State.setTests
  dsimp only
  split
  · exact ⟨rfl, rfl, rfl⟩
  · split
    · exact (((State.SoundFrame.renewTestOn _ .a).trans (.renewTestOn _ .b)).trans
        (.compareSince _ s)).beside.after rfl rfl rfl
    · exact (State.SoundFrame.compareChannels _).beside.after rfl rfl rfl

theorem State.Beside.writeEnables (s : State) (e : PerKey Bool) : State.Beside s (s.writeEnables e) := by
  unfold State.writeEnables
  dsimp only
  split
  · exact ⟨rfl, rfl, rfl⟩
  · exact (State.Beside.setTests { s with keyEnables := e } _ _).after rfl rfl rfl

theorem State.Beside.press (s : State) (k : Key) : State.Beside s (s.press k) := by
  have acts : State.Beside s (s.keyAction k) := by
    cases k with
    | kack => exact (State.PictureFrame.acknowledgeAll s .panel _).beside
    | ksil => exact (State.PictureFrame.silenceAll s).beside
    | krst => exact (State.PictureFrame.resetEvery s).beside
    | ktst => exact .setTests s _ _
  unfold State.press
  split
  · exact acts.trans (State.PictureFrame.raise _ _).beside
  · exact .refl s

theorem State.Beside.expireDebounce (s : State) (k : Key) : State.Beside s (s.expireDebounce k) := by
  by_cases idle : (s.keys.get k).timer = none
  · rw [State.expireDebounce_idle idle]
    exact .refl s
  · rw [State.expireDebounce_running idle]
    split
    · unfold State.release
      split
      · exact (State.Beside.setTests (s.settleKey k) _ _).after rfl rfl rfl
      · exact ⟨rfl, rfl, rfl⟩
    · exact (State.Beside.press (s.settleKey k) k).after rfl rfl rfl

theorem State.Beside.changeSettings (s : State) (c : Chan) (v : Bool) (w : SwitchPolicy) :
    State.Beside s (s.changeSettings c v w) := by
  unfold State.changeSettings
  dsimp only
  split
  · exact (State.SoundFrame.compareChannel (s.setSettings c v w) c).beside.after rfl rfl rfl
  · unfold State.stopChannel
    split
    · exact (State.SoundFrame.goIdle (s.setSettings c v w) c).beside.after rfl rfl rfl
    · exact ⟨rfl, rfl, rfl⟩

theorem State.Beside.endStep (s : State) (c : Chan) : State.Beside s (s.endStep c) := by
  rcases s.endStep_sound c with sound | ⟨o, sound⟩
  · exact sound.beside
  · refine State.Beside.trans ?_ sound.beside
    cases o <;> exact ⟨rfl, rfl, rfl⟩

/-! ### The owners -/

/-- The host commands that write the cues or the session: those of chapter 8, and RESTART (R143). -/
def isLibraryWrite : Instr → Bool
  | .beginEdit _ | .writeCueHeader _ | .writeSteps _ _ | .commit | .abortEdit | .eraseCue _ | .restart => true
  | _ => false

theorem ownerTakes_apart_beside (c : Instr) (s : State) (apart : isApart c = true) (other : isLibraryWrite c = false) :
    State.Beside s (ownerTakes c s).1 := by
  cases c
  case writePanel a b c d =>
    show State.Beside s (ownWritePanel a b c d s).1
    unfold ownWritePanel
    split
    · exact .writeEnables s _
    · exact .refl s
  case lampTest n =>
    show State.Beside s (ownLampTest n s).1
    unfold ownLampTest
    split
    · exact .refl s
    · exact .setTests s _ _
  case writeChannel c e w =>
    show State.Beside s (ownWriteChannel c e w s).1
    unfold ownWriteChannel
    split
    · split
      · exact .refl s
      · exact .changeSettings s _ _ _
    · exact .refl s
  case clearEvents f =>
    show State.Beside s (ownClearEvents f s).1
    unfold ownClearEvents
    split <;> exact ⟨rfl, rfl, rfl⟩
  case writeEventMask m =>
    show State.Beside s (ownWriteEventMask m s).1
    unfold ownWriteEventMask
    split <;> exact ⟨rfl, rfl, rfl⟩
  all_goals first | exact absurd apart Bool.false_ne_true | exact absurd other.symm Bool.false_ne_true

/-- No other owner writes the cue library, and none of these the link. -/
theorem ownerTakes_beside (c : Instr) (s : State) (other : isLibraryWrite c = false) :
    State.Beside s (ownerTakes c s).1 := by
  by_cases read : isRead c = true
  · rw [ownerTakes_read c s read]
    exact .refl s
  by_cases apart : isApart c = true
  · exact ownerTakes_apart_beside c s apart other
  cases c
  case writePoint b rec =>
    show State.Beside s (ownWritePoint b rec s).1
    unfold ownWritePoint
    split
    · exact .refl s
    · split
      · exact .refl s
      · split
        · exact .refl s
        · split <;> exact ⟨rfl, rfl, rfl⟩
  case setServiceIn b =>
    show State.Beside s (ownSetServiceIn b s).1
    unfold ownSetServiceIn
    split
    · exact .refl s
    · split
      · exact .refl s
      · exact .bringIn s _
  case setServiceOut b =>
    show State.Beside s (ownSetServiceOut b s).1
    unfold ownSetServiceOut
    split
    · exact .refl s
    · split
      · exact .takeOut s _
      · exact .refl s
  case writeClass n i =>
    show State.Beside s (ownWriteClass n i s).1
    unfold ownWriteClass
    split
    · exact .refl s
    · split <;> exact ⟨rfl, rfl, rfl⟩
  case writeLine n m q k =>
    show State.Beside s (ownWriteLine n m q k s).1
    unfold ownWriteLine
    split
    · dsimp only
      split
      · exact .refl s
      · exact (State.Beside.linesChanged _ _).after rfl rfl rfl
    · exact .refl s
  case writeThresholds k x a o =>
    show State.Beside s (ownWriteThresholds k x a o s).1
    unfold ownWriteThresholds
    split
    · exact .refl s
    · split
      · exact .refl s
      · split
        · exact .refl s
        · exact (State.Beside.linesChanged _ _).after rfl rfl rfl
  case assertPoint b => exact .hostCondition s b true
  case releasePoint b => exact .hostCondition s b false
  case ack b e st =>
    show State.Beside s (ownAck b e st s).1
    unfold ownAck
    split
    · split
      · split <;> exact .refl s
      · split
        · exact .refl s
        · split
          · exact (State.PictureFrame.acknowledge s .host _).beside
          · exact .refl s
    · exact .refl s
  case ackGroup g =>
    show State.Beside s (ownAckGroup g s).1
    unfold ownAckGroup
    split
    · exact .refl s
    · exact (State.PictureFrame.acknowledgeAll s .host _).beside
  case ackAll => exact (State.PictureFrame.acknowledgeAll s .host _).beside
  case reset b =>
    show State.Beside s (ownReset b s).1
    unfold ownReset
    split
    · exact .refl s
    · split
      · exact (State.PictureFrame.retire State.PictureFrame.handOverflow s _ _).beside
      · exact .refl s
  case resetAll => exact (State.PictureFrame.resetEvery s).beside
  case writeGroup g v => exact .ownWriteGroup s g v
  case clearFirstOut g => exact .ownClearFirstOut s g
  case shelve b m => exact .ownShelve s b m
  case unshelve b =>
    show State.Beside s (ownUnshelve b s).1
    unfold ownUnshelve
    split
    · exact .refl s
    · split
      · exact .unshelvePoint s _
      · exact .refl s
  case silence => exact (State.PictureFrame.silenceAll s).beside
  case writeTones n l =>
    show State.Beside s (ownWriteTones n l s).1
    unfold ownWriteTones
    split
    · exact .refl s
    · split <;> exact ⟨rfl, rfl, rfl⟩
  all_goals first
    | exact absurd rfl read
    | exact absurd rfl apart
    | exact absurd other.symm Bool.false_ne_true
    | exact .refl s

/-- Every owner leaves the link to learn of its answer (R170, R171). -/
theorem ownerTakes_link (c : Instr) (s : State) : (ownerTakes c s).1.link = s.link := by
  by_cases other : isLibraryWrite c = false
  · exact (ownerTakes_beside c s other).link
  cases c
  case beginEdit b =>
    show (ownBeginEdit b s).1.link = _
    unfold ownBeginEdit
    split
    · rfl
    · split <;> rfl
  case writeCueHeader h =>
    show (ownWriteCueHeader h s).1.link = _
    unfold ownWriteCueHeader
    split
    · rfl
    · split <;> rfl
  case writeSteps o l =>
    show (ownWriteSteps o l s).1.link = _
    unfold ownWriteSteps
    split
    · rfl
    · split <;> rfl
  case commit =>
    show (ownCommit s).1.link = _
    unfold ownCommit
    split <;> rfl
  case abortEdit =>
    show (ownAbortEdit s).1.link = _
    unfold ownAbortEdit
    split <;> rfl
  case eraseCue b =>
    show (ownEraseCue b s).1.link = _
    unfold ownEraseCue
    split
    · rfl
    · split
      · rfl
      · split
        · exact (State.SoundFrame.compareSince _ s).link_eq
        · rfl
  case restart => exact s.kept_restartAll.1.link
  all_goals exact absurd rfl other

end Sys2Proof.Machine

namespace Sys2Proof.Machine

/-! ## Every step keeps the cues legal (R127, R132, R135) -/

variable {s t : State} {e : EditSession} {q : CueId}

/-- An edit session as `State.CuesLegal` has it: on a loadable cue, with buffers that a write can fill, its idle timer running
exactly while it is OPEN. -/
structure EditSession.Legal (e : EditSession) : Prop where
  target : 8 ≤ e.target.val
  stepCount : e.stepCount ≤ 16
  loops : e.header.loops.length ≤ 2
  idleTimer : e.idleTimer.isSome ↔ e.phase = .openPhase

theorem State.CuesLegal.session (h : s.CuesLegal) (editing : s.edit = some e) : e.Legal :=
  ⟨h.target e editing, h.stepCount e editing, h.header e editing, h.idleTimer e editing⟩

/-- A change of the session alone. -/
theorem State.CuesLegal.withEdit (h : s.CuesLegal) (cues : t.cues = s.cues) (legal : ∀ e, t.edit = some e → e.Legal) :
    t.CuesLegal where
  builtIn := cues ▸ h.builtIn
  ready := cues ▸ h.ready
  target e editing := (legal e editing).target
  stepCount e editing := (legal e editing).stepCount
  header e editing := (legal e editing).loops
  idleTimer e editing := (legal e editing).idleTimer

/-- The cues and the edit session are as they were. -/
structure State.SameLibrary (s t : State) : Prop where
  cues : t.cues = s.cues
  edit : t.edit = s.edit

theorem State.Beside.library (h : State.Beside s t) : State.SameLibrary s t := ⟨h.cues, h.edit⟩

theorem State.CuesLegal.congr (h : s.CuesLegal) (cues : t.cues = s.cues) (edit : t.edit = s.edit) : t.CuesLegal :=
  h.withEdit cues fun _ editing => h.session (edit ▸ editing)

theorem State.SameLibrary.legal (same : State.SameLibrary s t) (h : s.CuesLegal) : t.CuesLegal :=
  h.congr same.cues same.edit

theorem State.CuesLegal.noEdit (h : s.CuesLegal) (cues : t.cues = s.cues) (closed : t.edit = none) : t.CuesLegal :=
  h.withEdit cues fun _ editing => nomatch closed.symm.trans editing

theorem State.CuesLegal.setEdit (h : s.CuesLegal) (legal : e.Legal) : (s.setEdit (some e)).CuesLegal :=
  h.withEdit rfl fun _ editing => Option.some.inj editing ▸ legal

/-- A loadable cue emptied, or given legal contents. -/
theorem State.CuesLegal.putCue (h : s.CuesLegal) (loadable : 8 ≤ q.val) {contents : Option CueContents}
    (legal : ∀ c, contents = some c → c.Legal) : ({ s with cues := s.cues.put q contents } : State).CuesLegal where
  builtIn k low := by
    have ne : q ≠ k := by
      rintro rfl
      omega
    exact (Table.getElem_put_ne s.cues contents ne).trans (h.builtIn k low)
  ready k c ready := by
    dsimp only at ready
    rw [Table.getElem_put] at ready
    split at ready
    · exact legal c ready
    · exact h.ready k c ready
  target := h.target
  stepCount := h.stepCount
  header := h.header
  idleTimer := h.idleTimer

/-! ### The session's operations -/

theorem freshSession_legal (loadable : 8 ≤ q.val) : (freshSession q).Legal :=
  ⟨loadable, Nat.zero_le 16, Nat.zero_le 2, iff_of_true rfl rfl⟩

theorem EditSession.Legal.touched (h : e.Legal) (phase : e.phase = .openPhase) : e.touched.Legal :=
  ⟨h.target, h.stepCount, h.loops, iff_of_true rfl phase⟩

theorem headerOf_loops {h : HeaderBytes} {b : HeaderBuffer} (read : headerOf h = some b) : b.loops.length ≤ 2 := by
  unfold headerOf at read
  split at read
  · exact nomatch read
  · split at read
    · exact nomatch read
    · obtain rfl := Option.some.inj read
      simp [List.length_take]

theorem State.CuesLegal.openSession (h : s.CuesLegal) (opened : s.openSession = some e) :
    e.Legal ∧ e.phase = .openPhase := by
  obtain ⟨editing, phase⟩ := State.openSession_eq_some_iff.mp opened
  exact ⟨h.session editing, phase⟩

theorem State.CuesLegal.endEdit (h : s.CuesLegal) : s.endEdit.CuesLegal := h.noEdit rfl rfl

theorem State.CuesLegal.expireEdit (h : s.CuesLegal) : s.expireEdit.CuesLegal := by
  unfold State.expireEdit
  split
  · split
    · exact h.endEdit
    · exact h
  · exact h

/-- A check that passes replaces a loadable cue by legal contents; one that fails opens the session again. -/
theorem State.CuesLegal.endCheck (h : s.CuesLegal) : s.endCheck.CuesLegal := by
  by_cases checking : ∃ e, s.edit = some e ∧ e.phase = .validating
  · obtain ⟨e, editing, phase⟩ := checking
    have legal := h.session editing
    cases verdict : e.rejection with
    | none =>
      rw [State.endCheck_passes editing phase verdict]
      have built : ∀ c, some e.build = some c → c.Legal := fun c same =>
        Option.some.inj same ▸ EditSession.build_legal verdict legal.stepCount legal.loops
      have committed : (s.committed e).CuesLegal := (h.putCue legal.target built).endEdit
      have replaced := (State.SoundFrame.replaceCue s e).beside.library.legal committed
      exact replaced.congr rfl rfl
    | some v =>
      rw [State.endCheck_rejects editing phase verdict]
      have reopened : ({ e.touched with phase := .openPhase } : EditSession).Legal :=
        ⟨legal.target, legal.stepCount, legal.loops, iff_of_true rfl rfl⟩
      exact (h.setEdit reopened).congr rfl rfl
  · rw [State.endCheck_idle fun e editing => ?_]
    · exact h
    · cases phase : e.phase with
      | openPhase => rfl
      | validating => exact absurd ⟨e, editing, phase⟩ checking

/-! ### Every command -/

/-- Every owner keeps the cues legal. -/
theorem State.CuesLegal.ownerTakes (h : s.CuesLegal) (c : Instr) : (ownerTakes c s).1.CuesLegal := by
  by_cases other : isLibraryWrite c = false
  · exact (ownerTakes_beside c s other).library.legal h
  cases c
  case beginEdit b =>
    show (ownBeginEdit b s).1.CuesLegal
    unfold ownBeginEdit
    split
    · exact h
    · rename_i q read
      split
      · exact h
      · exact h.setEdit (freshSession_legal (loadableOf_loadable read))
  case writeCueHeader hd =>
    show (ownWriteCueHeader hd s).1.CuesLegal
    unfold ownWriteCueHeader
    split
    · exact h
    · rename_i e opened
      obtain ⟨legal, phase⟩ := h.openSession opened
      have touched := legal.touched phase
      split
      · exact h.setEdit touched
      · rename_i b read
        exact h.setEdit ⟨touched.target, touched.stepCount, headerOf_loops read, touched.idleTimer⟩
  case writeSteps o l =>
    show (ownWriteSteps o l s).1.CuesLegal
    unfold ownWriteSteps
    split
    · exact h
    · rename_i e opened
      obtain ⟨legal, phase⟩ := h.openSession opened
      have touched := legal.touched phase
      split
      · exact h.setEdit touched
      · rename_i fits
        have count : max e.stepCount (o.toNat + l.length) ≤ 16 :=
          max_le legal.stepCount (Nat.le_of_not_lt fun beyond => fits (.inr beyond))
        exact h.setEdit ⟨touched.target, count, touched.loops, touched.idleTimer⟩
  case commit =>
    show (ownCommit s).1.CuesLegal
    unfold ownCommit
    split
    · exact h
    · rename_i e opened
      obtain ⟨legal, -⟩ := h.openSession opened
      exact h.setEdit ⟨legal.target, legal.stepCount, legal.loops, by simp⟩
  case abortEdit =>
    show (ownAbortEdit s).1.CuesLegal
    unfold ownAbortEdit
    split
    · exact h
    · exact h.endEdit
  case eraseCue b =>
    show (ownEraseCue b s).1.CuesLegal
    unfold ownEraseCue
    split
    · exact h
    · rename_i q read
      split
      · exact h
      · split
        · exact (State.SoundFrame.compareSince _ s).beside.library.legal
            (h.putCue (loadableOf_loadable read) (contents := none) nofun)
        · exact h
  case restart =>
    have restarts := s.kept_restartAll.1
    exact h.noEdit restarts.cues restarts.edit
  all_goals exact absurd rfl other

/-- A completion leaves the cue library that the owner of its command leaves, or the one it found (R170, R174). -/
theorem execCommandCompletion_library (marked : Bool) (run : exec (.commandCompletion marked) s = .next t) :
    State.SameLibrary s t ∨ ∃ c, State.SameLibrary (ownerTakes c s).1 t := by
  obtain rfl := Host.Outcome.next.inj run
  split
  · unfold State.completeMarked
    split
    · exact .inl ⟨rfl, rfl⟩
    · split
      · exact .inr ⟨_, rfl, rfl⟩
      · exact .inl ⟨rfl, rfl⟩
      · exact .inl ⟨rfl, rfl⟩
  · unfold State.completeInFlight
    split
    · exact .inl ⟨rfl, rfl⟩
    · split
      · exact .inl ⟨rfl, rfl⟩
      · split <;> exact .inl ⟨rfl, rfl⟩
      · dsimp only
        split <;> exact .inr ⟨_, rfl, rfl⟩

theorem State.SameLibrary.noteLinkFault (s : State) (v : Bool) : State.SameLibrary s (s.noteLinkFault v) := by
  unfold State.noteLinkFault
  split <;> exact ⟨rfl, rfl⟩

/-- The events of the port leave the cue library alone. -/
theorem exec_port_library (c : Instr) (port : isPortEvent c = true) (run : exec c s = .next t) : State.SameLibrary s t := by
  cases c
  all_goals first | exact absurd port Bool.false_ne_true | obtain rfl := Host.Outcome.next.inj run
  case selnFall | collect | byteCompletion => split <;> exact ⟨rfl, rfl⟩
  case requestFrameEnd =>
    split
    · split
      · obtain ⟨cues, edit⟩ := State.SameLibrary.noteLinkFault (s.setLink _) (judgeFrame s.link.rx).2
        exact ⟨cues, edit⟩
      · exact ⟨rfl, rfl⟩
    · exact ⟨rfl, rfl⟩
  case selnRise =>
    obtain ⟨cues, edit⟩ := State.SameLibrary.noteLinkFault (s.setLink s.link.selnUp) s.link.partialFrame
    exact ⟨cues, edit⟩
  case linkReset =>
    show State.SameLibrary s s.expireLink
    unfold State.expireLink
    split <;> exact ⟨rfl, rfl⟩

/-- Every command keeps the cues legal. -/
theorem State.CuesLegal.exec (h : s.CuesLegal) (c : Instr) (run : exec c s = .next t) : t.CuesLegal := by
  by_cases host : isHostCommand c = true
  · rw [exec_host c s host] at run
    obtain rfl := Host.Outcome.next.inj run
    exact (h.ownerTakes c).congr rfl rfl
  by_cases port : isPortEvent c = true
  · exact (exec_port_library c port run).legal h
  cases c
  case commandCompletion marked =>
    rcases execCommandCompletion_library marked run with same | ⟨c, same⟩
    · exact same.legal h
    · exact same.legal (h.ownerTakes c)
  all_goals first
    | exact absurd rfl host
    | exact absurd rfl port
    | obtain rfl := Host.Outcome.next.inj run
  case powerOnReset => exact State.reset_cuesLegal.congr rfl rfl
  case lineSample n level => exact (State.Beside.sampleLine s n level).library.legal h
  case onDelayExpiry p => exact (State.Beside.expireOnDelay s p).library.legal h
  case offDelayExpiry p => exact (State.Beside.expireOffDelay s p).library.legal h
  case shelveExpiry p => exact (State.Beside.expireShelve s p).library.legal h
  case reannounceExpiry p st => exact (State.PictureFrame.expireReannounce s p st).beside.library.legal h
  case keyLineChange k level => exact h.congr rfl rfl
  case debounceExpiry k => exact (State.Beside.expireDebounce s k).library.legal h
  case panelTestExpiry => exact (State.Beside.setTests s _ _).library.legal h
  case hostTestExpiry => exact (State.Beside.setTests s _ _).library.legal h
  case stepEnd c => exact (State.Beside.endStep s c).library.legal h
  case editIdleTimeout => exact h.expireEdit
  case commitCheckEnd => exact h.endCheck
  case ageIncrement p => exact (State.PictureFrame.modifyRecord s p _).beside.library.legal h

/-! ### The step -/

/-- One period of the idle timer starts and stops nothing. -/
theorem EditSession.Legal.count (h : e.Legal) : ({ e with idleTimer := countDown e.idleTimer } : EditSession).Legal :=
  ⟨h.target, h.stepCount, h.loops, by rw [countDown, Option.isSome_map]; exact h.idleTimer⟩

theorem State.CuesLegal.countAll (h : s.CuesLegal) : s.countAll.CuesLegal :=
  h.withEdit rfl fun e counted => by
    obtain ⟨e', editing, rfl⟩ := Option.map_eq_some_iff.mp counted
    exact (h.session editing).count

/-- Settles O55: the cues and the session are written by the commands of chapter 8 alone, which check what they write. -/
theorem stepKeepsCuesLegal : Obligations.StepKeepsCuesLegal := fun _ _ legal run =>
  step_keeps (P := State.CuesLegal) (fun c _ _ h run => h.exec c run) (fun _ h => h.countAll)
    (fun _ _ h => h.congr rfl rfl) (fun _ _ h => h.congr rfl rfl) legal run

end Sys2Proof.Machine

namespace Sys2Proof.Machine

/-! ## Completions, collects and SDO (R167, R170, R171, R174, R175) -/

variable {s : State} {c : Instr} {a : Answer} {f : InFlight} {rest : List Work}

theorem isHostCommand_of_request (request : c.request ≠ none) : isHostCommand c = true := by
  cases c <;> first | rfl | exact absurd rfl request

/-- A host command is what its owner makes of it, and the link learns of the answer (R171). -/
theorem exec_request (c : Instr) (s : State) (request : c.request ≠ none) :
    exec c s = .next { (ownerTakes c s).1 with
      answer := (ownerTakes c s).2, link := s.link.takeUp c (ownerTakes c s).2 } := by
  rw [exec_host c s (isHostCommand_of_request request), Reply.handOver, ownerTakes_link]

/-! ### The command in flight -/

theorem State.completeInFlight_idle (idle : s.link.inFlight = none) : s.completeInFlight = s := by
  simp only [State.completeInFlight, idle]

theorem State.completeInFlight_done (busy : s.link.inFlight = some f) (work : f.work = .done a) :
    s.completeInFlight = s.place f a := by
  simp only [State.completeInFlight, busy, work]

theorem State.completeInFlight_checking (busy : s.link.inFlight = some f) (work : f.work = .checking) :
    s.completeInFlight = if s.validating then s else s.place f ⟨Config.abandonedCommit, []⟩ := by
  simp only [State.completeInFlight, busy, work]

/-- A command that its owner has not taken by its completion is taken in the same moment. -/
theorem State.completeInFlight_awaiting (busy : s.link.inFlight = some f) (work : f.work = .awaiting c)
    (answer : (ownerTakes c s).2 = some a) :
    s.completeInFlight = { (ownerTakes c s).1 with
      answer := some a, link := { s.link with inFlight := none, response := some (f.response a) } } := by
  simp only [State.completeInFlight, busy, work, answer, State.place, State.setLink, ownerTakes_link]

theorem State.completeInFlight_starts (busy : s.link.inFlight = some f) (work : f.work = .awaiting c)
    (check : (ownerTakes c s).2 = none) :
    s.completeInFlight = { (ownerTakes c s).1 with
      answer := none, link := { s.link with inFlight := some { f with work := .checking } } } := by
  simp only [State.completeInFlight, busy, work, check, ownerTakes_link]

theorem State.validating_iff (s : State) : s.validating = true ↔ ∃ e, s.edit = some e ∧ e.phase = .validating := by
  simp [State.validating, Option.any_eq_true]

theorem State.validating_eq_false (idle : ∀ e, s.edit = some e → e.phase = .openPhase) : s.validating = false := by
  rw [Bool.eq_false_iff, Ne, State.validating_iff]
  rintro ⟨e, editing, phase⟩
  exact nomatch phase.symm.trans (idle e editing)

/-! ### The commands that carry the discard mark -/

/-- The oldest marked command that can complete, when that is the oldest of all. -/
theorem pickMarked_first {validating : Bool} {w : Work} (can : w.canComplete validating = true) (rest : List Work) :
    pickMarked validating (w :: rest) = some (w, rest) := if_pos can

theorem pickMarked_checking {marked : List Work} (checking : ∀ w ∈ marked, w = .checking) : pickMarked true marked = none := by
  induction marked with
  | nil => rfl
  | cons w ws ih =>
    obtain rfl := checking w List.mem_cons_self
    rw [pickMarked, ih fun w mem => checking w (List.mem_cons_of_mem _ mem)]
    rfl

theorem State.completeMarked_none (none : pickMarked s.validating s.link.marked = none) : s.completeMarked = s := by
  simp only [State.completeMarked, none]

theorem State.completeMarked_done (marked : s.link.marked = .done a :: rest) :
    s.completeMarked = s.setLink { s.link with marked := rest } := by
  have pick := pickMarked_first (validating := s.validating) (w := .done a) rfl rest
  simp only [State.completeMarked, marked, pick]

theorem State.completeMarked_abandoned (marked : s.link.marked = .checking :: rest) (idle : s.validating = false) :
    s.completeMarked = s.setLink { s.link with marked := rest } := by
  have pick := pickMarked_first (validating := s.validating) (w := .checking) (by rw [idle]; rfl) rest
  simp only [State.completeMarked, marked, pick]

theorem State.completeMarked_awaiting (marked : s.link.marked = .awaiting c :: rest)
    (answer : (ownerTakes c s).2 = some a) :
    s.completeMarked = { (ownerTakes c s).1 with answer := some a, link := { s.link with marked := rest } } := by
  have pick := pickMarked_first (validating := s.validating) (w := .awaiting c) rfl rest
  simp only [State.completeMarked, marked, pick, answer, ownerTakes_link]

theorem State.completeMarked_starts (marked : s.link.marked = .awaiting c :: rest) (check : (ownerTakes c s).2 = none) :
    s.completeMarked = { (ownerTakes c s).1 with
      answer := none, link := { s.link with marked := rest ++ [.checking] } } := by
  have pick := pickMarked_first (validating := s.validating) (w := .awaiting c) rfl rest
  simp only [State.completeMarked, marked, pick, check, ownerTakes_link]

/-- A COMMIT whose check goes on has no completion (R143, R179). -/
theorem State.completeMarked_checking
    (checking : ∀ w ∈ s.link.marked, w = .checking ∧ ∃ e, s.edit = some e ∧ e.phase = .validating) :
    s.completeMarked = s := by
  refine State.completeMarked_none ?_
  cases marked : s.link.marked with
  | nil => rfl
  | cons w ws =>
    rw [marked] at checking
    rw [s.validating_iff.mpr (checking w List.mem_cons_self).2]
    exact pickMarked_checking fun w mem => (checking w mem).1

/-! ### The frame a collect chooses, and its check byte (R169, R175) -/

/-- The held response, or a BUSY frame, or a NONE frame. -/
theorem Link.selected_spec (l : Link) :
    (∀ x, l.response = some x → l.selected = (x, true)) ∧
      (∀ f, l.response = none → l.inFlight = some f → l.selected = (⟨.busy, f.dropped, f.overrun, f.tag, []⟩, false)) ∧
      (l.response = none → l.inFlight = none → l.selected = (⟨.none, false, false, 0, []⟩, false)) := by
  refine ⟨fun x held => ?_, fun f empty busy => ?_, fun empty idle => ?_⟩
  · simp only [Link.selected, held]
  · simp only [Link.selected, empty, busy, InFlight.busyFrame]
  · simp only [Link.selected, empty, idle, noneFrame]

/-- A receiver that runs the CRC over a whole frame, its check byte included, ends with 0. -/
theorem crc8_append_self (m : List Byte) : crc8 (m ++ [crc8 m]) = 0 := by
  rw [crc8, List.foldl_append]
  exact crcByte_self (crc8 m)

/-! ### SDO (R167, R175, R178) -/

theorem State.sdoPin_collect {f : CollectFrame} (collects : s.link.trans = .collect (some f)) :
    s.sdoPin .high = some ((f.bytes[f.shifted]?).getD 0) := by
  simp only [State.sdoPin, underReset, Link.sdo, collects]

/-- Settles O49: each completion by how far its command has come, each collect by what the link holds, and SDO by where the
transaction stands. -/
theorem completionsAndCollects : Obligations.CompletionsAndCollects := by
  have inFlight : ∀ {s t : State}, s.completeInFlight = t → exec (.commandCompletion false) s = .next t :=
    fun same => congrArg Host.Outcome.next same
  have marked : ∀ {s t : State}, s.completeMarked = t → exec (.commandCompletion true) s = .next t :=
    fun same => congrArg Host.Outcome.next same
  refine ⟨exec_request, fun f a s busy work => inFlight (State.completeInFlight_done busy work),
    fun f c a s busy work answer => inFlight (State.completeInFlight_awaiting busy work answer),
    fun f s busy work check => inFlight (State.completeInFlight_starts busy work check),
    fun f s busy work => ⟨fun checking => inFlight ?_, fun idle => inFlight ?_⟩,
    fun s idle => inFlight (State.completeInFlight_idle idle),
    fun a rest s first => marked (State.completeMarked_done first),
    fun c a rest s first answer => marked (State.completeMarked_awaiting first answer),
    fun rest s first check => marked (State.completeMarked_starts first check),
    fun rest s first idle => marked (State.completeMarked_abandoned first (State.validating_eq_false idle)),
    fun s checking => marked (State.completeMarked_checking checking),
    fun s collects => ⟨s.link.selected.1, s.link.selected.2, congrArg Host.Outcome.next (if_pos collects), ?_⟩,
    fun s other => congrArg Host.Outcome.next (if_neg other), fun s => ⟨rfl, fun idle => ?_, fun low => ?_, fun missed => ?_,
      fun f collects => ⟨fun b there => ?_, fun whole => ?_⟩⟩, crc8_append_self⟩
  · rw [State.completeInFlight_checking busy work, if_pos (s.validating_iff.mpr checking)]
  · rw [State.completeInFlight_checking busy work, State.validating_eq_false idle]
    rfl
  · obtain ⟨held, busy, none⟩ := s.link.selected_spec
    refine ⟨fun x response => ?_, fun f empty inFlight => ?_, fun empty idle => ?_⟩
    · rw [held x response]
      exact ⟨rfl, rfl⟩
    · rw [busy f empty inFlight]
      exact ⟨rfl, rfl⟩
    · rw [none empty idle]
      exact ⟨rfl, rfl⟩
  · simp only [State.sdoPin, underReset, Link.sdo, idle]
  · rcases low with trans | trans | trans | trans | trans <;> simp only [State.sdoPin, underReset, Link.sdo, trans]
  · simp only [State.sdoPin, underReset, Link.sdo, missed]
  · rw [State.sdoPin_collect collects, there, Option.getD_some]
  · rw [State.sdoPin_collect collects, List.getElem?_eq_none whole, Option.getD_none]

end Sys2Proof.Machine

namespace Sys2Proof.Machine

/-! ## What a channel plays, and that it has compared (R148, R149, R152, R153, R157, R158)

`State.ChannelsServe` in two parts, channel by channel: a legal pass while it is enabled, which every claim keeps, and the
comparison with the wanted demand, which a change of the demands has to make again. -/

variable {s t u : State} {c k : Chan} {pl np : Player} {q : CueId}

/-- A pass plays a READY cue, the demanded one or cue 0, is held exactly when it is one of a FIRM cue, and has its cue's policy
until a COMMIT has replaced the cue (R153, R157, R160). -/
structure State.LegalPass (s : State) (pl : Player) : Prop where
  ready : s.ready pl.playedCue = true
  played : pl.playedCue = pl.demandedCue ∨ pl.playedCue = fallbackCue
  hold : pl.firmHold = true ↔ pl.passPolicy = .firm
  policy : pl.replacementPending = false → pl.passPolicy = (s.contents pl.playedCue).policy

/-- A channel plays at most a legal pass, and nothing while it is disabled (R148). -/
structure State.PlaysAt (s : State) (c : Chan) : Prop where
  disabled : (s.channels.get c).enabled = false → s.playerOf c = none
  passes : ∀ pl, s.playerOf c = some pl → s.LegalPass pl

/-- A channel has compared (R152): IDLE, it wants nothing, and an IMMEDIATE one serves what is wanted unless it is held or
finishes a step (R158, R160). -/
structure State.TakenAt (s : State) (c : Chan) : Prop where
  idle : s.playerOf c = none → s.wanted c = none
  immediate : ∀ pl, s.playerOf c = some pl → (s.channels.get c).policy = .immediate → pl.firmHold = false →
    pl.replacementPending = false → s.wanted c = some pl.current

theorem State.channelsServe_iff : s.ChannelsServe ↔ ∀ c, s.PlaysAt c ∧ s.TakenAt c where
  mp h c := ⟨⟨h.disabled c, fun pl playing =>
    ⟨h.ready c pl playing, h.played c pl playing, h.hold c pl playing, h.pass c pl playing⟩⟩, ⟨h.idle c, h.immediate c⟩⟩
  mpr h :=
    { disabled := fun c => (h c).1.disabled
      idle := fun c => (h c).2.idle
      immediate := fun c => (h c).2.immediate
      ready := fun c pl playing => ((h c).1.passes pl playing).ready
      played := fun c pl playing => ((h c).1.passes pl playing).played
      hold := fun c pl playing => ((h c).1.passes pl playing).hold
      pass := fun c pl playing => ((h c).1.passes pl playing).policy }

/-! ### Legal passes -/

/-- A legal pass stays legal while its own cue has its contents. -/
theorem State.LegalPass.congr (h : s.LegalPass pl) (cue : t.cues[pl.playedCue] = s.cues[pl.playedCue]) : t.LegalPass pl where
  ready := by rw [State.ready, cue]; exact h.ready
  played := h.played
  hold := h.hold
  policy := by rw [State.contents, cue]; exact h.policy

/-- A player that differs in nothing that a legal pass is judged by. -/
structure Player.SamePass (pl np : Player) : Prop where
  current : np.current = pl.current
  playedCue : np.playedCue = pl.playedCue
  passPolicy : np.passPolicy = pl.passPolicy
  firmHold : np.firmHold = pl.firmHold
  replacementPending : np.replacementPending = pl.replacementPending

theorem State.LegalPass.same (h : s.LegalPass pl) (same : Player.SamePass pl np) : s.LegalPass np where
  ready := same.playedCue ▸ h.ready
  played := by rw [same.playedCue, show np.demandedCue = pl.demandedCue from congrArg Demand.cue same.current]; exact h.played
  hold := by rw [same.firmHold, same.passPolicy]; exact h.hold
  policy := by rw [same.replacementPending, same.passPolicy, same.playedCue]; exact h.policy

/-- A pass that begins is legal, since cue 0 is READY (R132, R153). -/
theorem State.legalPass_passStart (fallback : s.ready fallbackCue = true) (o : Owner) (q : CueId) :
    s.LegalPass (s.passStart o q) := by
  have cue : s.ready (s.resolve q) = true ∧ (s.resolve q = q ∨ s.resolve q = fallbackCue) := by
    unfold State.resolve
    split
    · exact ⟨‹_›, .inl rfl⟩
    · exact ⟨fallback, .inr rfl⟩
  exact ⟨cue.1, cue.2, beq_iff_eq, fun _ => rfl⟩

/-! ### One channel, while the other changes -/

theorem State.PlaysAt.congr (h : s.PlaysAt c) (cues : t.cues = s.cues) (same : t.channels.get c = s.channels.get c) :
    t.PlaysAt c where
  disabled off := (congrArg ToneChannel.player same).trans (h.disabled (same ▸ off))
  passes pl playing := (h.passes pl ((congrArg ToneChannel.player same).symm.trans playing)).congr (by rw [cues])

theorem State.TakenAt.congr (h : s.TakenAt c) (wanted : t.wanted c = s.wanted c)
    (same : t.channels.get c = s.channels.get c) : t.TakenAt c where
  idle none := wanted.trans (h.idle ((congrArg ToneChannel.player same).symm.trans none))
  immediate pl playing policy free settled :=
    wanted.trans (h.immediate pl ((congrArg ToneChannel.player same).symm.trans playing) (same ▸ policy) free settled)

/-- A sound frame that leaves a channel's player leaves the channel. -/
theorem State.SoundFrame.channel_eq (h : State.SoundFrame s t) (player : t.playerOf c = s.playerOf c) :
    t.channels.get c = s.channels.get c := by
  have enabled := h.picture.enabled c
  have policy := h.picture.policy c
  unfold State.playerOf at player
  cases ht : t.channels.get c
  cases hs : s.channels.get c
  simp_all

theorem State.SoundFrame.playsAt (h : State.SoundFrame s t) (player : t.playerOf c = s.playerOf c) (plays : s.PlaysAt c) :
    t.PlaysAt c := plays.congr h.cues_eq (h.channel_eq player)

theorem State.SoundFrame.takenAt (h : State.SoundFrame s t) (player : t.playerOf c = s.playerOf c) (taken : s.TakenAt c) :
    t.TakenAt c := taken.congr (h.wanted c) (h.channel_eq player)

/-- A PLAYING channel is enabled. -/
theorem State.PlaysAt.enabled (h : s.PlaysAt c) (playing : s.playerOf c = some pl) : (s.channels.get c).enabled = true := by
  rw [← Bool.not_eq_false]
  intro off
  exact nomatch playing.symm.trans (h.disabled off)

/-- An enabled channel that is given a legal pass. -/
theorem State.PlaysAt.setPlayer (enabled : (s.channels.get c).enabled = true) (legal : s.LegalPass np) :
    (s.setPlayer c (some np)).PlaysAt c := by
  have sound := State.SoundFrame.setPlayer s c (some np)
  have player : (s.setPlayer c (some np)).playerOf c = some np := (s.playerOf_setPlayer c c _).trans (if_pos rfl)
  refine ⟨fun off => ?_, fun pl playing => ?_⟩
  · rw [sound.picture.enabled, enabled] at off
    exact nomatch off
  · obtain rfl := Option.some.inj (player.symm.trans playing)
    exact legal.congr (by rw [sound.cues_eq])

/-- What a channel that serves exactly the wanted demand has taken. -/
theorem State.TakenAt.of_serves (serves : (s.playerOf c).map Player.current = s.wanted c) : s.TakenAt c where
  idle none := by rw [← serves, none, Option.map_none]
  immediate pl playing _ _ _ := by rw [← serves, playing, Option.map_some]

/-! ### Switches and comparisons of one channel -/

theorem State.playerOf_switchTo_ne (s : State) (w : Option Demand) (ne : k ≠ c) :
    (s.switchTo c w).playerOf k = s.playerOf k := by
  cases w with
  | none => exact (s.playerOf_setPlayer c k none).trans (if_neg ne)
  | some d => exact (s.playerOf_beginPass c k d).trans (if_neg ne)

theorem State.PlaysAt.beginPass (fallback : s.ready fallbackCue = true) (enabled : (s.channels.get c).enabled = true)
    (d : Demand) : (s.beginPass c d).PlaysAt c := by
  have noted := State.SoundFrame.noteFallback s d.cue
  refine .setPlayer ((noted.picture.enabled c).trans enabled) ?_
  exact (State.legalPass_passStart fallback d.owner d.cue).congr (by rw [noted.cues_eq])

/-- A channel that wants a demand is enabled (R148, R152). -/
theorem State.enabled_of_wanted {d : Demand} (wants : s.wanted c = some d) : (s.channels.get c).enabled = true := by
  rw [← Bool.not_eq_false]
  intro off
  rw [State.wanted_eq, off] at wants
  exact nomatch wants

/-- A switch to what is wanted leaves a legal pass or an IDLE channel (R158). -/
theorem State.PlaysAt.switchTo (fallback : s.ready fallbackCue = true) (c : Chan) :
    (s.switchTo c (s.wanted c)).PlaysAt c := by
  cases wants : s.wanted c with
  | some d => exact .beginPass fallback (State.enabled_of_wanted wants) d
  | none =>
    have idle : (s.switchTo c none).playerOf c = none := (s.playerOf_setPlayer c c none).trans (if_pos rfl)
    exact ⟨fun _ => idle, fun pl playing => nomatch idle.symm.trans playing⟩

theorem State.TakenAt.switchTo (s : State) (c : Chan) : (s.switchTo c (s.wanted c)).TakenAt c :=
  .of_serves ((State.playerOf_switchTo s c _).trans ((State.SoundFrame.switchTo s c _).wanted c).symm)

theorem State.PlaysAt.compareChannel (fallback : s.ready fallbackCue = true) (h : s.PlaysAt c) :
    (s.compareChannel c).PlaysAt c := by
  rcases s.compareChannel_cases c with same | switches
  · rwa [same]
  · rw [switches]
    exact .switchTo fallback c

theorem State.PlaysAt.compareChannelSince (fallback : s.ready fallbackCue = true) (h : s.PlaysAt c) (before : State) :
    (s.compareChannelSince before c).PlaysAt c := by
  unfold State.compareChannelSince
  split
  · exact h
  · exact h.compareChannel fallback

/-- A channel under STEP, or held, compares without effect while it is PLAYING (R158). -/
theorem State.compareChannel_keeps (playing : s.playerOf c = some pl)
    (stays : (s.channels.get c).policy = .step ∨ pl.firmHold = true) : s.compareChannel c = s := by
  unfold State.compareChannel
  rw [playing]
  rcases stays with step | held
  · dsimp only
    rw [step]
    exact ite_self s
  · exact if_pos (.inl held)

/-- A channel that is IDLE, or IMMEDIATE and not held, compares and then plays what is wanted, or nothing (R153, R158). -/
theorem State.serves_compareChannel
    (free : ∀ pl, s.playerOf c = some pl → (s.channels.get c).policy = .immediate ∧ pl.firmHold = false) :
    ((s.compareChannel c).playerOf c).map Player.current = s.wanted c := by
  cases playing : s.playerOf c with
  | none =>
    cases wants : s.wanted c with
    | none => rw [State.compareChannel_idle playing wants, playing, Option.map_none]
    | some d =>
      have begins : s.compareChannel c = s.switchTo c (some d) := by
        simp only [State.compareChannel, playing, wants, State.switchTo]
      rw [begins, State.playerOf_switchTo]
  | some pl =>
    obtain ⟨immediate, unheld⟩ := free pl playing
    by_cases serves : s.wanted c = some pl.current
    · rw [State.compareChannel_serving playing serves, playing, serves, Option.map_some]
    · have switches : s.compareChannel c = s.switchTo c (s.wanted c) := by
        simp only [State.compareChannel, playing, if_neg (not_or.mpr ⟨Bool.not_eq_true _ ▸ unheld, serves⟩), immediate]
      rw [switches, State.playerOf_switchTo]

/-- A channel that compares has taken what is wanted, whatever it did before (R152, R153, R158). -/
theorem State.TakenAt.compareChannel (s : State) (c : Chan) : (s.compareChannel c).TakenAt c := by
  by_cases free : ∀ pl, s.playerOf c = some pl → (s.channels.get c).policy = .immediate ∧ pl.firmHold = false
  · exact .of_serves ((State.serves_compareChannel free).trans ((State.SoundFrame.compareChannel s c).wanted c).symm)
  · obtain ⟨pl, playing, kept⟩ : ∃ pl, s.playerOf c = some pl ∧
        ¬ ((s.channels.get c).policy = .immediate ∧ pl.firmHold = false) := by simpa using free
    have stays : (s.channels.get c).policy = .step ∨ pl.firmHold = true := by
      cases policy : (s.channels.get c).policy <;> simp_all
    rw [State.compareChannel_keeps playing stays]
    refine ⟨fun idle => (nomatch playing.symm.trans idle), fun pl' playing' immediate unheld _ => ?_⟩
    obtain rfl := Option.some.inj (playing.symm.trans playing')
    exact absurd ⟨immediate, unheld⟩ kept

/-- A channel that finishes a step has taken what it is to take until then (R160). -/
theorem State.TakenAt.of_pending (playing : s.playerOf c = some pl) (pending : pl.replacementPending = true) :
    s.TakenAt c where
  idle none := nomatch playing.symm.trans none
  immediate pl' playing' _ _ settled := by
    obtain rfl := Option.some.inj (playing.symm.trans playing')
    exact absurd (pending.symm.trans settled) (by decide)

theorem State.TakenAt.compareChannelSince (s before : State) (c : Chan) : (s.compareChannelSince before c).TakenAt c := by
  unfold State.compareChannelSince
  split
  · rename_i finishes
    rw [State.finishesStep, Bool.and_eq_true, Option.any_eq_true] at finishes
    obtain ⟨⟨pl, playing, pending⟩, -⟩ := finishes
    exact .of_pending playing pending
  · exact .compareChannel s c

/-! ### Both channels, one after the other -/

/-- What is said of a channel is read from its own player and from what no channel writes. -/
def OfChannel (P : State → Chan → Prop) : Prop :=
  ∀ {s t : State} {c : Chan}, State.SoundFrame s t → t.playerOf c = s.playerOf c → P s c → P t c

/-- What an operation on one channel gives that channel, both have once it has been done on A and then on B. -/
theorem both_channels {P Q : State → Chan → Prop} {op : State → Chan → State} (pre : OfChannel P) (post : OfChannel Q)
    (sound : ∀ s c, State.SoundFrame s (op s c)) (other : ∀ s {c k}, k ≠ c → (op s c).playerOf k = s.playerOf k)
    (each : ∀ s c, P s c → Q (op s c) c) (start : ∀ c, P s c) (c : Chan) : Q (op (op s .a) .b) c := by
  cases c with
  | a => exact post (sound _ .b) (other _ (by decide)) (each s .a (start .a))
  | b => exact each _ .b (pre (sound s .a) (other s (by decide)) (start .b))

/-- What a comparison needs: cue 0 to fall back on, and a legal pass where there is one. -/
def State.Comparable (s : State) (c : Chan) : Prop := s.ready fallbackCue = true ∧ s.PlaysAt c

/-- What a comparison leaves: a channel that serves what is wanted. -/
def State.ServesAt (s : State) (c : Chan) : Prop := s.PlaysAt c ∧ s.TakenAt c

theorem State.SoundFrame.ready (h : State.SoundFrame s t) (q : CueId) : t.ready q = s.ready q := by
  rw [State.ready, State.ready, h.cues_eq]

theorem ofChannel_comparable : OfChannel State.Comparable := fun sound player h =>
  ⟨(sound.ready _).trans h.1, sound.playsAt player h.2⟩

theorem ofChannel_servesAt : OfChannel State.ServesAt := fun sound player h =>
  ⟨sound.playsAt player h.1, sound.takenAt player h.2⟩

theorem State.servesAt_compareSince (before : State) (start : ∀ c, s.Comparable c) (c : Chan) :
    (s.compareSince before).ServesAt c :=
  both_channels (op := fun s c => s.compareChannelSince before c) ofChannel_comparable ofChannel_servesAt
    (fun s c => .compareChannelSince s before c) (fun s _ _ ne => s.playerOf_compareChannelSince_ne before ne)
    (fun s c h => ⟨h.2.compareChannelSince h.1 before, .compareChannelSince s before c⟩) start c

theorem State.servesAt_compareChannels (start : ∀ c, s.Comparable c) (c : Chan) : s.compareChannels.ServesAt c :=
  both_channels (op := State.compareChannel) ofChannel_comparable ofChannel_servesAt .compareChannel
    (fun s _ _ ne => s.playerOf_compareChannel_ne ne) (fun s c h => ⟨h.2.compareChannel h.1, .compareChannel s c⟩) start c

end Sys2Proof.Machine

namespace Sys2Proof.Machine

/-! ## What the claims on the alarm picture keep for the channels (R104, R150, R152) -/

variable {s t u : State} {c : Chan} {pl : Player} {p : PointId} {a : AlarmState} {ovf : State → State}

/-- The record of an ACKED point is acknowledged (R36). -/
def State.AckedStand (s : State) : Prop := ∀ r ∈ s.roster, s.alarmOf r.point = .acked → r.state = .acked

theorem State.SoundFrame.ackedStand (h : State.SoundFrame s t) (acked : s.AckedStand) : t.AckedStand := by
  simp only [State.AckedStand, State.alarmOf, h.roster_eq, h.alarm_eq]
  exact acked

/-- A state whose channels play legal passes, with cue 0 to fall back on: from here a comparison of both channels makes them
serve what is wanted. -/
structure State.Plays (s : State) : Prop where
  fallback : s.ready fallbackCue = true
  acked : s.AckedStand
  passes : ∀ c, s.PlaysAt c

/-- Moreover both channels have compared. -/
structure State.Serving (s : State) : Prop extends s.Plays where
  taken : ∀ c, s.TakenAt c

theorem State.Serving.channelsServe (h : s.Serving) : s.ChannelsServe :=
  State.channelsServe_iff.mpr fun c => ⟨h.passes c, h.taken c⟩

/-- Cue 0 is built in (R127, R132). -/
theorem State.CuesLegal.fallback (h : s.CuesLegal) : s.ready fallbackCue = true := by
  rw [State.ready, h.builtIn fallbackCue (by decide)]
  rfl

theorem State.ChannelsServe.serving (h : s.ChannelsServe) (cues : s.CuesLegal) (picture : s.PictureLegal) : s.Serving where
  fallback := cues.fallback
  acked r hr alarm := by
    rw [picture.mirror r hr] at alarm
    cases state : r.state <;> simp_all [RecordState.toAlarm]
  passes c := (State.channelsServe_iff.mp h c).1
  taken c := (State.channelsServe_iff.mp h c).2

/-- Neither the cues nor the channels have changed, and ACKED points have acknowledged records as before. -/
structure State.SamePlay (s t : State) : Prop where
  cues : t.cues = s.cues
  channels : t.channels = s.channels
  acked : s.AckedStand → t.AckedStand

/-- Moreover every channel wants what it wanted. -/
structure State.SameSound (s t : State) : Prop extends State.SamePlay s t where
  wanted : ∀ c, t.wanted c = s.wanted c

theorem State.SamePlay.trans (h : State.SamePlay s t) (k : State.SamePlay t u) : State.SamePlay s u :=
  ⟨k.cues.trans h.cues, k.channels.trans h.channels, fun acked => k.acked (h.acked acked)⟩

theorem State.SamePlay.plays (h : State.SamePlay s t) (plays : s.Plays) : t.Plays where
  fallback := by rw [State.ready, h.cues]; exact plays.fallback
  acked := h.acked plays.acked
  passes c := (plays.passes c).congr h.cues (by rw [h.channels])

theorem State.SameSound.refl (s : State) : State.SameSound s s := ⟨⟨rfl, rfl, id⟩, fun _ => rfl⟩

theorem State.SameSound.trans (h : State.SameSound s t) (k : State.SameSound t u) : State.SameSound s u :=
  ⟨h.toSamePlay.trans k.toSamePlay, fun c => (k.wanted c).trans (h.wanted c)⟩

theorem State.SameSound.serving (h : State.SameSound s t) (serving : s.Serving) : t.Serving :=
  ⟨h.plays serving.toPlays, fun c => (serving.taken c).congr (h.wanted c) (by rw [h.channels])⟩

/-! ### What the channels do themselves -/

/-- What one channel does to itself leaves the other serving. -/
theorem State.Plays.turn (h : s.Plays) (sound : State.SoundFrame s t) (other : ∀ k, k ≠ c → t.playerOf k = s.playerOf k)
    (plays : t.PlaysAt c) : t.Plays where
  fallback := (sound.ready _).trans h.fallback
  acked := sound.ackedStand h.acked
  passes k := by
    rcases eq_or_ne k c with rfl | ne
    · exact plays
    · exact sound.playsAt (other k ne) (h.passes k)

theorem State.Serving.turn (h : s.Serving) (sound : State.SoundFrame s t) (other : ∀ k, k ≠ c → t.playerOf k = s.playerOf k)
    (plays : t.PlaysAt c) (taken : t.TakenAt c) : t.Serving where
  toPlays := h.toPlays.turn sound other plays
  taken k := by
    rcases eq_or_ne k c with rfl | ne
    · exact taken
    · exact sound.takenAt (other k ne) (h.taken k)

/-- Both channels serve after a sound frame that leaves each of them serving. -/
theorem State.SoundFrame.serving (sound : State.SoundFrame s t) (fallback : s.ready fallbackCue = true)
    (acked : s.AckedStand) (serves : ∀ c, t.ServesAt c) : t.Serving where
  fallback := (sound.ready _).trans fallback
  acked := sound.ackedStand acked
  passes c := (serves c).1
  taken c := (serves c).2

/-- A comparison of both channels makes them serve what is wanted, whatever has changed (R152). -/
theorem State.Plays.compareSince (h : s.Plays) (before : State) : (s.compareSince before).Serving :=
  (State.SoundFrame.compareSince s before).serving h.fallback h.acked
    (State.servesAt_compareSince before fun c => ⟨h.fallback, h.passes c⟩)

theorem State.Plays.compareChannels (h : s.Plays) : s.compareChannels.Serving :=
  (State.SoundFrame.compareChannels s).serving h.fallback h.acked
    (State.servesAt_compareChannels fun c => ⟨h.fallback, h.passes c⟩)

/-- A PLAYING channel's player may be replaced by one in a legal pass. -/
theorem State.Plays.setPlayer (h : s.Plays) (playing : s.playerOf c = some pl) {np : Player} (legal : s.LegalPass np) :
    (s.setPlayer c (some np)).Plays :=
  h.turn (.setPlayer s c _) (fun k ne => (s.playerOf_setPlayer c k _).trans (if_neg ne))
    (.setPlayer ((h.passes c).enabled playing) legal)

/-- A pass that takes `renewed` is the same pass (R157). -/
theorem Player.SamePass.renew (pl : Player) : Player.SamePass pl { pl with renewed := true } := ⟨rfl, rfl, rfl, rfl, rfl⟩

theorem State.Plays.renewOn (h : s.Plays) (p : PointId) (c : Chan) : (s.renewOn p c).Plays := by
  unfold State.renewOn
  split
  · rename_i pl _ playing _
    split
    · exact h.setPlayer playing (((h.passes c).passes pl playing).same (.renew pl))
    · exact h
  · exact h

theorem State.Plays.renewRecord (h : s.Plays) (p : PointId) : (s.renewRecord p).Plays := (h.renewOn p .a).renewOn p .b

theorem State.Plays.renewTestOn (h : s.Plays) (c : Chan) : (s.renewTestOn c).Plays := by
  unfold State.renewTestOn
  split
  · rename_i pl playing
    split
    · exact h.setPlayer playing (((h.passes c).passes pl playing).same (.renew pl))
    · exact h
  · exact h

/-! ### Changes that no channel hears -/

theorem State.SameSound.setAlarm (s : State) (p : PointId) (new : a ≠ .acked) : State.SameSound s (s.setAlarm p a) :=
  ⟨⟨rfl, rfl, fun acked r hr alarm => by
    rw [State.alarmOf_setAlarm] at alarm
    split at alarm
    · exact absurd alarm new
    · exact acked r hr alarm⟩, fun _ => rfl⟩

theorem State.SameSound.setFilter (s : State) (p : PointId) (f : Filter) : State.SameSound s (s.setFilter p f) :=
  ⟨⟨rfl, rfl, id⟩, fun _ => rfl⟩

theorem State.SameSound.setGroup (s : State) (g : GroupId) (r : GroupRecord) : State.SameSound s (s.setGroup g r) :=
  ⟨⟨rfl, rfl, id⟩, fun _ => rfl⟩

theorem State.SameSound.setService (s : State) (p : PointId) (v : Service) : State.SameSound s (s.setService p v) :=
  ⟨⟨rfl, rfl, id⟩, fun _ => rfl⟩

theorem State.SameSound.raise (s : State) (e : Event) : State.SameSound s (s.raise e) := ⟨⟨rfl, rfl, id⟩, fun _ => rfl⟩

theorem State.SameSound.armQuiet (s : State) : State.SameSound s s.armQuiet := ⟨⟨rfl, rfl, id⟩, fun _ => rfl⟩

theorem State.SameSound.setDeferred (s : State) (l : List PointId) : State.SameSound s { s with deferred := l } :=
  ⟨⟨rfl, rfl, id⟩, fun _ => rfl⟩

theorem State.SameSound.setShelves (s : State) (l : List ShelveEntry) : State.SameSound s { s with shelves := l } :=
  ⟨⟨rfl, rfl, id⟩, fun _ => rfl⟩

theorem State.SameSound.setLines (s : State) (l : Table LineRecord 32) (k : Table ThresholdSet 4) :
    State.SameSound s { s with lines := l, thresholds := k } := ⟨⟨rfl, rfl, id⟩, fun _ => rfl⟩

/-- The model's own fields and the link are nothing to the channels. -/
theorem State.SameSound.setOwn (s : State) (l : Link) (an : Option Answer) (n : Nat) (q : List Instr) :
    State.SameSound s { s with link := l, answer := an, freeCount := n, pending := q } :=
  ⟨⟨rfl, rfl, id⟩, fun _ => rfl⟩

/-- Records rewritten in place keep their points and states. -/
theorem State.SamePlay.rewrite (s : State) (f : RosterRecord → RosterRecord) (point : ∀ r, (f r).point = r.point)
    (state : ∀ r, (f r).state = r.state) : State.SamePlay s (s.setRoster (s.roster.map f)) where
  cues := rfl
  channels := rfl
  acked acked r hr alarm := by
    obtain ⟨x, hx, rfl⟩ := List.mem_map.mp hr
    rw [state]
    exact acked x hx (point x ▸ alarm)

/-- Records rewritten in place that demand what they demanded leave every channel wanting what it wanted. -/
theorem State.wanted_rewrite {f : RosterRecord → RosterRecord}
    (same : ∀ r ∈ s.roster, s.demandOn c (f r) = s.demandOn c r) :
    (s.setRoster (s.roster.map f)).wanted c = s.wanted c := by
  have demands : (s.setRoster (s.roster.map f)).demandsOn c = s.demandsOn c := by
    show (s.roster.map f).filterMap (s.demandOn c) ++ _ = s.roster.filterMap (s.demandOn c) ++ _
    rw [List.filterMap_map, List.filterMap_congr (f := s.demandOn c ∘ f) same]
    rfl
  rw [State.wanted_eq, State.wanted_eq, demands]
  rfl

/-- A rewriting that keeps all that a demand is read from. -/
theorem State.SameSound.rewrite (s : State) (f : RosterRecord → RosterRecord) (point : ∀ r, (f r).point = r.point)
    (stamp : ∀ r, (f r).stamp = r.stamp) (state : ∀ r, (f r).state = r.state) (silenced : ∀ r, (f r).silenced = r.silenced)
    (sounded : ∀ r, (f r).sounded = r.sounded) : State.SameSound s (s.setRoster (s.roster.map f)) :=
  ⟨.rewrite s f point state, fun c => State.wanted_rewrite fun r _ => by
    simp only [State.demandOn, State.demandOf, State.cueOf, point, stamp, state, silenced, sounded]⟩

/-- The first-out mark of a record is nothing to the channels. -/
theorem State.SameSound.mark (s : State) (p : PointId) (v : Bool) :
    State.SameSound s (s.modifyRecord p fun r => { r with firstOut := v }) := by
  refine .rewrite s _ ?_ ?_ ?_ ?_ ?_ <;> intro r <;> split <;> rfl

theorem State.SameSound.emptySlot (s : State) (g : GroupId) : State.SameSound s (s.emptySlot g) := by
  unfold State.emptySlot
  split
  · exact (State.SameSound.setGroup s g _).trans (.mark _ _ _)
  · exact .refl s

theorem State.SameSound.releaseSlot (s : State) (p : PointId) (v : Bool) : State.SameSound s (s.releaseSlot p v) := by
  unfold State.releaseSlot
  split
  · split
    · exact .emptySlot s _
    · exact .refl s
  · exact .refl s

theorem State.SameSound.decideFirstOut (s : State) (p : PointId) : State.SameSound s (s.decideFirstOut p) := by
  unfold State.decideFirstOut
  split
  · exact (State.SameSound.setGroup s _ _).trans (.mark _ _ _)
  · exact .refl s

/-! ### Admission and deferral (R67 to R75) -/

theorem State.SamePlay.enterRoster (s : State) (p : PointId) : State.SamePlay s (s.enterRoster p) where
  cues := rfl
  channels := rfl
  acked acked r hr alarm := by
    rw [State.enterRoster_alarmOf, Function.update_apply] at alarm
    split at alarm
    · exact nomatch alarm
    · rename_i other
      have standing : r ∈ s.roster := by
        rcases List.mem_cons.mp ((placed_perm _ _ _).mem_iff.mp hr) with rfl | standing
        · exact absurd rfl other
        · exact standing
      exact acked r standing alarm

/-- An admission ends with a comparison of both channels (R68). -/
theorem State.Plays.admitPoint (h : s.Plays) (p : PointId) : (s.admitPoint p).Serving :=
  (((State.SamePlay.enterRoster s p).trans (State.SameSound.decideFirstOut _ p).toSamePlay).trans
    (State.SameSound.raise _ .newAlert).toSamePlay |>.plays h).compareSince s

/-- A claim that hands point 63 its condition keeps the channels serving (R75). -/
def KeepsServing (ovf : State → State) : Prop := ∀ u : State, u.Serving → (ovf u).Serving

theorem keepsServing_id : KeepsServing id := fun _ h => h

theorem State.Serving.handIfEmptied (h : s.Serving) (hovf : KeepsServing ovf) (before : List PointId) :
    (handIfEmptied ovf before s).Serving := by
  unfold Machine.handIfEmptied
  split
  · exact hovf s h
  · exact h

theorem State.Serving.defer (h : s.Serving) (hovf : KeepsServing ovf) (p : PointId) : (s.defer ovf p).Serving := by
  have entered : (({ s.setAlarm p .deferred with deferred := s.insertDeferred p } : State).raise .deferred).Serving :=
    (((State.SameSound.setAlarm s p (by decide)).trans (.setDeferred _ _)).trans (.raise _ _)).serving h
  unfold State.defer
  dsimp only
  split
  · exact hovf _ entered
  · exact entered

theorem State.Serving.requestAdmission (h : s.Serving) (hovf : KeepsServing ovf) (p : PointId) :
    (s.requestAdmission ovf p).Serving := by
  rcases s.requestAdmission_cases ovf p with ⟨-, eq⟩ | ⟨-, -, eq⟩ <;> rw [eq]
  · exact h.toPlays.admitPoint p
  · exact h.defer hovf p

theorem State.Serving.leaveDeferred (h : s.Serving) (hovf : KeepsServing ovf) (p : PointId) (new : a ≠ .acked) :
    (s.leaveDeferred ovf p a).Serving :=
  (((State.SameSound.setAlarm s p new).trans (.setDeferred _ _)).trans (.armQuiet _) |>.serving h).handIfEmptied hovf _

theorem State.Serving.admitHead (h : s.Serving) (hovf : KeepsServing ovf) : (s.admitHead ovf).Serving := by
  unfold State.admitHead
  split
  · exact h
  · rename_i q rest _
    exact (((State.SameSound.setDeferred s rest).serving h).toPlays.admitPoint q).handIfEmptied hovf _

/-! ### Retirement (R72) -/

theorem State.SamePlay.leaveRoster (s : State) (p : PointId) (new : a ≠ .acked) : State.SamePlay s (s.leaveRoster p a) where
  cues := rfl
  channels := rfl
  acked acked r hr := (State.SameSound.setAlarm s p new).acked acked r (List.mem_filter.mp hr).1

theorem State.Plays.retired (h : s.Plays) (p : PointId) (new : a ≠ .acked) (v : Bool) : (s.retired p a v).Plays :=
  (((State.SamePlay.leaveRoster s p new).trans (State.SameSound.releaseSlot _ p v).toSamePlay).trans
    (State.SameSound.armQuiet _).toSamePlay).plays h

/-- A retirement ends with a comparison, or with the admission of the head of the deferred list. -/
theorem State.Serving.retire (h : s.Serving) (hovf : KeepsServing ovf) (p : PointId) (new : a ≠ .acked) :
    (s.retire ovf p a).Serving := by
  rcases s.retire_cases ovf p a with eq | ⟨v, eq | ⟨-, eq⟩⟩ <;> rw [eq]
  · exact (State.SameSound.setAlarm s p new).serving h
  · exact (h.toPlays.retired p new v).compareSince s
  · exact ((h.toPlays.retired p new v).compareSince s).admitHead hovf

/-! ### Records that keep standing (R40, R43, R44, R48) -/

theorem State.SamePlay.moveRecord (s : State) (p : PointId) (st : RecordState)
    (f : RosterRecord → RosterRecord) (point : ∀ r, (f r).point = r.point) : State.SamePlay s (s.moveRecord p st f) where
  cues := rfl
  channels := rfl
  acked acked r hr alarm := by
    obtain ⟨x, hx, rfl⟩ := List.mem_map.mp hr
    have alarm : (s.setAlarm p st.toAlarm).alarmOf
        (if x.point = p then { f x with state := st } else x).point = .acked := alarm
    rw [State.alarmOf_setAlarm] at alarm
    by_cases own : x.point = p
    · simp only [own, if_true, point] at alarm ⊢
      cases st <;> first | rfl | exact nomatch alarm
    · simp only [own, if_false, if_neg (Ne.symm own)] at alarm ⊢
      exact acked x hx alarm

theorem State.Serving.recurrence (h : s.Serving) (p : PointId) : (s.recurrence p).Serving :=
  (((State.SamePlay.moveRecord s p .alert RosterRecord.recur fun _ => rfl).plays h.toPlays).renewRecord p).compareSince s

theorem State.Serving.returnRecord (h : s.Serving) (p : PointId) : (s.returnRecord p).Serving :=
  ((State.SameSound.raise _ .returned).plays
    (((State.SamePlay.moveRecord s p .returned RosterRecord.comeBack fun _ => rfl).plays h.toPlays).renewRecord p)).compareSince s

/-- A silenced record, or one in ACKED or AWAIT_RESET, demands nothing (R104, R150). -/
theorem State.demandOf_eq_none {r : RosterRecord} (quiet : r.silenced = true ∨ r.state = .acked ∨ r.state = .awaitReset) :
    s.demandOf r = none := by
  unfold State.demandOf
  rcases quiet with silenced | state | state
  · exact if_pos silenced
  · simp only [State.cueOf, state, ite_self]
  · simp only [State.cueOf, state, ite_self]

/-- A record puts no demand on a channel that its point does not name, nor one that it does not make (R150). -/
theorem State.demandOn_none {r : RosterRecord} (silent : (s.cfg r.point).channel = c → s.demandOf r = none) :
    s.demandOn c r = none := by
  unfold State.demandOn
  split
  · rw [silent ‹_›, Option.map_none]
  · rfl

/-- An acknowledged record that comes to await its reset demanded nothing and does not (R44, R150). -/
theorem State.Serving.awaitReset (h : s.Serving) (acked : s.alarmOf p = .acked) :
    (s.moveRecord p .awaitReset id).Serving := by
  refine State.SameSound.serving ⟨.moveRecord s p .awaitReset id fun _ => rfl, fun c => ?_⟩ h
  refine (State.wanted_rewrite (s := s.setAlarm p .awaitReset) fun r hr => ?_).trans rfl
  split
  · rename_i own
    have before : s.demandOf r = none := State.demandOf_eq_none (.inr (.inl (h.acked r hr (own ▸ acked))))
    have after : s.demandOf { r with state := .awaitReset } = none := State.demandOf_eq_none (.inr (.inr rfl))
    exact (State.demandOn_none fun _ => after).trans (State.demandOn_none fun _ => before).symm
  · rfl

/-! ### Edges and conditions (R27 to R46) -/

theorem State.Serving.riseWith (h : s.Serving) (hovf : KeepsServing ovf) (p : PointId) : (s.riseWith ovf p).Serving := by
  rcases s.riseWith_cases ovf p with ⟨-, eq⟩ | ⟨-, eq⟩ | eq <;> rw [eq]
  · exact h.requestAdmission hovf p
  · exact h.recurrence p
  · exact h

theorem State.Serving.fallWith (h : s.Serving) (hovf : KeepsServing ovf) (p : PointId) : (s.fallWith ovf p).Serving := by
  rcases s.fallWith_cases ovf p with ⟨-, -, eq⟩ | ⟨-, -, eq⟩ | ⟨-, acked, eq⟩ | ⟨-, -, eq⟩ | eq <;> rw [eq]
  · exact h.returnRecord p
  · exact h.retire hovf p (by decide)
  · exact h.awaitReset acked
  · exact h.leaveDeferred hovf p (by decide)
  · exact h

theorem State.Serving.takeRawWith (h : s.Serving) (hovf : KeepsServing ovf) (p : PointId) (v : Bool) :
    (s.takeRawWith ovf p v).Serving := by
  rcases s.takeRawWith_cases ovf p v with ⟨-, eq⟩ | ⟨-, f, -, -, -, ⟨-, eq⟩ | ⟨-, -, -, eq⟩ | ⟨-, -, -, eq⟩⟩ <;> rw [eq]
  · exact h
  · exact (State.SameSound.setFilter s p f).serving h
  · exact ((State.SameSound.setFilter s p f).serving h).riseWith hovf p
  · exact ((State.SameSound.setFilter s p f).serving h).fallWith hovf p

theorem keepsServing_handOverflow : KeepsServing State.handOverflow := fun _ h => h.takeRawWith keepsServing_id overflowPoint _

theorem State.Serving.takeRaw (h : s.Serving) (p : PointId) (v : Bool) : (s.takeRaw p v).Serving :=
  h.takeRawWith keepsServing_handOverflow p v

theorem State.Serving.expireOnDelay (h : s.Serving) (p : PointId) : (s.expireOnDelay p).Serving := by
  unfold State.expireOnDelay
  dsimp only
  split
  · exact ((State.SameSound.setFilter s p _).serving h).riseWith keepsServing_handOverflow p
  · exact h

theorem State.Serving.expireOffDelay (h : s.Serving) (p : PointId) : (s.expireOffDelay p).Serving := by
  unfold State.expireOffDelay
  dsimp only
  split
  · exact ((State.SameSound.setFilter s p _).serving h).fallWith keepsServing_handOverflow p
  · exact h

theorem State.Serving.takeLine (h : s.Serving) (p : PointId) (cl : Classification) : (s.takeLine p cl).Serving := by
  unfold State.takeLine
  split
  · exact h
  · split
    · exact (State.SameSound.setFilter s p _).serving h
    · exact ((State.SameSound.setFilter s p _).serving h).takeRaw p _

theorem State.Serving.takeSource (h : s.Serving) (p : PointId) : (s.takeSource p).Serving := by
  unfold State.takeSource
  split
  · exact h.takeLine p _
  · exact h.takeRaw p _
  · split
    · exact h.takeRaw _ _
    · split
      · exact keepsServing_handOverflow s h
      · exact h

/-- Points that take their sources at one moment (R33, R35). -/
theorem State.Serving.takeSources (h : s.Serving) (l : List PointId) : (s.takeAll l fun p u => u.takeSource p).Serving :=
  State.takeAll_induct (P := State.Serving) ((State.SameSound.setOwn s s.link s.answer _ s.pending).serving h)
    fun p _ _ hu => hu.takeSource p

theorem State.SameSound.rederiveFaulted (s : State) : State.SameSound s s.rederiveFaulted := by
  unfold State.rederiveFaulted
  dsimp only
  split <;> exact ⟨⟨rfl, rfl, id⟩, fun _ => rfl⟩

theorem State.Serving.linesChanged (h : s.Serving) (ns : List LineId) : (s.linesChanged ns).Serving :=
  ((State.SameSound.rederiveFaulted s).serving h).takeSources _

theorem State.Serving.sampleLine (h : s.Serving) (n : LineId) (level : Byte) : (s.sampleLine n level).Serving := by
  unfold State.sampleLine
  dsimp only
  split
  · exact ((State.SameSound.setLines s _ s.thresholds).serving h).linesChanged _
  · exact (State.SameSound.setLines s _ s.thresholds).serving h

theorem State.Serving.serviceChanged (h : s.Serving) (p : PointId) : (s.serviceChanged p).Serving := by
  unfold State.serviceChanged
  split
  · exact ((State.SameSound.rederiveFaulted s).serving h).takeRaw _ _
  · exact h
  · exact h

/-! ### Acknowledgements, resets and departures (R48 to R56) -/

theorem State.Serving.acknowledgeWith (h : s.Serving) (hovf : KeepsServing ovf) (src : AckSource) (p : PointId) :
    (s.acknowledgeWith ovf src p).Serving := by
  have keeps : ∀ st, ((s.moveRecord p st (RosterRecord.acknowledge src)).compareSince s).Serving := fun st =>
    ((State.SamePlay.moveRecord s p st (RosterRecord.acknowledge src) fun _ => rfl).plays h.toPlays).compareSince s
  rcases s.acknowledgeWith_cases ovf src p with ⟨-, -, eq⟩ | ⟨-, -, eq⟩ | ⟨-, -, eq⟩ | ⟨-, -, eq⟩ | eq <;> rw [eq]
  · exact keeps _
  · exact keeps _
  · exact h.retire hovf p (by decide)
  · exact h.retire hovf p (by decide)
  · exact h

/-- An action on several records keeps the channels serving when it does on each (R50, R51, R53). -/
theorem State.Serving.takeNamed (h : s.Serving) (sel : RosterRecord → Bool) {act : PointId → State → State}
    (keeps : ∀ p u, u.Serving → (act p u).Serving) : (s.takeNamed sel act).Serving := by
  refine State.Serving.handIfEmptied (List.foldlRecOn (motive := State.Serving) _ _ h ?_) keepsServing_handOverflow _
  rintro u hu n -
  split
  · exact keeps _ u hu
  · exact hu

theorem State.Serving.acknowledgeAll (h : s.Serving) (src : AckSource) (sel : RosterRecord → Bool) :
    (s.acknowledgeAll src sel).Serving := h.takeNamed _ fun p _ hu => hu.acknowledgeWith keepsServing_id src p

theorem State.Serving.resetEvery (h : s.Serving) : s.resetEvery.Serving :=
  h.takeNamed _ fun p _ hu => hu.retire keepsServing_id p (by decide)

theorem State.Serving.leavePicture (h : s.Serving) (p : PointId) (new : a ≠ .acked) : (s.leavePicture p a).Serving := by
  unfold State.leavePicture
  split
  case h_5 => exact h.leaveDeferred keepsServing_handOverflow p new
  case h_6 | h_7 | h_8 => exact (State.SameSound.setAlarm s p new).serving h
  all_goals exact h.retire keepsServing_handOverflow p new

theorem State.Serving.endShelve (h : s.Serving) (p : PointId) : (s.endShelve p).Serving := by
  have normal : (s.setAlarm p .normal).Serving := (State.SameSound.setAlarm s p (by decide)).serving h
  unfold State.endShelve
  dsimp only
  split
  · exact normal.riseWith keepsServing_handOverflow p
  · exact normal

theorem State.Serving.bringIn (h : s.Serving) (p : PointId) : (s.bringIn p).Serving :=
  ((((State.SameSound.setService s p .inService).trans (.setAlarm _ p (by decide))).trans (.setFilter _ p _)
    |>.serving h).takeSource p).serviceChanged p

theorem State.Serving.takeOut (h : s.Serving) (p : PointId) : (s.takeOut p).Serving :=
  ((((State.SameSound.setShelves s _).trans (.setService _ p .outService)).trans (.setFilter _ p _)
    |>.serving h).leavePicture p (by decide)).serviceChanged p

end Sys2Proof.Machine

namespace Sys2Proof.Machine

/-! ## The commands and the events (R57, R96 to R104, R107, R115 to R118, R140, R145, R155 to R162) -/

variable {s t u : State} {c : Chan} {pl : Player} {p : PointId} {q : CueId} {e : EditSession} {panel host : Option Nat}

/-! ### Points, groups and shelves -/

/-- A configuration record of a point that holds no record is nothing to the channels (R6, R150). -/
theorem State.SameSound.writeConfig (absent : ∀ r ∈ s.roster, r.point ≠ p) (cfg : PointConfig) :
    State.SameSound s (s.writeConfig p cfg) := by
  refine ⟨⟨rfl, rfl, id⟩, fun c => ?_⟩
  have same : ∀ r ∈ s.roster, (s.writeConfig p cfg).demandOn c r = s.demandOn c r := fun r hr => by
    have own : (s.writeConfig p cfg).cfg r.point = s.cfg r.point := by
      rw [State.writeConfig_cfg, Function.update_of_ne (absent r hr)]
    have demand : (s.writeConfig p cfg).demandOf r = s.demandOf r := by
      have cue : (s.writeConfig p cfg).cueOf r = s.cueOf r := by rw [State.cueOf, State.cueOf, own]
      rw [State.demandOf, State.demandOf, cue]
      rfl
    rw [State.demandOn, State.demandOn, own, demand]
  have demands : (s.writeConfig p cfg).demandsOn c = s.demandsOn c := congrArg (· ++ _) (List.filterMap_congr same)
  rw [State.wanted_eq, State.wanted_eq, demands]
  rfl

theorem State.Serving.ownWriteGroup (h : s.Serving) (g v : Byte) : (ownWriteGroup g v s).1.Serving := by
  unfold Machine.ownWriteGroup
  split
  · split
    · exact h
    · split
      · exact (State.SameSound.setGroup s _ _).serving h
      · exact ((State.SameSound.emptySlot s _).trans (.setGroup _ _ _)).serving h
  · exact h

theorem State.Serving.ownClearFirstOut (h : s.Serving) (g : Byte) : (ownClearFirstOut g s).1.Serving := by
  unfold Machine.ownClearFirstOut
  split
  · exact h
  · rename_i g _
    refine State.SameSound.serving ?_ h
    refine (State.SameSound.emptySlot s g).trans ?_
    show State.SameSound _ ((s.emptySlot g).armIfQuiet g)
    unfold State.armIfQuiet
    split
    · exact .setGroup _ g _
    · exact .refl _

theorem State.Serving.ownShelve (h : s.Serving) (b : Byte) (m : Half) : (ownShelve b m s).1.Serving := by
  unfold Machine.ownShelve
  split
  · exact h
  · rename_i p _
    have put : (s.putShelve p m).Serving := (State.SameSound.setShelves s _).serving h
    split_ifs <;> first | exact h | exact put | exact put.leavePicture p (by decide)

theorem State.Serving.unshelvePoint (h : s.Serving) (p : PointId) : (s.unshelvePoint p).Serving :=
  ((State.SameSound.setShelves s _).serving h).endShelve p

theorem State.Serving.expireShelve (h : s.Serving) (p : PointId) : (s.expireShelve p).Serving := by
  unfold State.expireShelve
  split
  · exact (State.SameSound.raise _ _).serving (h.unshelvePoint p)
  · exact h

theorem State.Serving.hostCondition (h : s.Serving) (b : Byte) (v : Bool) : (s.hostCondition b v).1.Serving := by
  unfold State.hostCondition
  split
  · exact h
  · split
    · exact h
    · split
      · exact h
      · exact ((State.SameSound.setFilter s _ _).serving h).takeRaw _ v

/-! ### Silence, reannunciation and age (R64, R103, R107) -/

/-- Some records rewritten in their flags and timers. -/
theorem State.Plays.rewriteSome (h : s.Plays) (sel : RosterRecord → Prop) [DecidablePred sel] (f : RosterRecord → RosterRecord)
    (keeps : ∀ r, (f r).point = r.point ∧ (f r).state = r.state) :
    (s.setRoster (s.roster.map fun r => if sel r then f r else r)).Plays := by
  refine (State.SamePlay.rewrite s _ (fun r => ?_) fun r => ?_).plays h <;> split
  · exact (keeps r).1
  · rfl
  · exact (keeps r).2
  · rfl

theorem State.Serving.silenceAll (h : s.Serving) : s.silenceAll.Serving :=
  (h.toPlays.rewriteSome (fun r => r.unacked = true)
    (fun r => { r with silenced := true, reannounce := silenceTimer s.classInterval[s.classOf r] })
    fun _ => ⟨rfl, rfl⟩).compareSince s

theorem State.Serving.expireReannounce (h : s.Serving) (p : PointId) (st : Stamp) : (s.expireReannounce p st).Serving := by
  unfold State.expireReannounce
  split
  · split
    · exact ((h.toPlays.rewriteSome (fun r => r.point = p ∧ r.stamp = st) RosterRecord.reannounced
        fun _ => ⟨rfl, rfl⟩).renewRecord p).compareSince s
    · exact h
  · exact h

/-- The age of a record is nothing to the channels. -/
theorem State.SameSound.age (s : State) (p : PointId) : State.SameSound s (s.modifyRecord p RosterRecord.older) := by
  refine .rewrite s _ ?_ ?_ ?_ ?_ ?_ <;> intro r <;> split <;> rfl

/-! ### The lamp test and the keys (R110 to R118) -/

/-- While the test as a whole neither starts nor ends, no test demand comes or goes (R117, R151). -/
theorem State.SameSound.withTests (same : s.testActive = (s.withTests panel host).testActive) :
    State.SameSound s (s.withTests panel host) := by
  refine ⟨⟨rfl, rfl, id⟩, fun c => ?_⟩
  have asks : (s.withTests panel host).testAsks c = s.testAsks c := congrArg (· && !s.testSounded.get c) same.symm
  have demands : (s.withTests panel host).demandsOn c = s.demandsOn c := by
    rw [State.demandsOn, asks]
    rfl
  rw [State.wanted_eq, State.wanted_eq, demands]
  rfl

/-- The tests and their sounded marks are nothing to a pass. -/
theorem State.SamePlay.setTests (s : State) (panel host : Option Nat) (ts : PerChan Bool) :
    State.SamePlay s { s with panelTest := panel, hostTest := host, testSounded := ts } := ⟨rfl, rfl, id⟩

theorem State.Serving.setTests (h : s.Serving) (panel host : Option Nat) : (s.setTests panel host).Serving := by
  have written := fun ts => (State.SamePlay.setTests s panel host ts).plays h.toPlays
  cases running : s.testActive <;> cases active : (s.withTests panel host).testActive
  case false.true =>
    rw [State.setTests_started running active]
    exact (((written s.testSounded).renewTestOn .a).renewTestOn .b).compareSince s
  case true.false =>
    rw [State.setTests_ended running active]
    exact (written ⟨false, false⟩).compareChannels
  all_goals
    rw [State.setTests_same (running.trans active.symm)]
    exact (State.SameSound.withTests (running.trans active.symm)).serving h

theorem State.SameSound.setKeys (s : State) (ks : PerKey KeyState) (ke : PerKey Bool) :
    State.SameSound s { s with keys := ks, keyEnables := ke } := ⟨⟨rfl, rfl, id⟩, fun _ => rfl⟩

theorem State.Serving.writeEnables (h : s.Serving) (e : PerKey Bool) : (s.writeEnables e).Serving := by
  have enables := (State.SameSound.setKeys s s.keys e).serving h
  unfold State.writeEnables
  dsimp only
  split
  · exact enables
  · exact enables.setTests _ _

theorem State.Serving.keyAction (h : s.Serving) (k : Key) : (s.keyAction k).Serving := by
  cases k with
  | kack => exact h.acknowledgeAll .panel _
  | ksil => exact h.silenceAll
  | krst => exact h.resetEvery
  | ktst => exact h.setTests _ _

theorem State.Serving.expireDebounce (h : s.Serving) (k : Key) : (s.expireDebounce k).Serving := by
  by_cases idle : (s.keys.get k).timer = none
  · rwa [State.expireDebounce_idle idle]
  · rw [State.expireDebounce_running idle]
    have settled : (s.settleKey k).Serving := (State.SameSound.setKeys s _ s.keyEnables).serving h
    split
    · unfold State.release
      split
      · exact settled.setTests _ _
      · exact settled
    · unfold State.press
      split
      · exact (State.SameSound.raise _ _).serving (settled.keyAction k)
      · exact settled

/-! ### The cue library (R140, R145) -/

theorem State.SameSound.setEdit (s : State) (e : Option EditSession) : State.SameSound s (s.setEdit e) :=
  ⟨⟨rfl, rfl, id⟩, fun _ => rfl⟩

theorem State.SameSound.endEdit (s : State) : State.SameSound s s.endEdit := (State.SameSound.setEdit s none).trans (.raise _ _)

theorem State.SameSound.expireEdit (s : State) : State.SameSound s s.expireEdit := by
  unfold State.expireEdit
  split
  · split
    · exact .endEdit s
    · exact .refl s
  · exact .refl s

/-- An erasure empties a loadable cue that no channel plays, and both channels compare (R145). -/
theorem State.Serving.ownEraseCue (h : s.Serving) (b : Byte) : (ownEraseCue b s).1.Serving := by
  unfold Machine.ownEraseCue
  split
  · exact h
  · rename_i q read
    split
    · exact h
    · rename_i unused
      rw [State.cueInUse_iff, not_or] at unused
      split
      · have other : ∀ k, k ≠ q → (s.cues.put q none)[k] = s.cues[k] := fun k ne => Table.getElem_put_ne _ _ ne.symm
        have erased : ({ s with cues := s.cues.put q none } : State).Plays := by
          refine ⟨?_, h.acked, fun c => ⟨(h.passes c).disabled, fun pl playing => ?_⟩⟩
          · have loadable := loadableOf_loadable read
            have ne : fallbackCue ≠ q := by rintro rfl; exact absurd loadable (by decide)
            show ((s.cues.put q none)[fallbackCue]).isSome = true
            rw [other _ ne]
            exact h.fallback
          · exact ((h.passes c).passes pl playing).congr (other _ fun same => unused.2 ⟨c, pl, playing, same⟩)
        exact erased.compareSince s
      · exact h

/-- A cue given contents stays READY, and so does every other (R140). -/
theorem State.ready_committed (e : EditSession) (ready : s.ready q = true) : (s.committed e).ready q = true := by
  show ((s.cues.put e.target (some e.build))[q]).isSome = true
  rw [Table.getElem_put]
  split
  · rfl
  · exact ready

/-- What a channel brings to the notice of a COMMIT of cue `q`: a pass that is legal, but that the cue's policy may no longer be
that of a pass demanded with it. -/
def State.Noticeable (q : CueId) (s : State) (c : Chan) : Prop :=
  s.ready fallbackCue = true ∧ ((s.channels.get c).enabled = false → s.playerOf c = none) ∧
    ∀ pl, s.playerOf c = some pl → if pl.demandedCue = q then s.LegalPass { pl with replacementPending := true }
      else s.LegalPass pl

theorem ofChannel_noticeable (q : CueId) : OfChannel (State.Noticeable q) := fun sound player ⟨fallback, disabled, passes⟩ => by
  refine ⟨(sound.ready _).trans fallback, fun off => ?_, fun pl playing => ?_⟩
  · rw [player]
    exact disabled ((sound.picture.enabled _).symm.trans off)
  · have legal := passes pl (player ▸ playing)
    split at legal
    · rw [if_pos ‹_›]
      exact legal.congr (by rw [sound.cues_eq])
    · rw [if_neg ‹_›]
      exact legal.congr (by rw [sound.cues_eq])

/-- Told of the COMMIT, a channel that was demanded the cue finishes its step, and any other compares (R140, R160). -/
theorem State.servesAt_noticeReplacement (before : State) (start : s.Noticeable q c) :
    (s.noticeReplacement before q c).ServesAt c := by
  obtain ⟨fallback, disabled, passes⟩ := start
  by_cases told : ∃ pl, s.playerOf c = some pl ∧ pl.demandedCue = q
  · obtain ⟨pl, playing, demanded⟩ := told
    have legal := passes pl playing
    rw [if_pos demanded] at legal
    have enabled : (s.channels.get c).enabled = true := by
      rw [← Bool.not_eq_false]
      exact fun off => nomatch playing.symm.trans (disabled off)
    rw [State.noticeReplacement_told before playing demanded]
    exact ⟨.setPlayer enabled legal, .of_pending ((s.playerOf_setPlayer c c _).trans (if_pos rfl)) rfl⟩
  · have other : ∀ pl, s.playerOf c = some pl → pl.demandedCue ≠ q := fun pl playing demanded => told ⟨pl, playing, demanded⟩
    have plays : s.PlaysAt c := ⟨disabled, fun pl playing => by
      have legal := passes pl playing
      rwa [if_neg (other pl playing)] at legal⟩
    rw [State.noticeReplacement_other before other]
    exact ⟨plays.compareChannelSince fallback before, .compareChannelSince s before c⟩

/-- A COMMIT of a loadable cue leaves both channels serving (R140). -/
theorem State.Serving.replaceCue (h : s.Serving) (loadable : 8 ≤ e.target.val) : (s.replaceCue e).Serving := by
  have start : ∀ c, (s.committed e).Noticeable e.target c := fun c => by
    refine ⟨State.ready_committed e h.fallback, (h.passes c).disabled, fun pl playing => ?_⟩
    have legal := (h.passes c).passes pl playing
    split
    · exact ⟨State.ready_committed e legal.ready, legal.played, legal.hold, nofun⟩
    · rename_i other
      refine legal.congr (Table.getElem_put_ne _ _ fun same => ?_)
      rcases legal.played with demanded | fallback
      · exact other (demanded.symm.trans same.symm)
      · rw [same, fallback] at loadable
        exact absurd loadable (by decide)
  have serves := both_channels (op := fun v c => v.noticeReplacement s e.target c) (ofChannel_noticeable e.target)
    ofChannel_servesAt (fun v c => .noticeReplacement v s e.target c)
    (fun v _ _ ne => v.playerOf_noticeReplacement_ne s e.target ne) (fun _ _ => State.servesAt_noticeReplacement s) start
  exact (State.SoundFrame.replaceCue s e).serving (State.ready_committed e h.fallback) h.acked serves

theorem State.Serving.endCheck (h : s.Serving) (cues : s.CuesLegal) : s.endCheck.Serving := by
  have answers : ∀ {u : State}, u.Serving → ∀ a, (u.answerCommit a).Serving := fun {u} hu a =>
    (State.SameSound.setOwn u (u.link.commitAnswered a) (some a) u.freeCount u.pending).serving hu
  unfold State.endCheck
  split
  · rename_i e editing
    split
    · split
      · exact answers (h.replaceCue (cues.target e editing)) _
      · exact answers ((State.SameSound.setEdit s _).serving h) _
    · exact h
  · exact h

/-! ### The channels' settings (R162) -/

theorem State.channels_setSettings (s : State) (c : Chan) (v : Bool) (w : SwitchPolicy) :
    (s.setSettings c v w).channels.get c = ⟨v, w, s.playerOf c⟩ := by cases c <;> rfl

theorem State.channels_setSettings_ne {k : Chan} (s : State) (v : Bool) (w : SwitchPolicy) (ne : k ≠ c) :
    (s.setSettings c v w).channels.get k = s.channels.get k := by
  cases c <;> cases k <;> first | rfl | exact absurd rfl ne

theorem State.playerOf_setSettings (s : State) (c : Chan) (v : Bool) (w : SwitchPolicy) :
    (s.setSettings c v w).playerOf c = s.playerOf c := by rw [State.playerOf, State.channels_setSettings]

theorem State.changeSettings_on (s : State) (c : Chan) (w : SwitchPolicy) :
    s.changeSettings c true w = (s.setSettings c true w).compareChannel c := rfl

theorem State.changeSettings_off (s : State) (c : Chan) (w : SwitchPolicy) :
    s.changeSettings c false w = (s.setSettings c false w).stopChannel c := rfl

theorem State.SoundFrame.stopChannel (s : State) (c : Chan) : State.SoundFrame s (s.stopChannel c) := by
  unfold State.stopChannel
  split
  · exact .goIdle s c
  · exact .refl s

/-- A channel that a disable has stopped is IDLE, and the other is as it was (R162). -/
theorem State.playerOf_stopChannel (s : State) (c k : Chan) :
    (s.stopChannel c).playerOf k = if k = c then none else s.playerOf k := by
  unfold State.stopChannel
  split
  · exact s.playerOf_setPlayer c k none
  · rename_i idle
    split
    · rename_i own
      rwa [own, ← Option.not_isSome_iff_eq_none]
    · rfl

/-- When settings have been written, the other channel serves as it did. -/
theorem State.Serving.ofSettings {v : Bool} {w : SwitchPolicy} (h : s.Serving)
    (sound : State.SoundFrame (s.setSettings c v w) t)
    (other : ∀ k, k ≠ c → t.playerOf k = (s.setSettings c v w).playerOf k) (serves : t.ServesAt c) : t.Serving := by
  have each : ∀ k, t.ServesAt k := fun k => by
    rcases eq_or_ne k c with rfl | ne
    · exact serves
    · have same := s.channels_setSettings_ne v w ne
      have wanted : (s.setSettings c v w).wanted k = s.wanted k := by
        rw [State.wanted_eq, State.wanted_eq, same]
        rfl
      exact ofChannel_servesAt sound (other k ne) ⟨(h.passes k).congr rfl same, (h.taken k).congr wanted same⟩
  exact sound.serving h.fallback h.acked each

/-- A channel disabled is stopped, and one left enabled compares. -/
theorem State.Serving.changeSettings (h : s.Serving) (c : Chan) (v : Bool) (w : SwitchPolicy) :
    (s.changeSettings c v w).Serving := by
  have own := s.channels_setSettings c v w
  cases v with
  | true =>
    rw [State.changeSettings_on]
    have plays : (s.setSettings c true w).PlaysAt c := by
      refine ⟨fun off => ?_, fun pl playing => ?_⟩
      · rw [own] at off
        exact nomatch off
      · exact ((h.passes c).passes pl ((s.playerOf_setSettings c true w).symm.trans playing)).congr rfl
    exact h.ofSettings (.compareChannel _ c) (fun k ne => State.playerOf_compareChannel_ne _ ne)
      ⟨plays.compareChannel h.fallback, .compareChannel _ c⟩
  | false =>
    rw [State.changeSettings_off]
    have sound := State.SoundFrame.stopChannel (s.setSettings c false w) c
    have idle : ((s.setSettings c false w).stopChannel c).playerOf c = none :=
      (State.playerOf_stopChannel _ c c).trans (if_pos rfl)
    refine h.ofSettings sound (fun k ne => (State.playerOf_stopChannel _ c k).trans (if_neg ne))
      ⟨⟨fun _ => idle, fun pl playing => nomatch idle.symm.trans playing⟩,
        ⟨fun _ => ?_, fun pl playing => nomatch idle.symm.trans playing⟩⟩
    rw [sound.wanted, State.wanted_eq, own]
    rfl

/-! ### The step end (R155, R156, R160) -/

theorem State.Serving.switchTo (h : s.Serving) (c : Chan) : (s.switchTo c (s.wanted c)).Serving :=
  h.turn (.switchTo s c _) (fun _ ne => s.playerOf_switchTo_ne _ ne) (.switchTo h.fallback c) (.switchTo s c)

/-- A pass that goes on from step to step is the same pass (R154). -/
theorem Player.SamePass.startStep (s : State) (pl : Player) (counters : List Nat) (source : Option Nat) (i : Nat) :
    Player.SamePass pl (s.startStep { pl with counters := counters } source i) := ⟨rfl, rfl, rfl, rfl, rfl⟩

/-- A pass that goes on because it is held, or still wanted, goes on from step to step (R155). -/
theorem State.Serving.goOn (h : s.Serving) (playing : s.playerOf c = some pl)
    (goes : pl.firmHold = true ∨ s.wanted c = some pl.current) {np : Player} (same : Player.SamePass pl np) :
    (s.setPlayer c (some np)).Serving := by
  have sound := State.SoundFrame.setPlayer s c (some np)
  have player : (s.setPlayer c (some np)).playerOf c = some np := (s.playerOf_setPlayer c c _).trans (if_pos rfl)
  refine h.turn sound (fun k ne => (s.playerOf_setPlayer c k _).trans (if_neg ne))
    (.setPlayer ((h.passes c).enabled playing) (((h.passes c).passes pl playing).same same))
    ⟨fun idle => (nomatch player.symm.trans idle), fun np' playing' _ free _ => ?_⟩
  obtain rfl := Option.some.inj (player.symm.trans playing')
  rw [sound.wanted, same.current]
  exact goes.resolve_left fun held => absurd (same.firmHold.symm.trans free) (by simp [held])

/-- After a COMMIT of its cue a pass begins anew, held in the new contents too or wanted, or the channel switches (R160). -/
theorem State.Serving.continueReplaced (h : s.Serving) (playing : s.playerOf c = some pl) :
    (s.continueReplaced c pl).Serving := by
  by_cases held : pl.firmHold = true ∧ (s.contents (s.resolve pl.demandedCue)).policy = .firm
  · rw [State.continueReplaced_keeps (.inl held)]
    have player : (s.beginPass c pl.current).playerOf c = some (s.passStart pl.owner pl.demandedCue) :=
      (s.playerOf_beginPass c c _).trans (if_pos rfl)
    refine h.turn (.beginPass s c _) (fun k ne => (s.playerOf_beginPass c k _).trans (if_neg ne))
      (.beginPass h.fallback ((h.passes c).enabled playing) _)
      ⟨fun idle => (nomatch player.symm.trans idle), fun np playing' _ free _ => ?_⟩
    obtain rfl := Option.some.inj (player.symm.trans playing')
    have firm : (s.passStart pl.owner pl.demandedCue).firmHold = true := beq_iff_eq.mpr held.2
    exact absurd (firm.symm.trans free) (by decide)
  · rw [State.continueReplaced_switches held]
    exact h.switchTo c

/-- The mark of a pass that has sounded leaves the passes as they are (R156). -/
theorem State.Plays.markSounded (h : s.Plays) (c : Chan) (o : Owner) : (s.markSounded c o).Plays := by
  cases o with
  | record p st => exact h.rewriteSome (fun r => r.point = p ∧ r.stamp = st) _ fun _ => ⟨rfl, rfl⟩
  | test => exact (State.SamePlay.setTests s s.panelTest s.hostTest _).plays h

theorem State.Plays.soundedOn (h : s.Plays) (c : Chan) (o : Owner) : (s.soundedOn c o).Plays :=
  (h.markSounded c o).turn (.switchTo _ c _) (fun _ ne => State.playerOf_switchTo_ne _ _ ne)
    (.switchTo (h.markSounded c o).fallback c)

theorem State.Serving.passEnd (h : s.Serving) (c : Chan) (pl : Player) : (s.passEnd c pl).Serving := by
  by_cases again : (s.contents pl.playedCue).policy = .repeating ∨ pl.renewed = true
  · rw [State.passEnd_again again]
    exact h.switchTo c
  · rw [not_or, Bool.not_eq_true] at again
    rw [State.passEnd_sounded again.1 again.2]
    exact (h.toPlays.soundedOn c pl.owner).compareSince s

theorem State.Serving.endStep (h : s.Serving) (c : Chan) : (s.endStep c).Serving := by
  cases playing : s.playerOf c with
  | none => rwa [State.endStep_idle playing]
  | some pl =>
    cases settled : pl.replacementPending with
    | true =>
      rw [State.endStep_replaced playing settled]
      exact h.continueReplaced playing
    | false =>
      by_cases goes : pl.firmHold = true ∨ s.wanted c = some pl.current
      · rw [State.endStep_goesOn playing settled goes]
        unfold State.advanceStep
        dsimp only
        split
        · exact h.goOn playing goes (.startStep s pl _ _ _)
        · split
          · exact h.goOn playing goes (.startStep s pl pl.counters _ _)
          · exact h.passEnd c pl
      · rw [not_or, Bool.not_eq_true] at goes
        rw [State.endStep_switches playing settled goes.1 goes.2]
        exact h.switchTo c

/-! ### The resets (R4, R57) -/

/-- With no record and no test nothing is wanted, and IDLE channels serve that (R57). -/
theorem State.Serving.restartBlocks (h : s.Serving) : s.restartBlocks.Serving := by
  have idle : ∀ c, s.restartBlocks.playerOf c = none := fun c => by cases c <;> rfl
  have nothing : ∀ c, s.restartBlocks.wanted c = none := fun c =>
    (State.wanted_eq_none_iff rfl).mpr (.inr fun _ hr => absurd hr List.not_mem_nil)
  exact ⟨⟨h.fallback, fun _ hr => absurd hr List.not_mem_nil,
    fun c => ⟨fun _ => idle c, fun _ playing => nomatch (idle c).symm.trans playing⟩⟩,
    fun c => ⟨fun _ => nothing c, fun _ playing => nomatch (idle c).symm.trans playing⟩⟩

theorem State.Serving.restartAll (h : s.Serving) : s.restartAll.Serving := h.restartBlocks.takeSources _

theorem State.Serving.powerOn (s : State) : s.powerOn.Serving := by
  obtain ⟨-, cues, -, -, picture, -, serves⟩ := resetMeetsInvariants
  exact State.SameSound.serving (s := State.reset) ⟨⟨rfl, rfl, id⟩, fun _ => rfl⟩ (serves.serving cues picture)

/-! ### One period of every timer -/

/-- The time left of a step is nothing to what its channel serves (R154). -/
theorem State.Serving.countAll (h : s.Serving) : s.countAll.Serving := by
  have channel : ∀ c, s.countAll.channels.get c = (s.channels.get c).count := fun c => by cases c <;> rfl
  have player : ∀ {c np}, s.countAll.playerOf c = some np → ∃ pl, s.playerOf c = some pl ∧ Player.SamePass pl np := by
    intro c np playing
    have counted := (congrArg ToneChannel.player (channel c)).symm.trans playing
    obtain ⟨pl, was, rfl⟩ := Option.map_eq_some_iff.mp counted
    exact ⟨pl, was, rfl, rfl, rfl, rfl, rfl⟩
  have idle : ∀ c, s.countAll.playerOf c = none ↔ s.playerOf c = none := fun c => by
    rw [State.playerOf, channel]
    exact Option.map_eq_none_iff
  have wanted : ∀ c, s.countAll.wanted c = s.wanted c := fun c => by
    have records : (s.setRoster (s.roster.map RosterRecord.count)).demandsOn c = s.demandsOn c := by
      show (s.roster.map RosterRecord.count).filterMap (s.demandOn c) ++ _ = _
      rw [List.filterMap_map]
      rfl
    have test : s.countAll.testAsks c = s.testAsks c := by
      simp only [State.testAsks, State.testActive, State.countAll, countDown, Option.isSome_map]
    have demands : s.countAll.demandsOn c = s.demandsOn c := by
      rw [← records, State.demandsOn, test]
      rfl
    rw [State.wanted_eq, State.wanted_eq, demands, channel]
    rfl
  refine ⟨⟨h.fallback, fun r hr alarm => ?_, fun c => ⟨fun off => ?_, fun np playing => ?_⟩⟩,
    fun c => ⟨fun none => ?_, fun np playing policy free settled => ?_⟩⟩
  · obtain ⟨x, hx, rfl⟩ := List.mem_map.mp hr
    exact h.acked x hx alarm
  · rw [channel] at off
    exact (idle c).mpr ((h.passes c).disabled off)
  · obtain ⟨pl, playing, same⟩ := player playing
    exact (((h.passes c).passes pl playing).same same).congr rfl
  · rw [wanted]
    exact (h.taken c).idle ((idle c).mp none)
  · obtain ⟨pl, playing, same⟩ := player playing
    rw [channel] at policy
    rw [wanted, same.current]
    exact (h.taken c).immediate pl playing policy (same.firmHold ▸ free) (same.replacementPending ▸ settled)

end Sys2Proof.Machine

namespace Sys2Proof.Machine

/-! ## Every step keeps the channels serving (R148, R152, R153, R158) -/

variable {s t : State}

/-! ### The owners -/

/-- The flags and their mask are nothing to the channels. -/
theorem State.SameSound.setEvents (s : State) (ev m : BitVec 12) : State.SameSound s { s with events := ev, mask := m } :=
  ⟨⟨rfl, rfl, id⟩, fun _ => rfl⟩

/-- Neither a frequency nor an interval is a demand (R14, R129). -/
theorem State.SameSound.setTables (s : State) (f : Table Half 24) (i : Table Byte 4) :
    State.SameSound s { s with tones := f, classInterval := i } := ⟨⟨rfl, rfl, id⟩, fun _ => rfl⟩

/-- The owners of the panel, the cue library, the channels and the event flags keep the channels serving. -/
theorem State.Serving.ownerTakes_apart (h : s.Serving) (c : Instr) (apart : isApart c = true) :
    (ownerTakes c s).1.Serving := by
  have edits : ∀ e, (s.setEdit e).Serving := fun e => (State.SameSound.setEdit s e).serving h
  have flags : ∀ ev m, ({ s with events := ev, mask := m } : State).Serving := fun ev m =>
    (State.SameSound.setEvents s ev m).serving h
  cases c
  case writePanel a b c d =>
    show (ownWritePanel a b c d s).1.Serving
    unfold ownWritePanel
    split
    · exact h.writeEnables _
    · exact h
  case lampTest n =>
    show (ownLampTest n s).1.Serving
    unfold ownLampTest
    split
    · exact h
    · exact h.setTests _ _
  case beginEdit q =>
    show (ownBeginEdit q s).1.Serving
    unfold ownBeginEdit
    split
    · exact h
    · split
      · exact h
      · exact edits _
  case writeCueHeader hd =>
    show (ownWriteCueHeader hd s).1.Serving
    unfold ownWriteCueHeader
    split
    · exact h
    · split <;> exact edits _
  case writeSteps o l =>
    show (ownWriteSteps o l s).1.Serving
    unfold ownWriteSteps
    split
    · exact h
    · split <;> exact edits _
  case commit =>
    show (ownCommit s).1.Serving
    unfold ownCommit
    split
    · exact h
    · exact edits _
  case abortEdit =>
    show (ownAbortEdit s).1.Serving
    unfold ownAbortEdit
    split
    · exact h
    · exact (State.SameSound.endEdit s).serving h
  case eraseCue q => exact h.ownEraseCue q
  case writeChannel c e w =>
    show (ownWriteChannel c e w s).1.Serving
    unfold ownWriteChannel
    split
    · split
      · exact h
      · exact h.changeSettings _ _ _
    · exact h
  case clearEvents f =>
    show (ownClearEvents f s).1.Serving
    unfold ownClearEvents
    split
    · exact h
    · exact flags _ s.mask
  case writeEventMask m =>
    show (ownWriteEventMask m s).1.Serving
    unfold ownWriteEventMask
    split
    · exact h
    · exact flags s.events _
  all_goals exact absurd apart Bool.false_ne_true

/-- Every owner keeps the channels serving. -/
theorem State.Serving.ownerTakes (h : s.Serving) (picture : s.PictureLegal) (c : Instr) : (ownerTakes c s).1.Serving := by
  by_cases read : isRead c = true
  · rw [ownerTakes_read c s read]
    exact h
  by_cases apart : isApart c = true
  · exact h.ownerTakes_apart c apart
  cases c
  case writePoint b rec =>
    show (ownWritePoint b rec s).1.Serving
    unfold ownWritePoint
    split
    · exact h
    · rename_i p _
      split
      · exact h
      · rename_i out
        have absent : ∀ r ∈ s.roster, r.point ≠ p := by
          rintro r hr rfl
          rw [picture.mirror r hr, not_not] at out
          cases state : r.state <;> simp [state, RecordState.toAlarm] at out
        split
        · exact h
        · split
          · exact (State.SameSound.writeConfig absent _).serving h
          · exact h
  case setServiceIn b =>
    show (ownSetServiceIn b s).1.Serving
    unfold ownSetServiceIn
    split
    · exact h
    · split
      · exact h
      · exact h.bringIn _
  case setServiceOut b =>
    show (ownSetServiceOut b s).1.Serving
    unfold ownSetServiceOut
    split
    · exact h
    · split
      · exact h.takeOut _
      · exact h
  case writeClass n i =>
    show (ownWriteClass n i s).1.Serving
    unfold ownWriteClass
    split
    · exact h
    · split
      · exact h
      · exact (State.SameSound.setTables s s.tones _).serving h
  case writeTones n l =>
    show (ownWriteTones n l s).1.Serving
    unfold ownWriteTones
    split
    · exact h
    · split
      · exact h
      · exact (State.SameSound.setTables s _ s.classInterval).serving h
  case writeLine n m q k =>
    show (ownWriteLine n m q k s).1.Serving
    unfold ownWriteLine
    split
    · dsimp only
      split
      · exact h
      · exact ((State.SameSound.setLines s _ s.thresholds).serving h).linesChanged _
    · exact h
  case writeThresholds k x a o =>
    show (ownWriteThresholds k x a o s).1.Serving
    unfold ownWriteThresholds
    split
    · exact h
    · split
      · exact h
      · split
        · exact h
        · exact ((State.SameSound.setLines s _ _).serving h).linesChanged _
  case assertPoint b => exact h.hostCondition b true
  case releasePoint b => exact h.hostCondition b false
  case ack b e st =>
    show (ownAck b e st s).1.Serving
    unfold ownAck
    split
    · split
      · split <;> exact h
      · split
        · exact h
        · split
          · exact h.acknowledgeWith keepsServing_handOverflow .host _
          · exact h
    · exact h
  case ackGroup g =>
    show (ownAckGroup g s).1.Serving
    unfold ownAckGroup
    split
    · exact h
    · exact h.acknowledgeAll .host _
  case ackAll => exact h.acknowledgeAll .host _
  case reset b =>
    show (ownReset b s).1.Serving
    unfold ownReset
    split
    · exact h
    · split
      · exact h.retire keepsServing_handOverflow _ (by decide)
      · exact h
  case resetAll => exact h.resetEvery
  case writeGroup g v => exact h.ownWriteGroup g v
  case clearFirstOut g => exact h.ownClearFirstOut g
  case shelve b m => exact h.ownShelve b m
  case unshelve b =>
    show (ownUnshelve b s).1.Serving
    unfold ownUnshelve
    split
    · exact h
    · split
      · exact h.unshelvePoint _
      · exact h
  case silence => exact h.silenceAll
  case restart => exact h.restartAll
  all_goals first | exact absurd rfl read | exact absurd rfl apart | exact h

/-! ### The events -/

/-- The link, the answer and the flags are nothing to the channels. -/
theorem State.SameSound.setLink (s : State) (l : Link) : State.SameSound s (s.setLink l) :=
  .setOwn s l s.answer s.freeCount s.pending

theorem State.SameSound.setAnswer (s : State) (an : Option Answer) (l : Link) :
    State.SameSound s { s with answer := an, link := l } := .setOwn s l an s.freeCount s.pending

theorem State.SameSound.handOver (r : Reply) (c : Instr) : State.SameSound r.1 (r.handOver c) := .setAnswer r.1 _ _

theorem State.SameSound.noteLinkFault (s : State) (v : Bool) : State.SameSound s (s.noteLinkFault v) := by
  unfold State.noteLinkFault
  split
  · exact .raise s _
  · exact .refl s

/-- The events of the port are nothing to the channels. -/
theorem exec_port_sound (c : Instr) (port : isPortEvent c = true) (run : exec c s = .next t) : State.SameSound s t := by
  cases c
  all_goals first | exact absurd port Bool.false_ne_true | obtain rfl := Host.Outcome.next.inj run
  case selnFall | collect =>
    split
    · exact .setLink s _
    · exact .refl s
  case byteCompletion =>
    split
    · exact .refl s
    · exact .setLink s _
  case requestFrameEnd =>
    split
    · split
      · exact (State.SameSound.setLink s _).trans (.noteLinkFault _ _)
      · exact (State.SameSound.setLink s _).trans (.raise _ _)
    · exact .refl s
  case selnRise => exact (State.SameSound.setLink s _).trans (.noteLinkFault _ _)
  case linkReset =>
    show State.SameSound s s.expireLink
    unfold State.expireLink
    split
    · exact (State.SameSound.setLink s _).trans (.raise _ _)
    · exact .refl s

/-- To the channels a completion is the owner of its command, or nothing (R170, R174). -/
theorem execCommandCompletion_sound (marked : Bool) (run : exec (.commandCompletion marked) s = .next t) :
    State.SameSound s t ∨ ∃ c, State.SameSound (ownerTakes c s).1 t := by
  obtain rfl := Host.Outcome.next.inj run
  split
  · unfold State.completeMarked
    split
    · exact .inl (.refl s)
    · split
      · exact .inr ⟨_, .setAnswer _ _ _⟩
      · exact .inl (.setLink s _)
      · exact .inl (.setLink s _)
  · unfold State.completeInFlight
    split
    · exact .inl (.refl s)
    · split
      · exact .inl (.setLink s _)
      · split
        · exact .inl (.refl s)
        · exact .inl (.setLink s _)
      · dsimp only
        split
        · exact .inr ⟨_, .setAnswer _ _ _⟩
        · exact .inr ⟨_, .setAnswer _ _ _⟩

/-! ### Every command, and the step -/

theorem State.Serving.exec (h : s.Serving) (cues : s.CuesLegal) (picture : s.PictureLegal) (c : Instr)
    (run : exec c s = .next t) : t.Serving := by
  by_cases host : isHostCommand c = true
  · rw [exec_host c s host] at run
    obtain rfl := Host.Outcome.next.inj run
    exact (State.SameSound.handOver _ c).serving (h.ownerTakes picture c)
  by_cases port : isPortEvent c = true
  · exact (exec_port_sound c port run).serving h
  cases c
  case commandCompletion marked =>
    rcases execCommandCompletion_sound marked run with same | ⟨c, same⟩
    · exact same.serving h
    · exact same.serving (h.ownerTakes picture c)
  all_goals first
    | exact absurd rfl host
    | exact absurd rfl port
    | obtain rfl := Host.Outcome.next.inj run
  case powerOnReset => exact .powerOn s
  case lineSample n level => exact h.sampleLine n level
  case onDelayExpiry p => exact h.expireOnDelay p
  case offDelayExpiry p => exact h.expireOffDelay p
  case shelveExpiry p => exact h.expireShelve p
  case reannounceExpiry p st => exact h.expireReannounce p st
  case keyLineChange k level => exact (State.SameSound.setKeys s _ s.keyEnables).serving h
  case debounceExpiry k => exact h.expireDebounce k
  case panelTestExpiry => exact h.setTests _ _
  case hostTestExpiry => exact h.setTests _ _
  case stepEnd c => exact h.endStep c
  case editIdleTimeout => exact (State.SameSound.expireEdit s).serving h
  case commitCheckEnd => exact h.endCheck cues
  case ageIncrement p => exact (State.SameSound.age s p).serving h

/-- The channels serve, and the cue library and the alarm picture are as erasures, COMMITs and WRITE POINT ask. -/
structure State.ServesLegally (s : State) : Prop where
  cues : s.CuesLegal
  picture : s.PictureParts
  serving : s.Serving

theorem State.ServesLegally.setQueue (h : s.ServesLegally) (n : Nat) (q : List Instr) :
    ({ s with freeCount := n, pending := q } : State).ServesLegally where
  cues := h.cues.congr rfl rfl
  picture := ((State.Apart.setFreeCount s n).trans (.setPending _ q)).parts h.picture
  serving := (State.SameSound.setOwn s s.link s.answer n q).serving h.serving

theorem State.ServesLegally.exec (h : s.ServesLegally) (c : Instr) (run : exec c s = .next t) : t.ServesLegally where
  cues := h.cues.exec c run
  picture := h.picture.exec c run
  serving := h.serving.exec h.cues h.picture.legal c run

/-- Settles O59: a claim that changes what a channel may want ends with the channels' comparison, and no claim gives a channel a
pass that is not legal. -/
theorem stepKeepsChannelsServing : Obligations.StepKeepsChannelsServing := fun _ _ cues picture serves run =>
  State.Serving.channelsServe <| State.ServesLegally.serving <|
    step_keeps (fun c _ _ h run => h.exec c run) (fun _ h => ⟨h.cues.countAll, h.picture.countAll, h.serving.countAll⟩)
      (fun u n h => h.setQueue n u.pending) (fun u q h => h.setQueue u.freeCount q)
      ⟨cues, picture.parts, serves.serving cues picture⟩ run

end Sys2Proof.Machine

namespace Sys2Proof.Machine

/-! ## Demands, WRITE CHANNEL and READ CHANNEL (R150 to R152, R162 to R164) -/

variable {s t : State} {c k : Chan} {pl : Player} {r : RosterRecord} {q : CueId} {b v w : Byte}

/-! ### The demands of the records (R104, R150) -/

/-- A record that is not silenced demands its state's cue, but for one that plays once and has sounded. -/
theorem State.demandOf_heard (heard : r.silenced = false) :
    s.demandOf r = (s.cueOf r).filter fun q => !(r.sounded && s.playsOnce q) := by
  unfold State.demandOf
  rw [heard]
  cases s.cueOf r with
  | none => rfl
  | some q => cases once : r.sounded && s.playsOnce q <;> simp only [once, Option.filter_some] <;> rfl

/-- An EMPTY cue plays as REPEAT (R150). -/
theorem State.playsOnce_empty (empty : s.cues[q] = none) : s.playsOnce q = false := by
  rw [State.playsOnce, empty]

theorem State.playsOnce_ready {k : CueContents} (ready : s.cues[q] = some k) : s.playsOnce q = (k.policy != .repeating) := by
  rw [State.playsOnce, ready]

theorem State.cueOf_eq {cue : Option CueId}
    (field : r.state = .alert ∧ cue = (s.cfg r.point).alertCue ∨ r.state = .returned ∧ cue = (s.cfg r.point).ringbackCue) :
    s.cueOf r = cue := by
  rcases field with ⟨state, rfl⟩ | ⟨state, rfl⟩ <;> simp only [State.cueOf, state]

/-! ### The choice among the demands (R152) -/

theorem State.demandOn_eq_some (channel : (s.cfg r.point).channel = c) (demand : s.demandOf r = some q) :
    s.demandOn c r = some ⟨.record r.point r.stamp, q⟩ := by
  rw [State.demandOn, if_pos channel, demand, Option.map_some]

/-- Of the records that demand a cue the first in the roster is chosen. -/
theorem State.wanted_first {i : Nat} {d : Demand} (on : (s.channels.get c).enabled = true) (there : s.roster[i]? = some r)
    (demand : s.demandOn c r = some d) (before : ∀ j r', j < i → s.roster[j]? = some r' → s.demandOn c r' = none) :
    s.wanted c = some d := by
  obtain ⟨within, rfl⟩ := List.getElem?_eq_some_iff.mp there
  have found : s.roster.findSome? (s.demandOn c) = some d := by
    refine List.findSome?_eq_some_iff.mpr ⟨s.roster.take i, s.roster[i], s.roster.drop (i + 1), ?_, demand, fun x hx => ?_⟩
    · rw [List.getElem_cons_drop, List.take_append_drop]
    · obtain ⟨j, low, rfl⟩ := List.mem_take_iff_getElem.mp hx
      exact before j _ (by omega) (List.getElem?_eq_getElem (by omega))
  simp [State.wanted, on, found]

/-- With no record's demand the test demand is left. -/
theorem State.wanted_test (on : (s.channels.get c).enabled = true) (silent : ∀ r ∈ s.roster, s.demandOn c r = none) :
    s.wanted c = if s.testAsks c then some ⟨.test, testCue⟩ else none := by
  simp [State.wanted, on, List.findSome?_eq_none_iff.mpr silent]

theorem State.testAsks_iff (s : State) (c : Chan) :
    s.testAsks c = true ↔ (s.panelTest ≠ none ∨ s.hostTest ≠ none) ∧ s.testSounded.get c = false := by
  simp [State.testAsks, State.testActive, Option.isSome_iff_ne_none]

/-! ### WRITE CHANNEL (R162, R163) -/

theorem chanOf_none (high : 1 < b.toNat) : chanOf b = none := by
  rw [← Option.not_isSome_iff_eq_none, chanOf_isSome]
  omega

theorem switchPolicyOf_none (high : 1 < b.toNat) : switchPolicyOf b = none := by
  simp only [switchPolicyOf, ← BitVec.toNat_inj]
  rw [if_neg, if_neg]
  · exact fun eq => absurd (eq ▸ high) (by decide)
  · exact fun eq => absurd (eq ▸ high) (by decide)

theorem ownWriteChannel_range (range : 1 < b.toNat ∨ 1 < v.toNat ∨ 1 < w.toNat) :
    ownWriteChannel b v w s = s.refuse .range := by
  unfold ownWriteChannel
  rcases range with high | high | high
  · rw [chanOf_none high]
  · rw [yesNoOf_none high]
    cases chanOf b <;> rfl
  · rw [switchPolicyOf_none high]
    cases chanOf b <;> cases yesNoOf v <;> rfl

/-- WRITE CHANNEL with settings that name a channel, a yes/no and a policy: nothing when they are held, else their change. -/
theorem ownWriteChannel_codes (c : Chan) (on : Bool) (w : SwitchPolicy) (s : State) :
    ownWriteChannel (chanCode c) (yesNo on) w.code s =
      if (s.channels.get c).enabled = on ∧ (s.channels.get c).policy = w then s.replyOk []
      else (s.changeSettings c on w).replyOk [] := by
  simp only [ownWriteChannel, chanOf_code, yesNoOf_yesNo, switchPolicyOf_code]

/-- The state with a channel's settings written and the channel IDLE. -/
def State.idledChannel (s : State) (c : Chan) (w : SwitchPolicy) : State :=
  { s with channels := s.channels.put c ⟨false, w, none⟩ }

/-- A disable leaves a channel IDLE, and one that was PLAYING sets its idle flag (R162, R163). -/
theorem State.changeSettings_stops (c : Chan) (w : SwitchPolicy) (s : State) :
    s.changeSettings c false w =
      if s.playerOf c = none then s.idledChannel c w else (s.idledChannel c w).raise (idleEvent c) := by
  have idles : (s.setSettings c false w).setPlayer c none = s.idledChannel c w := by cases c <;> rfl
  rw [State.changeSettings_off, State.stopChannel, State.playerOf_setSettings]
  cases playing : s.playerOf c with
  | none =>
    have idle : s.setSettings c false w = (s.setSettings c false w).setPlayer c none := by
      rw [← playing]
      cases c <;> rfl
    rw [← idles, ← idle]
    rfl
  | some pl =>
    rw [← idles]
    rfl

/-- A sound frame after a write of the channels, seen from what it leaves of the channels. -/
theorem State.SoundFrame.withChannels {ch : PerChan ToneChannel} (h : State.SoundFrame { s with channels := ch } t) :
    State.SoundFrame { s with channels := t.channels } t := by
  obtain ⟨⟨a, b, e, rfl⟩, flags⟩ := h
  exact ⟨⟨a, b, e, rfl⟩, flags⟩

/-- What an enabled channel makes of new settings (R162): the other channel and all that is no channel's stay, an IDLE or an
unheld IMMEDIATE channel plays what it wants, and a channel under STEP or a held one goes on. -/
structure State.Enables (s : State) (c : Chan) (w : SwitchPolicy) (t : State) : Prop where
  enabled : (t.channels.get c).enabled = true
  policy : (t.channels.get c).policy = w
  other : ∀ k, k ≠ c → t.channels.get k = s.channels.get k
  sound : State.SoundFrame { s with channels := t.channels } t
  serves : (∀ pl, s.playerOf c = some pl → w = .immediate ∧ pl.firmHold = false) →
    (t.playerOf c).map Player.current = t.wanted c
  goesOn : ∀ pl, s.playerOf c = some pl → w = .step ∨ pl.firmHold = true → t.playerOf c = some pl

theorem State.enables_changeSettings (s : State) (c : Chan) (w : SwitchPolicy) :
    State.Enables s c w (s.changeSettings c true w) := by
  rw [State.changeSettings_on]
  have sound := State.SoundFrame.compareChannel (s.setSettings c true w) c
  have own := s.channels_setSettings c true w
  have player := s.playerOf_setSettings c true w
  have policy : ((s.setSettings c true w).channels.get c).policy = w := by rw [own]
  refine ⟨(sound.picture.enabled c).trans (by rw [own]), (sound.picture.policy c).trans policy, fun k ne => ?_,
    sound.withChannels, fun free => ?_, fun pl playing stays => ?_⟩
  · exact (sound.channel_eq (State.playerOf_compareChannel_ne _ ne)).trans (s.channels_setSettings_ne true w ne)
  · rw [sound.wanted]
    exact State.serves_compareChannel fun pl playing => policy.symm ▸ free pl (player ▸ playing)
  · have playing := player.trans playing
    rw [State.compareChannel_keeps playing (policy.symm ▸ stays), playing]

/-! ### READ CHANNEL (R164) -/

theorem ownReadChannel_code (c : Chan) (s : State) :
    ownReadChannel (chanCode c) s =
      s.replyOk ([yesNo (s.channels.get c).enabled, (s.channels.get c).policy.code] ++ playerBytes (s.playerOf c) ++
        wantedBytes (s.wanted c)) := by
  simp only [ownReadChannel, chanOf_code]
  rfl

theorem stampBytes_zero : stampBytes 0 = [0, 0, 0, 0] := by decide

/-- The report of an IDLE channel, whose tone byte is the free one (R164, R182). -/
theorem playerBytes_none : playerBytes none =
    [0, 0, 0xFF, 0, 0, 0, 0, 0xFF, 0xFF, 0xFF, Config.inapplicable .copyTone, 0, 0, 0, 0, 0, 0, 0, 0, 0, 0] := by
  have zero : halfOf 0 = [0, 0] := by decide
  simp only [playerBytes, ownerBytes, stampBytes_zero, zero]
  rfl

/-- The report of a PLAYING channel (R164). -/
theorem playerBytes_some (pl : Player) : ∃ fh fl th tl : Byte,
    playerBytes (some pl) = [1] ++ ownerBytes (some pl.owner) ++
      [byteOf pl.demandedCue.val, byteOf pl.playedCue.val, byteOf pl.stepIndex, pl.copy.tone.code,
        byteOf pl.copy.length, fh, fl, byteOf pl.copy.ms, th, tl, byteOf pl.counters.length,
        byteOf ((pl.counters[0]?).getD 0), byteOf ((pl.counters[1]?).getD 0),
        byteOf (pl.firmHold.toNat + 2 * pl.renewed.toNat + 4 * pl.replacementPending.toNat)] ∧
    halfFrom fh fl = pl.copy.frequency.getD 0 ∧ halfFrom th tl = BitVec.ofNat 16 ((pl.timeLeft + 3999) / 4000) := by
  refine ⟨_, _, _, _, ?_, halfFrom_bytes _, halfFrom_bytes _⟩
  simp only [playerBytes, halfOf, halfBytes, roundedUp, Config.refclkPerMs, List.getD_eq_getElem?_getD, List.cons_append,
    List.append_assoc, List.nil_append, Nat.add_sub_assoc, Nat.reduceLeDiff, Nat.reduceSub]

/-- Settles O46: the demands and their choice are read off the definitions, a write is one change of settings with a comparison
or a stop, and the report's parts stand in their places. -/
theorem channelCommands : Obligations.ChannelCommands := by
  refine ⟨fun r s => ⟨State.demandOf_eq_none, fun cue heard field => ?_⟩,
    fun c s => ⟨fun off => ?_, fun on => ⟨fun i r q there channel demand before => ?_, fun silent => ?_⟩⟩,
    fun b v w s range => exec_answers rfl (ownWriteChannel_range range), fun c w s => ?_,
    fun b s range => exec_answers rfl ?_, fun c s => ?_⟩
  · rw [State.demandOf_heard heard, State.cueOf_eq field]
    refine ⟨fun fresh => ?_, ?_, ?_⟩
    · cases cue <;> simp [fresh]
    · rintro rfl
      rfl
    · rintro q rfl sounded
      refine ⟨fun empty => ?_, fun k ready repeats => ?_, fun k ready once => ?_⟩
      · simp [State.playsOnce_empty empty]
      · simp [State.playsOnce_ready ready, repeats]
      · simp [State.playsOnce_ready ready, once, sounded]
  · rw [State.wanted_eq, off]
    rfl
  · exact State.wanted_first on there (State.demandOn_eq_some channel demand) fun j r' low there' =>
      State.demandOn_none (before j r' low there')
  · rw [State.wanted_test on fun r hr => State.demandOn_none (silent r hr)]
    simp only [State.testAsks_iff]
  · refine ⟨fun held same => exec_answers rfl ?_, fun held same => exec_answers rfl ?_, fun differs playing => exec_answers rfl ?_,
      fun differs idle => exec_answers rfl ?_, fun differs => ?_⟩
    · exact (ownWriteChannel_codes c false w s).trans (if_pos ⟨held, same⟩)
    · exact (ownWriteChannel_codes c true w s).trans (if_pos ⟨held, same⟩)
    · exact (ownWriteChannel_codes c false w s).trans ((if_neg differs).trans (by
        rw [State.changeSettings_stops, if_neg playing]
        rfl))
    · exact (ownWriteChannel_codes c false w s).trans ((if_neg differs).trans (by
        rw [State.changeSettings_stops, if_pos idle]
        rfl))
    · have enables := s.enables_changeSettings c w
      exact ⟨_, exec_answers rfl ((ownWriteChannel_codes c true w s).trans (if_neg differs)), enables.enabled, enables.policy,
        enables.other, enables.sound, enables.serves, enables.goesOn⟩
  · show ownReadChannel b s = s.refuse .range
    rw [ownReadChannel, chanOf_none range]
  · refine ⟨playerBytes (s.playerOf c), wantedBytes (s.wanted c), exec_answers rfl (ownReadChannel_code c s), fun nothing => ?_,
      fun q test => ?_, fun p st q record => ?_, fun idle => ?_, fun pl playing => ?_⟩
    · rw [nothing, wantedBytes, ownerBytes, stampBytes_zero]
      rfl
    · rw [test, wantedBytes, ownerBytes, stampBytes_zero]
      rfl
    · rw [record]
      rfl
    · rw [idle]
      exact ⟨_, Config.inapplicable_cases .copyTone, playerBytes_none⟩
    · rw [playing]
      obtain ⟨fh, fl, th, tl, report, frequency, left⟩ := playerBytes_some pl
      refine ⟨_, fh, fl, th, tl, report, fun test => ?_, fun p st record => ?_, frequency, left⟩
      · rw [test, ownerBytes, stampBytes_zero]
      · rw [record]
        rfl

end Sys2Proof.Machine

namespace Sys2Proof.Machine

/-! ## SELN and the bytes of a transaction (R167, R168, R176 to R178) -/

variable {s : State} {l : Link} {b : Byte} {f : CollectFrame}

/-! ### The first byte of a transaction and the bytes after it -/

/-- The link with a running link reset timer started again at 25 ms (R178). -/
def Link.retimed (l : Link) : Link := { l with timer := l.timer.map fun _ => Config.linkResetTime }

/-- The first byte decides the kind of a transaction (R167). -/
theorem Link.receive_opened (l : Link) (b : Byte) (opened : l.trans = .opened) :
    l.receive b = if b = 0 then { l with trans := .collect none } else { l with trans := .request, rx := [b] } := by
  simp only [Link.receive, opened]

/-- A request's bytes enter the receive frame until it is whole (R168). -/
theorem Link.receive_request (l : Link) (b : Byte) (request : l.trans = .request) :
    l.receive b = { l with rx := if frameWhole l.rx then l.rx else l.rx ++ [b] } := by
  obtain ⟨trans, rx, timer, inFlight, marked, response⟩ := l
  obtain rfl : trans = .request := request
  simp only [Link.receive]
  split <;> rfl

theorem Link.receive_collect (l : Link) (b : Byte) (collects : l.trans = .collect (some f)) :
    l.receive b = { l with trans := .collect (some { f with shifted := f.shifted + 1 }) } := by
  simp only [Link.receive, collects]

theorem Link.receive_ignores (l : Link) (b : Byte)
    (ignores : l.trans = .afterFrame ∨ l.trans = .ignored ∨ l.trans = .missed ∨ l.trans = .collect none) :
    l.receive b = l := by
  rcases ignores with trans | trans | trans | trans <;> simp only [Link.receive, trans]

/-- A transaction begins with the link reset timer at 25 ms (R167, R178). -/
theorem exec_selnFall_idle (idle : s.link.trans = .idle) :
    exec .selnFall s = .next (s.setLink { s.link with trans := .opened, timer := some Config.linkResetTime }) :=
  congrArg Host.Outcome.next (if_pos idle)

theorem exec_byteCompletion_high (high : s.link.trans = .idle) : exec (.byteCompletion b) s = .next s :=
  congrArg Host.Outcome.next (if_pos high)

theorem exec_byteCompletion_low (low : s.link.trans ≠ .idle) (received : s.link.retimed.receive b = l) :
    exec (.byteCompletion b) s = .next (s.setLink l) :=
  received ▸ congrArg Host.Outcome.next (if_neg low)

/-! ### SELN rises -/

theorem CollectFrame.consumed_iff (f : CollectFrame) :
    f.consumed = true ↔ f.isResponse = true ∧ f.bytes.length ≤ f.shifted := by
  simp [CollectFrame.consumed]

/-- A response clocked out whole is consumed (R176). -/
theorem Link.selnUp_collect (collects : l.trans = .collect (some f)) :
    l.selnUp = { l with
      trans := .idle
      timer := none
      response := if f.isResponse = true ∧ f.bytes.length ≤ f.shifted then none else l.response } := by
  simp only [Link.selnUp, collects, ← f.consumed_iff]
  split <;> rfl

/-- A partial request frame is discarded (R177). -/
theorem Link.selnUp_partial (request : l.trans = .request) (more : frameWhole l.rx = false) :
    l.selnUp = { l with trans := .idle, timer := none, rx := [] } ∧ l.partialFrame = true := by
  simp [Link.selnUp, Link.partialFrame, request, more]

/-- A whole request frame keeps its frame end. -/
theorem Link.selnUp_whole (request : l.trans = .request) (whole : frameWhole l.rx = true) :
    l.selnUp = { l with trans := .idle, timer := none } ∧ l.partialFrame = false := by
  simp [Link.selnUp, Link.partialFrame, request, whole]

/-- A transaction that has neither a request frame nor a frame on SDO just ends. -/
theorem Link.selnUp_plain (plain : l.trans = .opened ∨ l.trans = .afterFrame ∨ l.trans = .ignored ∨ l.trans = .missed ∨
      l.trans = .collect none) :
    l.selnUp = { l with trans := .idle, timer := none } ∧ l.partialFrame = false := by
  rcases plain with trans | trans | trans | trans | trans <;> simp [Link.selnUp, Link.partialFrame, trans]

theorem Link.partialFrame_collect {frame : Option CollectFrame} (collects : l.trans = .collect frame) :
    l.partialFrame = false := by
  simp only [Link.partialFrame, collects]

theorem exec_selnRise_faultless (up : s.link.selnUp = l ∧ s.link.partialFrame = false) :
    exec .selnRise s = .next (s.setLink l) := by
  obtain ⟨rfl, faultless⟩ := up
  show Host.Outcome.next ((s.setLink s.link.selnUp).noteLinkFault s.link.partialFrame) = _
  rw [faultless]
  rfl

theorem exec_selnRise_fault (up : s.link.selnUp = l ∧ s.link.partialFrame = true) :
    exec .selnRise s = .next ((s.setLink l).raise .linkFault) := by
  obtain ⟨rfl, fault⟩ := up
  show Host.Outcome.next ((s.setLink s.link.selnUp).noteLinkFault s.link.partialFrame) = _
  rw [fault]
  rfl

/-- Settles O47: a fall of SELN opens a transaction, each byte does what the transaction's kind says, and a rise ends it by
what it holds. -/
theorem transactionsReceiveBytes : Obligations.TransactionsReceiveBytes := by
  have low : ∀ {x y : Transaction}, x = y → y ≠ .idle → x ≠ .idle := fun same ne => same ▸ ne
  refine fun s => ⟨fun idle => ⟨exec_selnFall_idle idle, fun b => exec_byteCompletion_high idle⟩,
    fun busy => congrArg Host.Outcome.next (if_neg busy),
    fun opened b => exec_byteCompletion_low (low opened nofun) ?_,
    fun request b => exec_byteCompletion_low (low request nofun) (Link.receive_request _ b request),
    fun ignores b => exec_byteCompletion_low ?_ (Link.receive_ignores _ b ignores),
    fun f b collects => exec_byteCompletion_low (low collects nofun) (Link.receive_collect _ b collects),
    fun request more => exec_selnRise_fault (Link.selnUp_partial request more),
    fun request whole => exec_selnRise_faultless (Link.selnUp_whole request whole),
    fun plain => exec_selnRise_faultless (Link.selnUp_plain plain),
    fun f collects => exec_selnRise_faultless ⟨Link.selnUp_collect collects, Link.partialFrame_collect collects⟩⟩
  · exact Link.receive_opened _ b opened
  · rcases ignores with trans | trans | trans | trans <;> exact low trans nofun

/-! ## The link reset (R178) -/

/-- A command in flight takes the discard mark and goes on. -/
theorem Link.linkReset_marks {f : InFlight} (busy : l.inFlight = some f) :
    l.linkReset.marked = l.marked ++ [f.work] := by
  simp only [Link.linkReset, busy]

theorem Link.linkReset_idle (idle : l.inFlight = none) : l.linkReset.marked = l.marked := by
  simp only [Link.linkReset, idle]

theorem Link.linkReset_collect (collects : l.trans = .collect (some f)) : l.linkReset.trans = l.trans := by
  simp only [Link.linkReset, collects, Transaction.afterLinkReset]

theorem Link.linkReset_ignores (requests : l.trans = .request ∨ l.trans = .opened ∨ l.trans = .afterFrame) :
    l.linkReset.trans = .ignored := by
  rcases requests with trans | trans | trans <;> simp only [Link.linkReset, trans, Transaction.afterLinkReset]

/-- Settles O50: with its timer running the reset writes the link and raises LINK_FAULT, and does nothing else. -/
theorem linkResetClearsLink : Obligations.LinkResetClearsLink := by
  refine fun s => ⟨fun stopped => congrArg Host.Outcome.next (if_neg ?_), fun runs => ⟨s.link.linkReset,
    congrArg Host.Outcome.next (if_pos (Option.isSome_iff_ne_none.mpr runs)), rfl, rfl, rfl, rfl,
    fun f busy => Link.linkReset_marks busy, Link.linkReset_idle, fun f collects => Link.linkReset_collect collects,
    Link.linkReset_ignores⟩⟩
  simp [stopped]

end Sys2Proof.Machine

namespace Sys2Proof.Machine

/-! ## The catalogue reads back what a host writes (R181, R182, R185, R187) -/

variable {c : Instr} {code : Byte} {payload : List Byte}

/-- WRITE STEPS with a number of steps that its payload length allows. -/
theorem stepsRequest_flatMap {steps : List StepBytes} (offset : Byte) (few : steps.length ≤ 19) :
    stepsRequest offset (steps.flatMap fun st => [st.tone, st.length]) = .command (.writeSteps offset steps) := by
  simp only [stepsRequest, stepsOf_flatMap, if_pos few]

/-- WRITE TONES with a number of frequencies that its payload length allows. -/
theorem tonesRequest_flatMap {fs : List Half} (first : Byte) (few : 1 ≤ fs.length ∧ fs.length ≤ 16) :
    tonesRequest first (fs.flatMap halfBytes) = .command (.writeTones first fs) := by
  simp only [tonesRequest, frequenciesOf_flatMap, if_pos few]

/-- The link reads a host command from its code and payload: at once from a payload of single bytes, through the numbers and
the lists of R182 and R187 else. -/
theorem requestOf_request (wf : c.wellFormed = true) (request : c.request = some (code, payload)) :
    requestOf code payload = .command c := by
  cases c
  all_goals cases request
  case ack p e st => exact congrArg (fun w => Request.command (.ack p e w)) (stampFrom_bytes st)
  case shelve p m => exact congrArg (fun h => Request.command (.shelve p h)) (halfFrom_bytes m)
  case clearEvents flags => exact congrArg (fun h => Request.command (.clearEvents h)) (halfFrom_bytes flags)
  case writeEventMask mask => exact congrArg (fun h => Request.command (.writeEventMask h)) (halfFrom_bytes mask)
  case writeSteps offset steps => exact stepsRequest_flatMap offset (of_decide_eq_true wf)
  case writeTones first fs => exact tonesRequest_flatMap first (of_decide_eq_true wf)
  all_goals rfl

/-- A host command's payload fits a frame (R168, R181). -/
theorem request_payload_length (wf : c.wellFormed = true) (request : c.request = some (code, payload)) :
    payload.length ≤ 40 := by
  cases c
  all_goals cases request
  case writeSteps offset steps =>
    have few : steps.length ≤ 19 := of_decide_eq_true wf
    have length : (steps.flatMap fun st => [st.tone, st.length]).length = steps.length * 2 := by simp [List.length_flatMap]
    rw [List.length_cons, length]
    omega
  case writeTones first fs =>
    have few : 1 ≤ fs.length ∧ fs.length ≤ 16 := of_decide_eq_true wf
    have length : (fs.flatMap halfBytes).length = fs.length * 2 := by simp [List.length_flatMap, halfBytes]
    rw [List.length_cons, length]
    omega
  all_goals exact Nat.le_of_ble_eq_true rfl

/-- No command has the code 0x00, which marks a collect (R167). -/
theorem request_code_ne_zero (request : c.request = some (code, payload)) : code ≠ 0 := by
  cases c
  all_goals cases request
  all_goals decide

/-- Settles O52: by the commands of the catalogue. -/
theorem requestsDecodeToTheirCommands : Obligations.RequestsDecodeToTheirCommands := fun _ _ _ wf request =>
  ⟨requestOf_request wf request, request_payload_length wf request, request_code_ne_zero request⟩

end Sys2Proof.Machine

namespace Sys2Proof.Machine

/-! ## The frame end (R168, R169, R171, R172) -/

variable {s : State} {code tag n check : Byte} {payload : List Byte}

/-- What is made of a frame that passes its check byte (R171 checks 3 to 5): a command waits for its owner, anything else is
answered. -/
def Request.work : Request → Work
  | .unknown => .done (.refusal .unknown)
  | .badLength => .done (.refusal .badLength)
  | .badService => .done (.refusal .range)
  | .command c => .awaiting c

theorem judgeFrame_overlong (long : 40 < n.toNat) : judgeFrame [code, tag, n] = (.done (.refusal .badLength), true) :=
  if_pos long

/-- A frame of the length its length byte announces is judged by its check byte and then by the catalogue (R169, R171). -/
theorem judgeFrame_whole (length : payload.length = n.toNat) (fits : n.toNat ≤ 40) :
    judgeFrame (code :: tag :: n :: payload ++ [check]) =
      if check = crc8 (code :: tag :: n :: payload) then ((requestOf code payload).work, false)
      else (.done (.refusal .badCheck), true) := by
  have body : (code :: tag :: n :: payload ++ [check]).take (n.toNat + 3) = code :: tag :: n :: payload := by
    simp [← length]
  have last : (code :: tag :: n :: payload ++ [check]).getD (n.toNat + 3) 0 = check := by
    simp [← length]
  have operands : ((code :: tag :: n :: payload ++ [check]).drop 3).take n.toNat = payload := by
    simp [← length]
  have announced : (code :: tag :: n :: payload ++ [check]).getD 2 0 = n := rfl
  have named : (code :: tag :: n :: payload ++ [check]).getD 0 0 = code := rfl
  simp only [judgeFrame, announced, named, body, last, operands, if_neg (Nat.not_lt.mpr fits)]
  by_cases same : check = crc8 (code :: tag :: n :: payload)
  · rw [if_neg (not_not_intro same.symm), if_pos same]
    cases requestOf code payload <;> rfl
  · rw [if_pos (Ne.symm same), if_neg same]

theorem frameWhole_of_length (length : payload.length = n.toNat) :
    frameWhole (code :: tag :: n :: payload ++ [check]) = true := by
  simp [frameWhole, length]

theorem frameWhole_overlong (long : 40 < n.toNat) : frameWhole [code, tag, n] = true := by
  simp [frameWhole, long]

theorem State.noteLinkFault_flag (s : State) (fault : Bool) :
    (s.noteLinkFault fault).flag .linkFault = (s.flag .linkFault || fault) := by
  cases fault
  · exact (Bool.or_false _).symm
  · exact s.flag_raise .linkFault .linkFault

/-- Beside the link only the event flags take note of a fault. -/
theorem State.noteLinkFault_frame (s : State) (fault : Bool) :
    s.noteLinkFault fault = { s with events := (s.noteLinkFault fault).events } := by
  cases fault <;> rfl

theorem exec_requestFrameEnd_partial (more : frameWhole s.link.rx = false) : exec .requestFrameEnd s = .next s :=
  congrArg Host.Outcome.next (if_neg (Bool.eq_false_iff.mp more))

theorem exec_requestFrameEnd_busy {f : InFlight} (whole : frameWhole s.link.rx = true) (busy : s.link.inFlight = some f) :
    exec .requestFrameEnd s = .next (s.discardFrame f) := by
  refine congrArg Host.Outcome.next ((if_pos whole).trans ?_)
  rw [busy]

theorem exec_requestFrameEnd_idle (whole : frameWhole s.link.rx = true) (idle : s.link.inFlight = none) :
    exec .requestFrameEnd s = .next s.takeFrame := by
  refine congrArg Host.Outcome.next ((if_pos whole).trans ?_)
  rw [idle]

/-- What the frame end leaves when the link is IDLE: the frame in flight with the work it makes, nothing held and nothing
received, and LINK_FAULT noted (R171). -/
theorem State.takeFrame_link (s : State) :
    s.takeFrame.link = { s.link with
      trans := s.link.trans.afterEnd
      rx := []
      response := none
      inFlight := some ⟨s.link.rx.getD 1 0, s.link.response.isSome, false, (judgeFrame s.link.rx).1⟩ } :=
  State.noteLinkFault_link _ _

theorem State.takeFrame_flag (s : State) :
    s.takeFrame.flag .linkFault = (s.flag .linkFault || (judgeFrame s.link.rx).2) :=
  State.noteLinkFault_flag _ _

/-- A frame end sets at most the link's flag outside the link. -/
theorem State.takeFrame_frame (s : State) :
    s.takeFrame = { s with link := s.takeFrame.link, events := s.takeFrame.events } := by
  rw [State.takeFrame_link]
  exact State.noteLinkFault_frame _ _

/-- A frame found faultless sets no flag. -/
theorem State.takeFrame_events (faultless : (judgeFrame s.link.rx).2 = false) : s.takeFrame.events = s.events := by
  show (State.noteLinkFault _ (judgeFrame s.link.rx).2).events = s.events
  rw [faultless]
  rfl

theorem State.discardFrame_flag (s : State) (f : InFlight) : (s.discardFrame f).flag .linkFault = true :=
  (State.flag_raise _ .linkFault .linkFault).trans (Bool.or_true _)

/-- Settles O48: what a frame end makes of a frame is read off `judgeFrame`, for a frame of the announced length and for an
over-long one. -/
theorem requestFrameEndJudges : Obligations.RequestFrameEndJudges := by
  refine fun s => ⟨exec_requestFrameEnd_partial, fun f whole busy =>
      ⟨s.discardFrame f, exec_requestFrameEnd_busy whole busy, rfl, rfl, rfl, s.discardFrame_flag f, rfl⟩,
    fun code tag n payload check idle received length fits => ?_, fun code tag n idle received long => ?_⟩
  · have judged := judgeFrame_whole (code := code) (tag := tag) (check := check) length fits
    rw [← received] at judged
    refine ⟨s.takeFrame, (judgeFrame s.link.rx).1, exec_requestFrameEnd_idle (received ▸ frameWhole_of_length length) idle,
      ?_, congrArg Link.response s.takeFrame_link, congrArg Link.rx s.takeFrame_link,
      (congrArg State.answer s.takeFrame_frame :), (congrArg State.alarm s.takeFrame_frame :),
      (congrArg State.roster s.takeFrame_frame :), fun wrong => ?_, fun right => ?_⟩
    · rw [s.takeFrame_link, received]
      rfl
    · rw [s.takeFrame_flag, judged, if_neg wrong]
      exact ⟨rfl, Bool.or_true _⟩
    · rw [s.takeFrame_flag, judged, if_pos right]
      exact ⟨Bool.or_false _, congrArg Request.work, congrArg Request.work, congrArg Request.work,
        fun _ => congrArg Request.work⟩
  · refine ⟨s.takeFrame, exec_requestFrameEnd_idle (received ▸ frameWhole_overlong long) idle, ?_, ?_⟩
    · rw [s.takeFrame_link, received, judgeFrame_overlong long]
      rfl
    · rw [s.takeFrame_flag, received, judgeFrame_overlong long]
      exact Bool.or_true _

end Sys2Proof.Machine

namespace Sys2Proof.Machine

/-! ## A request frame on its way through the port (R167 to R169, R171, R183) -/

variable {s t u : State} {c : Instr} {cs ds : List Instr} {code tag b : Byte} {payload rx bytes : List Byte}

theorem runAll_cons (first : exec c s = .next t) : runAll (c :: cs) s = runAll cs t := by
  rw [runAll, first]

theorem runAll_append (run : runAll cs s = .next t) : runAll (cs ++ ds) s = runAll ds t := by
  induction cs generalizing s with
  | nil => exact Host.Outcome.next.inj run ▸ rfl
  | cons c cs ih =>
    obtain ⟨u, first⟩ := exec_next c s
    rw [runAll_cons first] at run
    rw [List.cons_append, runAll_cons first, ih run]

/-- The state with the port in the middle of a request, its bytes so far received and the link reset timer at 25 ms. -/
def State.receiving (s : State) (rx : List Byte) : State :=
  s.setLink { s.link with trans := .request, rx := rx, timer := some Config.linkResetTime }

/-- SELN falls on an idle port, and the first byte is a command code (R167, R168, R178). -/
theorem runAll_firstByte (idle : s.link.trans = .idle) (host : code ≠ 0) :
    runAll (.selnFall :: .byteCompletion code :: cs) s = runAll cs (s.receiving [code]) := by
  refine (runAll_cons (exec_selnFall_idle idle)).trans (runAll_cons (exec_byteCompletion_low ?_ ?_))
  · exact nofun
  · exact (Link.receive_opened _ code rfl).trans (if_neg host)

/-- A receive frame to which bytes still belong is not whole (R168). -/
theorem frameWhole_of_receivable (room : receivable (rx ++ b :: bytes)) : frameWhole rx = false := by
  unfold frameWhole
  cases announced : rx[2]? with
  | none => rfl
  | some n =>
    have within : 2 < rx.length := (List.getElem?_eq_some_iff.mp announced).1
    have bound := room n ((List.getElem?_append_left within).trans announced)
    rw [List.length_append, List.length_cons] at bound
    by_cases long : 40 < n.toNat
    · rw [if_pos long] at bound
      omega
    · rw [if_neg long] at bound
      simp only [long, decide_false, Bool.false_or, beq_eq_false_iff_ne]
      omega

theorem exec_byte_receiving (more : frameWhole rx = false) :
    exec (.byteCompletion b) (s.receiving rx) = .next (s.receiving (rx ++ [b])) := by
  have received : exec (.byteCompletion b) (s.receiving rx) =
      .next (s.receiving (if frameWhole rx then rx else rx ++ [b])) :=
    exec_byteCompletion_low (s := s.receiving rx) nofun (Link.receive_request _ b rfl)
  rw [received, if_neg (Bool.eq_false_iff.mp more)]

/-- The bytes of a frame enter the receive frame one after another (R168). -/
theorem runAll_receiving (room : receivable (rx ++ bytes)) :
    runAll (bytes.map .byteCompletion) (s.receiving rx) = .next (s.receiving (rx ++ bytes)) := by
  induction bytes generalizing rx with
  | nil => exact congrArg (fun rx => Host.Outcome.next (s.receiving rx)) (List.append_nil rx).symm
  | cons b bytes ih =>
    rw [List.map_cons, runAll_cons (exec_byte_receiving (frameWhole_of_receivable room)), ih (by simpa using room),
      List.append_assoc, List.singleton_append]

/-! ### The frame of a request -/

theorem byteOf_length_toNat (fits : payload.length ≤ 40) : (byteOf payload.length).toNat = payload.length := by
  simp only [byteOf, BitVec.toNat_ofNat]
  omega

theorem requestFrame_eq (code tag : Byte) (payload : List Byte) :
    requestFrame code tag payload = code :: tag :: byteOf payload.length :: payload ++
      [crc8 (code :: tag :: byteOf payload.length :: payload)] := rfl

/-- A request frame has the length its length byte announces (R168, R183). -/
theorem receivable_requestFrame (fits : payload.length ≤ 40) : receivable (requestFrame code tag payload) := by
  intro n announced
  obtain rfl : byteOf payload.length = n := Option.some.inj announced
  rw [byteOf_length_toNat fits, if_neg (Nat.not_lt.mpr fits)]
  simp [requestFrame]

/-- A request frame that a host writes is judged to be its command (R169, R171, R181). -/
theorem judgeFrame_requestFrame (wf : c.wellFormed = true) (request : c.request = some (code, payload)) :
    judgeFrame (requestFrame code tag payload) = (.awaiting c, false) := by
  have fits := request_payload_length wf request
  have length := byteOf_length_toNat fits
  rw [requestFrame_eq, judgeFrame_whole length.symm (length.trans_le fits), if_pos rfl, requestOf_request wf request]
  rfl

/-- A request frame clocked in on an idle port stands whole in the receive frame (R167, R168). -/
theorem runAll_requestFrame (idle : s.link.trans = .idle) (host : code ≠ 0) (fits : payload.length ≤ 40) :
    runAll (.selnFall :: (requestFrame code tag payload).map .byteCompletion) s =
      .next (s.receiving (requestFrame code tag payload)) :=
  (runAll_firstByte idle host).trans (runAll_receiving (rx := [code]) (receivable_requestFrame fits))

/-- Settles O53: the frame's bytes make the receive frame whole, and its frame end judges it to be its command. -/
theorem framesReachTheirOwner : Obligations.FramesReachTheirOwner := by
  intro c code tag payload s t wf request idle free run
  have fits := request_payload_length wf request
  have received := runAll_requestFrame (tag := tag) idle (request_code_ne_zero request) fits
  have judged := judgeFrame_requestFrame (tag := tag) wf request
  have whole : frameWhole (requestFrame code tag payload) = true := frameWhole_of_length (byteOf_length_toNat fits).symm
  rw [runAll_append received,
    runAll_cons (exec_requestFrameEnd_idle (s := s.receiving (requestFrame code tag payload)) whole free)] at run
  obtain rfl := Host.Outcome.next.inj run
  refine ⟨?_, congrArg Link.response (State.takeFrame_link _), congrArg Link.rx (State.takeFrame_link _),
    State.takeFrame_events (congrArg Prod.snd judged)⟩
  rw [State.takeFrame_link]
  show some (InFlight.mk tag s.link.response.isSome false (judgeFrame (requestFrame code tag payload)).1) = _
  rw [judged]

end Sys2Proof.Machine

namespace Sys2Proof.Machine

/-! ## Event flags, mask and ATTN (R189 to R191) -/

variable {s : State} {x : Half}

/-! ### The sets of event flags in two bytes -/

theorem eventSetOf_eq_none (outside : 4095 < x.toNat) : eventSetOf x = none := if_neg (by omega)

theorem eventSetOf_eq_some (flags : x.toNat ≤ 4095) : eventSetOf x = some (x.setWidth 12) := if_pos (by omega)

/-- Flag `n` is named by bit `n` of the two bytes (R184). -/
theorem setWidth_getLsbD_flag (x : Half) (n : Fin 12) : (x.setWidth 12).getLsbD n.val = x.getLsbD n.val := by
  rw [BitVec.getLsbD_setWidth, decide_eq_true n.isLt, Bool.true_and]

/-- The named flags become clear and the others stay as they were (R191). -/
theorem and_not_getLsbD_flag (f g : BitVec 12) (n : Fin 12) :
    (f &&& ~~~g).getLsbD n.val = (f.getLsbD n.val && !g.getLsbD n.val) := by
  rw [BitVec.getLsbD_and, BitVec.getLsbD_not, decide_eq_true n.isLt, Bool.true_and]

/-! ### The owner's replies -/

theorem ownClearEvents_range (outside : 4095 < x.toNat) : ownClearEvents x s = s.refuse .range := by
  simp only [ownClearEvents, eventSetOf_eq_none outside]

theorem ownWriteEventMask_range (outside : 4095 < x.toNat) : ownWriteEventMask x s = s.refuse .range := by
  simp only [ownWriteEventMask, eventSetOf_eq_none outside]

theorem ownClearEvents_flags (flags : x.toNat ≤ 4095) :
    ownClearEvents x s = ({ s with events := s.events &&& ~~~x.setWidth 12 } : State).replyOk [] := by
  simp only [ownClearEvents, eventSetOf_eq_some flags]

theorem ownWriteEventMask_flags (flags : x.toNat ≤ 4095) :
    ownWriteEventMask x s = ({ s with mask := x.setWidth 12 } : State).replyOk [] := by
  simp only [ownWriteEventMask, eventSetOf_eq_some flags]

/-! ### ATTN -/

/-- A set of flags is not empty when it holds one of them. -/
theorem ne_zero_iff_exists_flag (f : BitVec 12) : f ≠ 0 ↔ ∃ n : Fin 12, f.getLsbD n.val = true := by
  constructor
  · intro nonempty
    by_contra clear
    exact nonempty (BitVec.eq_of_getLsbD_eq fun i bound =>
      (Bool.eq_false_iff.mpr fun set => clear ⟨⟨i, bound⟩, set⟩).trans BitVec.getLsbD_zero.symm)
  · rintro ⟨n, set⟩ rfl
    exact absurd (BitVec.getLsbD_zero.symm.trans set) Bool.false_ne_true

/-- ATTN is asserted exactly while an enabled flag is set (R189). -/
theorem State.attn_iff (s : State) :
    s.attn = true ↔ ∃ n : Fin 12, s.events.getLsbD n.val = true ∧ s.mask.getLsbD n.val = true := by
  rw [State.attn, bne_iff_ne, ne_zero_iff_exists_flag]
  simp only [BitVec.getLsbD_and, Bool.and_eq_true]

/-- Settles O51: the replies of the Event Unit's three commands, and ATTN read off the enabled flags. -/
theorem eventFlagsAndMask : Obligations.EventFlagsAndMask := fun s =>
  ⟨⟨_, _, _, _, exec_answers rfl rfl, halfFrom_bytes _, halfFrom_bytes _⟩,
    fun _ outside => ⟨exec_answers rfl (ownClearEvents_range outside),
      exec_answers rfl (ownWriteEventMask_range outside)⟩,
    fun x flags => ⟨s.events &&& ~~~x.setWidth 12, exec_answers rfl (ownClearEvents_flags flags),
      fun n => (and_not_getLsbD_flag _ _ n).trans (by rw [setWidth_getLsbD_flag])⟩,
    fun x flags => ⟨x.setWidth 12, exec_answers rfl (ownWriteEventMask_flags flags), setWidth_getLsbD_flag x⟩,
    s.attn_iff, rfl, rfl⟩

end Sys2Proof.Machine
